-- ==== Sys2Proof/Word.lean ====
section
/-! DEFINITION. Bytes and 16-bit check words: the only bit vectors of the model.
Every other quantity of the manual is a number with a unit and a range (Scope, section 5.1) and is a
`Nat` or an `Int`. -/
namespace Sys2Proof

/-- One byte of a frame on any of the three ports. -/
abbrev Byte := BitVec 8

/-- The 16-bit check code of the two lines (R54, R101, R190). -/
abbrev Word16 := BitVec 16

/-- The byte that carries a figure modulo 256. -/
abbrev byte (n : Nat) : Byte := BitVec.ofNat 8 n

end Sys2Proof
end

