-- ==== Sys2Proof/Syntax.lean ====
section
/-! DEFINITION. The commands: one constructor per row of spec/opcode_table.json, with the row's operands.

A command is one of the part's steps, each whole and indivisible (95_what_each_step_holds.md): an SPI
transaction of the host, the expiry of a timer, a granted transaction, a frame the part sends, or a reply it
receives. The rows carry no operand fields, so the operands are those the row's rule speaks of: the bytes the
host shifts in, the reply a node or station gives, the store word a disturbance strikes. -/
namespace Sys2Proof

/-- R1: the six tables of the Record Store, in the order of the Patrol's round (R16). -/
inductive Tbl where
  | barges
  | couplings
  | engines
  | rudders
  | tanks
  | transfers
deriving DecidableEq, Repr

/-- R53, R54, R101, R190: what arrives on a line in answer to a frame of the part. The frame kind is the
command's own, and byte 4 is the length of `payload`. A reply that falls silent before its end, or whose kind
is none of the manual's, is the timeout command of its line. -/
structure LineReply where
  /-- Time from the end of the part's frame to the start of the reply, in µs. -/
  delay : Nat
  dest : Byte
  source : Byte
  payload : List Byte
  /-- The two check bytes as received. -/
  check : Word16
deriving DecidableEq, Repr

/-- The commands. -/
inductive Instr where
  /-- POWER_ON_RESET (R19). -/
  | powerOnReset
  /-- RESET_PIN (R188). -/
  | resetPin
  /-- BIT_ERROR (R11): the bit `bit` of the store word `word` of the record `key` goes bad. -/
  | bitError (table : Tbl) (key word bit : Nat)
  /-- STATUS_BYTE (R21): an SPI transaction that ends after `clocks` clocks, at most eight. -/
  | statusByte (clocks : Nat)
  /-- REQUEST (R22): an SPI transaction that shifts in `bytes` after the status byte. -/
  | request (bytes : List Byte)
  /-- FETCH (R24): a FETCH transaction in which `shifted` bytes are clocked out after the FETCH byte. -/
  | fetch (shifted : Nat)
  /-- LOOK (R28). -/
  | look
  /-- LOOK_NEXT (R29). -/
  | lookNext
  /-- ENROL (R30). -/
  | enrol
  /-- AMEND (R31). -/
  | amend
  /-- RETIRE (R32). -/
  | retire
  /-- RESTORE (R17). -/
  | restore
  /-- STEP (R117). -/
  | stepOrders
  /-- BREAK (R182). -/
  | breakTow
  /-- REMAKE (R184). -/
  | remake
  /-- SWEEP (R67). -/
  | sweep
  /-- TRANSFER_GO (R169). -/
  | transferGo
  /-- STOP_AT_GAP (R173). -/
  | stopAtGap
  /-- CONTINUE (R173). -/
  | continueTransfer
  /-- CONFIRM (R173). -/
  | confirm
  /-- ABORT (R174). -/
  | abortTransfer
  /-- RECEIVE (R159). -/
  | receive
  /-- SOUND (R160). -/
  | sound
  /-- NOTICES (R37). -/
  | notices
  /-- ACKNOWLEDGE (R38). -/
  | acknowledge
  /-- MASK (R37). -/
  | mask
  /-- END_OF_NOTICE (R36). -/
  | endOfNotice
  /-- RESET_LINKS (R70, R110). -/
  | resetLinks
  /-- CLEAR_STORE (R18). -/
  | clearStore
  /-- SILENCE_TIMER_EXPIRY (R34). -/
  | silenceTimerExpiry
  /-- CONSOLE_SILENCE (R34). -/
  | consoleSilence
  /-- HOLD_EXPIRY (R36). -/
  | holdExpiry
  /-- PATROL_TIMER_EXPIRY (R15). -/
  | patrolTimerExpiry
  /-- PATROL_VISIT (R16). -/
  | patrolVisit
  /-- STATUS_CALL (R58). -/
  | statusCall
  /-- STATUS_REPLY (R59). -/
  | statusReply (r : LineReply)
  /-- TOW_REPLY_TIMEOUT (R53). -/
  | towReplyTimeout
  /-- POSTING_TRANSACTION (R60). -/
  | postingTransaction
  /-- READY_ENQUIRY (R62). -/
  | readyEnquiry
  /-- COMMAND (R62). -/
  | command
  /-- ACCEPT (R62). -/
  | accept (r : LineReply)
  /-- DEFER (R62). -/
  | defer (r : LineReply)
  /-- DELIVERY_TRANSACTION (R63). -/
  | deliveryTransaction
  /-- WINCH_FAULT_TRANSACTION (R61). -/
  | winchFaultTransaction
  /-- PRESENCE_CALL (R64). -/
  | presenceCall
  /-- PRESENCE_REPLY (R65). -/
  | presenceReply (r : LineReply)
  /-- DROP_TRANSACTION (R68). -/
  | dropTransaction
  /-- LINE_RATE (R71). -/
  | lineRate
  /-- CYCLE_TIMER_EXPIRY (R99). -/
  | cycleTimerExpiry
  /-- CYCLE_COMPUTATION (R119). -/
  | cycleComputation
  /-- CYCLE_START (R100). -/
  | cycleStart
  /-- OUTPUT (R106). -/
  | output
  /-- PARAMETERS (R103). -/
  | parameters
  /-- CONFIGURATION (R104). -/
  | configuration
  /-- INPUT (R107). -/
  | input (r : LineReply)
  /-- PARAM_OK (R103). -/
  | paramOk (r : LineReply)
  /-- PARAM_FAULT (R103). -/
  | paramFault (r : LineReply)
  /-- CONFIGURATION_REPLY (R104). -/
  | configurationReply (r : LineReply)
  /-- MACHINERY_REPLY_TIMEOUT (R101). -/
  | machineryReplyTimeout
  /-- MACHINERY_POSTING (R102). -/
  | machineryPosting
  /-- FUEL_CONVERSION (R154). -/
  | fuelConversion
  /-- UNKNOWN_REQUEST_CODE (R22). -/
  | unknownRequestCode
deriving DecidableEq, Repr

end Sys2Proof
end

