-- ==== Sys2Proof/Decode.lean ====
section
/-! DEFINITION. Reading a command from the opcode table's bits.

No row of spec/opcode_table.json gives bits (98_reader.md counts 0 rows with fixed bits and 0 rows with
fields), so no word spells a command. The frames of the ports are read in `Machine/Formats.lean`. -/
namespace Sys2Proof

/-- The command that a word spells by the table's bits: none, since no row gives bits. -/
def decodeTableWord (_nbits _w : Nat) : Option Instr := none

end Sys2Proof
end

