-- ==== Sys2Proof/Config.lean ====
section
/-! DEFINITION. The figures that the part fixes for good: capacities, addresses, timeouts.
No choice of an implementation is left open here: the manual states each of them. -/
namespace Sys2Proof.Config

/-- R1: slots of the barge table. -/
def bargeSlots : Nat := 48
/-- R1: slots of the coupling table, and the greatest coupling number. -/
def couplingSlots : Nat := 128
/-- Section 1.7: bits of a store word, 32 data bits and 7 check bits. -/
def wordBits : Nat := 39
/-- R41: barges of one string. -/
def stringLength : Nat := 8
/-- R40: strings of the tow. -/
def stringCount : Nat := 6
/-- R22, R23: places of the request queue and of the response queue. -/
def queuePlaces : Nat := 4
/-- R55: entries of the node list. -/
def nodePlaces : Nat := 32
/-- R154: readings the Fuel Accountant's list holds. -/
def readingPlaces : Nat := 12
/-- R54: the greatest node address; R64's rotation runs 1..126. -/
def lastNodeAddress : Nat := 126
/-- R54: the part's own tow-line address. -/
def towOwnAddress : Nat := 127
/-- R95: the part's own machinery-link address. -/
def linkOwnAddress : Nat := 32
/-- R54, R95: the broadcast address of both lines. -/
def broadcast : Nat := 0
/-- R15: interval of the Patrol's timer, in µs. -/
def patrolIntervalUs : Nat := 2000
/-- R36: the end-of-notice hold, in µs. -/
def holdUs : Nat := 50
/-- R101: the machinery reply timeout, in µs. -/
def linkReplyTimeoutUs : Nat := 400
/-- R103: the least time between two admissions of an OFFLINE context, in µs. -/
def retryUs : Nat := 1000000
/-- R123: the limit figure that stands for no limit. -/
def noLimit : Nat := 4294967295
/-- R8: the greatest value of a saturating 16-bit count. -/
def countMax : Nat := 65535
/-- R190: the greatest payload length of a line frame. -/
def maxPayload : Nat := 64
/-- R14, R49: mass counted for a damaged barge, in t. -/
def damagedMass : Nat := 4000
/-- R137: divisor of the flank demand, in tenths of a degree. -/
def fullRudder : Nat := 350

end Sys2Proof.Config
end

