-- ==== Sys2Proof/Machine/State.lean ====
section
/-! DEFINITION. The state of the TC48: every record, block state, queue and timer the manual names.

Records are kept as the manual gives them: directory fields and store-word fields (R2). Where a field's value
is a code (Chapter 12), it is an inductive type; where it is a figure with a unit, it is a `Nat` or an `Int`.
The fields `clock`, `pending`, `stamps`, the `sent` frames and `spiOut` are the MODEL's own (log 1, 2, 4). -/
namespace Sys2Proof.Machine

/-- R73: BOAT, or a hull number. -/
inductive Member where
  | boat
  | barge (hull : Nat)
deriving DecidableEq, Repr

/-- R73. -/
inductive CouplingKind where
  | face
  | long
  | breast
deriving DecidableEq, Repr

/-- R73: tending, with the tending member and winch index of a winch-tended coupling. -/
inductive Tending where
  | hand
  | winch (member : Member) (index : Nat)
deriving DecidableEq, Repr

/-- R73. -/
inductive TendOrder where
  | none
  | make
  | release
deriving DecidableEq, Repr

/-- R73: the coupling states. -/
inductive CouplingState where
  | unlashed
  | settling
  | made
  | slack
  | strained
  | overload
  | lost
  | releasing
deriving DecidableEq, Repr

/-- R112, R134: the state of an engine or a rudder channel. -/
inductive UnitState where
  | offline
  | admitting
  | running
  | rejected
deriving DecidableEq, Repr

/-- R112: last direction. -/
inductive Direction where
  | none
  | ahead
  | astern
deriving DecidableEq, Repr

/-- R134. -/
inductive RudderKind where
  | steering
  | flanking
deriving DecidableEq, Repr

/-- R148. -/
inductive TankKind where
  | storage
  | day
deriving DecidableEq, Repr

/-- R165. -/
inductive TransferMode where
  | single
  | counted
  | opened
deriving DecidableEq, Repr

/-- R165: held reason. -/
inductive HeldReason where
  | gapRequest
  | checkpoint
  | sourceLow
  | destFull
  | pumpLost
  | tankDamaged
deriving DecidableEq, Repr

/-- R165: stop cause. -/
inductive StopCause where
  | batchEnd
  | checkpoint
  | sourceLow
  | destFull
  | tankDamaged
  | aborted
deriving DecidableEq, Repr

/-- R165: end reason. -/
inductive EndReason where
  | complete
  | aborted
deriving DecidableEq, Repr

/-- R165, R167: the transfer's state with the field that is present in it: the stop cause in STOPPING, the held
reason in HELD, the end reason in ENDED. -/
inductive TransferState where
  | idle
  | running
  | stopping (cause : StopCause)
  | held (reason : HeldReason)
  | ended (reason : EndReason)
deriving DecidableEq, Repr

/-- R179. -/
inductive Phase where
  | whole
  | breaking
  | split
  | remaking
deriving DecidableEq, Repr

/-- R179: a cut 1..4, NONE or CONFLICT. -/
inductive BoatCut where
  | none
  | cut (k : Nat)
  | conflict
deriving DecidableEq, Repr

/-- R95: station kinds. -/
inductive StationKind where
  | engine
  | rudder
  | meter
  | pump
  | gauge
deriving DecidableEq, Repr

/-- R97: the admission state of a station context. -/
inductive ContextState where
  | offline
  | parameterize
  | configure
  | exchange
  | rejected
deriving DecidableEq, Repr

/-- Section 4.4: a winch command, with its target in kN where it has one. -/
inductive WinchCommand where
  | heave (target : Nat)
  | ease (target : Nat)
  | payOut
  | hold
  | stop
deriving DecidableEq, Repr

/-- R35: the nine causes. -/
inductive Cause where
  | coupling
  | node
  | station
  | limit
  | fuel
  | transfer
  | lockage
  | store
  | console
deriving DecidableEq, Repr

/-- R10: the requesters of the store. -/
inductive Requester where
  | console
  | towLine
  | machinery
  | coordination
  | fuel
  | patrol
deriving DecidableEq, Repr

/-- R2, R11: a record's damaged flag, and the bad bits of its store words as (word, bit) pairs. -/
structure Header where
  damaged : Bool
  bad : List (Nat × Nat)
deriving DecidableEq, Repr

/-- R39: a barge record. Hull, string and node address are directory fields; the place is the position in the
table, and the rank is derived (R40). -/
structure Barge where
  hull : Nat
  string : Nat
  node : Option Nat
  laden : Nat
  draft : Nat
  bowFitted : Bool
  header : Header
deriving DecidableEq, Repr

/-- R73: a coupling record. Number, kind, ends and tending are directory fields. The two timers are the
Coupling Supervisor's (R78) and hold the clock at their start. `dropSeen` records that a drop of the node has
written LOST into the damaged record (R92: this happens once). -/
structure Coupling where
  number : Nat
  kind : CouplingKind
  endA : Member
  endB : Nat
  tending : Tending
  rated : Nat
  tendOrder : TendOrder
  declaredMade : Bool
  state : CouplingState
  tension : Option Nat
  seated : Option Bool
  winchFault : Bool
  crossing : Bool
  header : Header
  debounce : Option Nat
  slackTimer : Option Nat
  dropSeen : Bool
deriving DecidableEq, Repr

/-- R112: an engine record. Station address, bow barge, meter address and supply tank are directory fields;
station address and supply tank are present for engines 1 to 4, the bow barge for engine 5. -/
structure Engine where
  number : Nat
  station : Option Nat
  bowBarge : Option Nat
  meter : Option Nat
  supply : Option Nat
  rated : Nat
  meterFactor : Option Nat
  staged : Int
  next : Int
  live : Int
  allowed : Int
  sent : Int
  delivered : Option Int
  alarm : Bool
  state : UnitState
  lastDirection : Direction
  zeroTime : Nat
  consumed : Nat
  undebited : Nat
  header : Header
deriving DecidableEq, Repr

/-- R134: a rudder channel record. Shaft and station address are directory fields. -/
structure Rudder where
  channel : Nat
  kind : RudderKind
  shaft : Nat
  station : Nat
  limit : Nat
  rate : Nat
  staged : Int
  next : Int
  live : Int
  allowed : Int
  sent : Int
  feedback : Option Int
  state : UnitState
  header : Header
deriving DecidableEq, Repr

/-- R148: a tank record. Kind and gauge address are directory fields. -/
structure Tank where
  number : Nat
  kind : TankKind
  gauge : Option Nat
  capacity : Nat
  lowMark : Nat
  content : Nat
  opening : Nat
  received : Nat
  transferredIn : Nat
  transferredOut : Nat
  drawn : Nat
  adjustments : Int
  shortfall : Nat
  low : Bool
  gauged : Option Nat
  header : Header
deriving DecidableEq, Repr

/-- R165: a transfer record. Pump station address, source and destination are directory fields. The pump
command and the quiet count are the Transfer Sequencer's (R167). -/
structure Transfer where
  number : Nat
  pump : Nat
  source : Nat
  destination : Nat
  factor : Nat
  batchVolume : Nat
  mode : TransferMode
  batchCount : Option Nat
  interval : Nat
  batchesDone : Nat
  batchMoved : Nat
  totalMoved : Nat
  heldVolume : Nat
  state : TransferState
  gapRequest : Bool
  pendingAbort : Bool
  mark : Option Nat
  header : Header
  pumpRun : Bool
  quiet : Nat
deriving DecidableEq, Repr

/-- R6: the policy record; the tow-line rate is in tenths of a kbit/s (R188). -/
structure Policy where
  boatMass : Nat
  aheadFactor : Nat
  asternFactor : Nat
  flankFactor : Nat
  slewConstant : Nat
  reversalDwell : Nat
  machineryCycle : Nat
  breakLimit : Nat
  slackLimit : Nat
  slackTime : Nat
  strainLimit : Nat
  makeUpTension : Nat
  debounceTime : Nat
  towLineRate : Nat
  boatNode : Nat
  consoleSilence : Nat
  expansion : Nat
  overfillMargin : Nat
deriving DecidableEq, Repr

/-- R6: the defaults. -/
def Policy.default : Policy :=
  { boatMass := 1200, aheadFactor := 1500, asternFactor := 800, flankFactor := 1000, slewConstant := 100000,
    reversalDwell := 3000, machineryCycle := 20, breakLimit := 150, slackLimit := 50, slackTime := 5000,
    strainLimit := 800, makeUpTension := 150, debounceTime := 2000, towLineRate := 1536, boatNode := 0,
    consoleSilence := 0, expansion := 83, overfillMargin := 200 }

/-- R8: the tow status record. -/
structure TowStatus where
  cycleCount : Nat
  stepNumber : Nat
  stepWaiting : Bool
  superseded : Nat
  overruns : Nat
  corrected : Nat
  damagedEvents : Nat
  unpostedReadings : Nat
  unpostedPulses : Nat
  silenceEvents : Nat
  turnedAway : Nat
  faceSum : Nat
  longSum : Nat
  breastSum : Nat
  limitAhead : Nat
  limitAstern : Nat
  limitFlank : Nat
  limitBow : Nat
  towMass : Nat
  limiting : Bool
deriving DecidableEq, Repr

/-- R8: every field zero. -/
def TowStatus.zero : TowStatus :=
  { cycleCount := 0, stepNumber := 0, stepWaiting := false, superseded := 0, overruns := 0, corrected := 0,
    damagedEvents := 0, unpostedReadings := 0, unpostedPulses := 0, silenceEvents := 0, turnedAway := 0,
    faceSum := 0, longSum := 0, breastSum := 0, limitAhead := 0, limitAstern := 0, limitFlank := 0,
    limitBow := 0, towMass := 0, limiting := false }

/-- R179: the lockage record. -/
structure Lockage where
  phase : Phase
  breaks : List Nat
  boatCut : BoatCut
  remaining : Nat
deriving DecidableEq, Repr

/-- R179: WHOLE, no break ranks, boat cut NONE, crossing remaining 0. -/
def Lockage.initial : Lockage := { phase := .whole, breaks := [], boatCut := .none, remaining := 0 }

/-- R35: one cause's pending flag, mask flag and event count. -/
structure Notice where
  pending : Bool
  mask : Bool
  count : Nat
deriving DecidableEq, Repr

/-- R35: a cause after power-on reset. -/
def Notice.initial : Notice := { pending := false, mask := true, count := 0 }

/-- R35, R36: the Notice Unit. `hold` is the clock at the start of a running end-of-notice hold. -/
structure NoticeUnit where
  coupling : Notice
  node : Notice
  station : Notice
  limit : Notice
  fuel : Notice
  transfer : Notice
  lockage : Notice
  store : Notice
  console : Notice
  hold : Option Nat
deriving DecidableEq, Repr

/-- R35: the Notice Unit after power-on reset. -/
def NoticeUnit.initial : NoticeUnit :=
  { coupling := .initial, node := .initial, station := .initial, limit := .initial, fuel := .initial,
    transfer := .initial, lockage := .initial, store := .initial, console := .initial, hold := none }

/-- R10: the Store Arbiter's waiting set and round-robin pointer. -/
structure Arbiter where
  console : Bool
  towLine : Bool
  machinery : Bool
  coordination : Bool
  fuel : Bool
  patrol : Bool
  pointer : Requester
deriving DecidableEq, Repr

/-- R10: nobody waits and the pointer names the Console Port. -/
def Arbiter.initial : Arbiter :=
  { console := false, towLine := false, machinery := false, coordination := false, fuel := false,
    patrol := false, pointer := .console }

/-- A running timer: the clock at its start and its full time, both in µs. -/
structure Timer where
  start : Nat
  period : Nat
deriving DecidableEq, Repr

/-- R15: the Patrol's position, a table and a place in its order (none: before the first barge place), and the
start of its interval timer. -/
structure Patrol where
  position : Option (Tbl × Nat)
  start : Nat
deriving DecidableEq, Repr

/-- R22: a request as it stands in the request queue; `body` holds the bytes after the table code, which the
port does not examine when the request joins. -/
structure Request where
  tag : Byte
  code : Byte
  table : Byte
  body : List Byte
deriving DecidableEq, Repr

/-- R23: result codes; BAD_FIELD names the field. EMPTY is no response of a request. -/
inductive Result where
  | done
  | doneClamped
  | noRecord
  | duplicate
  | full
  | inUse
  | wrongState
  | badField (field : Nat)
  | addressInUse
  | damaged
  | badRequest
deriving DecidableEq, Repr

/-- R23, R189: an item of a response; `width` is set for the items sent at a fixed length. -/
structure ResponseItem where
  field : Nat
  value : Int
  width : Option Nat
deriving DecidableEq, Repr

/-- R23: a response in the response queue. -/
structure Response where
  tag : Byte
  code : Byte
  result : Result
  items : List ResponseItem
deriving DecidableEq, Repr

/-- Chapter 2: the Console Port. `silenceDue` counts expiries of the silence timer whose transaction has not
been asked for yet, and `askedSilence` says what the waiting transaction is (R34). `spiOut` holds the bytes
shifted out in the last SPI transaction. -/
structure ConsolePort where
  requests : List Request
  responses : List Response
  overrun : Bool
  silence : Option Timer
  silenceDue : Nat
  askedSilence : Bool
  spiOut : List Byte
deriving DecidableEq, Repr

/-- R25: the Console Port after power-on reset. -/
def ConsolePort.initial : ConsolePort :=
  { requests := [], responses := [], overrun := false, silence := none, silenceDue := 0, askedSilence := false,
    spiOut := [] }

/-- Section 4.4: a held command with its count of failed deliveries. `stamp` tells one placing of a command
from the next (R62: a command placed again is not the command that was sent). -/
structure Slot where
  command : WinchCommand
  stamp : Nat
  failures : Nat
deriving DecidableEq, Repr

/-- R55: an entry of the node list. `bow` is what the node reported itself in its PRESENCE REPLY; the kind of
field 2 and the bound member of field 10 follow from the binding (R56). `slots` has one place per winch. -/
structure Node where
  address : Nat
  bow : Bool
  winches : Nat
  missing : Bool
  misses : Nat
  slots : List (Option Slot)
deriving DecidableEq, Repr

/-- What the Tow-Line Controller is doing between two readinesses (R57 to R63): the exchange under way, the
transaction it waits for, or the next exchange of a delivery. `carried` holds the winch and the stamp of each
slot that the frame named. -/
inductive TowPhase where
  | ready
  | statusCall (address : Nat)
  | posting (address : Nat) (readings : List (Nat × Bool)) (bow : Option (Int × Bool))
  | dropping (address : Nat)
  | enquiryDue (address : Nat)
  | enquiry (address : Nat) (carried : List (Nat × Nat))
  | commandDue (address : Nat)
  | commanding (address : Nat) (carried : List (Nat × Nat))
  | delivering (address : Nat) (accepted : List Nat)
  | faulting
  | presence (address : Nat)
deriving DecidableEq, Repr

/-- What the part puts into a frame that it sends on a line. -/
structure LineFrame where
  dest : Nat
  kind : Nat
  payload : List Byte
deriving DecidableEq, Repr

/-- R61: a winch fault flag that is owed: the command for winch `winch` of a member exceeded the winch count of the
listed node that serves it. -/
structure OwedFault where
  member : Member
  winch : Nat
deriving DecidableEq, Repr

/-- Chapter 4: the Tow-Line Controller. `visitLast` says that the last exchange was a node visit (R57),
`lineRate` is the rate in force on the line and `rateChange` a new rate still to be announced (R71),
`discard` that the reply of the exchange under way is to be discarded (R70), `faults` the winches whose
command exceeded their node's winch count (R61), and `sent` the bytes of each frame of the last sending step. -/
structure TowLine where
  nodes : List Node
  pointer : Nat
  round : Nat
  sweep : Option Nat
  visitLast : Bool
  lineRate : Nat
  rateChange : Option Nat
  phase : TowPhase
  discard : Bool
  faults : List OwedFault
  stamps : Nat
  sent : List (List Byte)
deriving DecidableEq, Repr

/-- R72: the Tow-Line Controller after power-on reset. -/
def TowLine.initial : TowLine :=
  { nodes := [], pointer := 1, round := 0, sweep := none, visitLast := false, lineRate := 1536,
    rateChange := none, phase := .ready, discard := false, faults := [], stamps := 0, sent := [] }

/-- R103: the parameter copy of a station context. -/
inductive Parameters where
  | engine (rated : Nat)
  | rudder (limit rate : Nat)
  | factor (microlitres : Nat)
  | gauge (capacity : Nat)
deriving DecidableEq, Repr

/-- R97: a station context. `retry` is the clock when it last began an admission, and none when it never has
(the retry timer is then due, R103). -/
structure Context where
  address : Nat
  kind : StationKind
  key : Nat
  state : ContextState
  misses : Nat
  baseline : Option Nat
  residual : Nat
  lastTemperature : Option Int
  retry : Option Nat
  parameters : Parameters
deriving DecidableEq, Repr

/-- R107: the values of a good INPUT. -/
inductive InputValues where
  | engine (delivered : Int) (alarm : Bool)
  | rudder (feedback : Int)
  | meter (count : Nat) (temperature : Option Int)
  | pump (count : Nat) (temperature : Option Int) (running : Bool)
  | gauge (litres : Nat)
deriving DecidableEq, Repr

/-- R102: the outcome of a slot. -/
inductive SlotOutcome where
  | miss
  | paramOk
  | paramFault
  | configuration (kind channels : Nat)
  | input (values : InputValues)
deriving DecidableEq, Repr

/-- R102: a result waiting to be posted: the context's address, the state it held when its slot came, the
outcome, and the stale mark of R105. -/
structure SlotResult where
  address : Nat
  held : ContextState
  outcome : SlotOutcome
  stale : Bool
deriving DecidableEq, Repr

/-- R101: the exchange under way on the machinery link. `stale` says that its result is to be discarded. -/
structure LinkExchange where
  address : Nat
  held : ContextState
  stale : Bool
deriving DecidableEq, Repr

/-- R128: a cycle output set: the sent order of each enrolled engine and the sent angle of each channel. -/
structure OutputSet where
  cycleCount : Nat
  stepNumber : Nat
  orders : List (Nat × Int)
  angles : List (Nat × Int)
deriving DecidableEq, Repr

/-- R100: a cycle in progress: its copy of the output set and the addresses whose slots are still to come. -/
structure Cycle where
  copy : OutputSet
  slots : List Nat
deriving DecidableEq, Repr

/-- Chapter 6: the Machinery-Link Controller. `latest` is the newest output set and `fresh` says that it was
written since the previous CYCLE START; `cycle` is none when the previous cycle has ended (R99); `sent` holds the
bytes of each frame of the last sending step. -/
structure MachineryLink where
  contexts : List Context
  timer : Timer
  latest : Option OutputSet
  fresh : Bool
  cycle : Option Cycle
  exchange : Option LinkExchange
  results : List SlotResult
  sent : List (List Byte)
deriving DecidableEq, Repr

/-- R111: the Machinery-Link Controller after power-on reset; the cycle timer runs with the default of 20 ms. -/
def MachineryLink.initial : MachineryLink :=
  { contexts := [], timer := { start := 0, period := 20000 }, latest := none, fresh := false, cycle := none,
    exchange := none, results := [], sent := [] }

/-- R154: a reading handed to the Fuel Accountant; `running` is the flag of a pump. -/
structure Reading where
  address : Nat
  count : Nat
  temperature : Option Int
  running : Bool
deriving DecidableEq, Repr

/-- The whole state. `pending` is the queue of commands still to be taken, first in, first out. `clock` counts
µs since reset (log 2). `strings` is the string boundary table (R40), `readings` the Fuel Accountant's list
(R154), and `openedPeriod` the period in ms of the timer run that opened the waiting cycle computation (R119). -/
structure State where
  pending : List Instr
  clock : Nat
  barges : List Barge
  strings : List Nat
  couplings : List Coupling
  engines : List Engine
  rudders : List Rudder
  tanks : List Tank
  transfers : List Transfer
  policy : Policy
  status : TowStatus
  lockage : Lockage
  notices : NoticeUnit
  arbiter : Arbiter
  patrol : Patrol
  console : ConsolePort
  tow : TowLine
  link : MachineryLink
  openedPeriod : Nat
  readings : List Reading
deriving DecidableEq, Repr

/-- The reasons the machine could stop with. The manual names no event at which the part stops: every command
is taken in every state, so there is no constructor. -/
inductive Fault where
deriving DecidableEq, Repr

/-- The reasons a command could be refused. -/
inductive Refusal where
  /-- Raised by `exec`'s arm of a command that has no meaning yet; safe. No arm is left that raises it. -/
  | notModelled (mnemonic : String)
deriving DecidableEq, Repr

/-- R19, R25, R35, R52, R72, R94, R111, R133, R141, R147, R164, R178, R179: the part right after power-on reset,
with no command waiting. -/
def State.reset : State :=
  { pending := [], clock := 0, barges := [], strings := [0, 0, 0, 0, 0, 0], couplings := [], engines := [],
    rudders := [], tanks := [], transfers := [], policy := .default, status := .zero, lockage := .initial,
    notices := .initial, arbiter := .initial, patrol := { position := none, start := 0 },
    console := .initial, tow := .initial, link := .initial, openedPeriod := 0, readings := [] }

end Sys2Proof.Machine
end

