-- ==== Sys2Proof/Machine/Formats.lean ====
section
/-! DEFINITION. Figures, frames and the check code (Chapter 12): how bytes stand for figures on the three ports. -/
namespace Sys2Proof.Machine

/-- R188: a figure in `w` bytes, most significant byte first. -/
def beBytes : Nat → Nat → List Byte
  | 0, _ => []
  | w + 1, n => byte (n / 256 ^ w) :: beBytes w n

/-- R188: the figure that bytes carry, most significant byte first. -/
def beNat (bs : List Byte) : Nat := bs.foldl (fun n b => n * 256 + b.toNat) 0

/-- R188: a signed figure in `w` bytes of two's complement. -/
def intBytes (w : Nat) (v : Int) : List Byte := beBytes w (v % (256 ^ w : Nat)).toNat

/-- R188, R189: the signed figure that bytes carry; a value shorter than 8 bytes is sign-extended. -/
def beInt (bs : List Byte) : Int :=
  if beNat bs < 256 ^ bs.length / 2 then beNat bs else (beNat bs : Int) - (256 ^ bs.length : Nat)

/-- R189: the shortest of 1, 2, 4 and 8 bytes that holds a signed value. -/
def shortestWidth (v : Int) : Nat :=
  if -128 ≤ v ∧ v < 128 then 1
  else if -32768 ≤ v ∧ v < 32768 then 2
  else if -2147483648 ≤ v ∧ v < 2147483648 then 4
  else 8

/-- R188: a flag as one byte. -/
def flagByte (b : Bool) : Byte := if b then 1 else 0

/-- A flag as the value of an item. -/
def flagInt (b : Bool) : Int := if b then 1 else 0

/-- R190: one bit of the check code, generator x^16 + x^12 + x^5 + 1, most significant bit first. -/
def crcBit (c : Word16) : Word16 := if c.msb then (c <<< 1) ^^^ 0x1021 else c <<< 1

/-- R190: one byte of the check code. -/
def crcByte (c : Word16) (b : Byte) : Word16 :=
  crcBit (crcBit (crcBit (crcBit (crcBit (crcBit (crcBit (crcBit (c ^^^ (b.zeroExtend 16 <<< 8)))))))))

/-- R54, R101, R190: the CRC-16 over bytes, starting from 0xFFFF, with no reflection and no final inversion. -/
def crc16 (bs : List Byte) : Word16 := bs.foldl crcByte 0xFFFF

/-- Section 12.2: bytes 1 to 4+n of a line frame. -/
def frameHead (dest source : Byte) (kind : Nat) (payload : List Byte) : List Byte :=
  dest :: source :: byte kind :: byte payload.length :: payload

/-- Section 12.2, R190: the bytes of a frame the part sends, from its own address on that line. -/
def LineFrame.bytes (f : LineFrame) (own : Nat) : List Byte :=
  let head := frameHead (byte f.dest) (byte own) f.kind f.payload
  head ++ beBytes 2 (crc16 head).toNat

/-- R54, R101, R190: what makes a reply good whatever its kind: it starts within the timeout (in µs), its length
is at most 64 and the length its kind and its sender give, its check code is right, its destination is the
part and its source the address the part called. -/
def LineReply.framed (r : LineReply) (timeout own called kind length : Nat) : Bool :=
  decide (r.delay ≤ timeout) && decide (r.payload.length ≤ Config.maxPayload) &&
    decide (r.payload.length = length) && r.dest == byte own && r.source == byte called &&
    r.check == crc16 (frameHead r.dest r.source kind r.payload)

/-- R23: the result codes. -/
def Result.code : Result → Byte
  | .done => 0x00
  | .doneClamped => 0x01
  | .noRecord => 0x10
  | .duplicate => 0x11
  | .full => 0x12
  | .inUse => 0x13
  | .wrongState => 0x14
  | .badField _ => 0x15
  | .addressInUse => 0x16
  | .damaged => 0x17
  | .badRequest => 0x1F

/-- R189: an item of a response. -/
def ResponseItem.bytes (i : ResponseItem) : List Byte :=
  let w := i.width.getD (shortestWidth i.value)
  byte i.field :: byte w :: intBytes w i.value

/-- Section 12.1: what a response carries after its result code: the field of BAD_FIELD, or its items. -/
def Response.tail (r : Response) : List Byte :=
  match r.result with
  | .badField f => [byte f]
  | _ => r.items.flatMap ResponseItem.bytes

/-- Section 12.1: a response as the bytes a FETCH shifts out. -/
def Response.bytes (r : Response) : List Byte :=
  let body := r.tag :: r.code :: r.result.code :: r.tail
  0x5A :: byte body.length :: body

/-- Section 12.1, R24: the EMPTY frame, which carries no tag. -/
def emptyFrame : List Byte := [0x5A, 1, 0xFF]

end Sys2Proof.Machine
end

