-- ==== Sys2Proof/Machine/Flags.lean ====
section
/-! DEFINITION. The flags: notices and the notice line (section 2.5), the status byte (R21), saturating counts
(R8), and the states that tests of other blocks group together. -/
namespace Sys2Proof.Machine

/-- Section 5.3, R8: a 16-bit count that saturates at 65535. -/
def saturate (count added : Nat) : Nat := min Config.countMax (count + added)

/-- R35: one cause of the Notice Unit. -/
def NoticeUnit.get (u : NoticeUnit) : Cause → Notice
  | .coupling => u.coupling
  | .node => u.node
  | .station => u.station
  | .limit => u.limit
  | .fuel => u.fuel
  | .transfer => u.transfer
  | .lockage => u.lockage
  | .store => u.store
  | .console => u.console

/-- Writes one cause of the Notice Unit. -/
def NoticeUnit.put (u : NoticeUnit) (c : Cause) (n : Notice) : NoticeUnit :=
  match c with
  | .coupling => { u with coupling := n }
  | .node => { u with node := n }
  | .station => { u with station := n }
  | .limit => { u with limit := n }
  | .fuel => { u with fuel := n }
  | .transfer => { u with transfer := n }
  | .lockage => { u with lockage := n }
  | .store => { u with store := n }
  | .console => { u with console := n }

/-- R35: a raise sets pending and adds 1 to the event count, which wraps from 255 to 0. -/
def NoticeUnit.raise (u : NoticeUnit) (c : Cause) : NoticeUnit :=
  u.put c { (u.get c) with pending := true, count := ((u.get c).count + 1) % 256 }

/-- Section 2.5: the causes in cause order. -/
def causes : List Cause :=
  [.coupling, .node, .station, .limit, .fuel, .transfer, .lockage, .store, .console]

/-- Section 2.5: the cause of a number 1..9. -/
def causeOf (n : Int) : Option Cause :=
  match n with
  | 1 => some .coupling
  | 2 => some .node
  | 3 => some .station
  | 4 => some .limit
  | 5 => some .fuel
  | 6 => some .transfer
  | 7 => some .lockage
  | 8 => some .store
  | 9 => some .console
  | _ => none

/-- Section 2.5: the number of a cause. -/
def Cause.number : Cause → Nat
  | .coupling => 1
  | .node => 2
  | .station => 3
  | .limit => 4
  | .fuel => 5
  | .transfer => 6
  | .lockage => 7
  | .store => 8
  | .console => 9

/-- R36: the notice line is asserted when some cause is pending with its mask flag clear and no hold runs. -/
def NoticeUnit.line (u : NoticeUnit) : Bool :=
  u.hold.isNone && causes.any fun c => (u.get c).pending && !(u.get c).mask

/-- R35: a raise, as it reaches the Notice Unit. -/
def State.raise (s : State) (c : Cause) : State := { s with notices := s.notices.raise c }

/-- R21: free request slots. -/
def ConsolePort.freeSlots (p : ConsolePort) : Nat := Config.queuePlaces - p.requests.length

/-- R21, section 12.1: the status byte. -/
def statusByteOf (s : State) : Byte :=
  byte (s.console.freeSlots * 32 + s.console.responses.length * 4 +
    (if s.notices.line then 2 else 0) + (if s.console.overrun then 1 else 0))

/-- R73: the MADE group. -/
def CouplingState.inMadeGroup : CouplingState → Bool
  | .made => true
  | .slack => true
  | .strained => true
  | .overload => true
  | .unlashed => false
  | .settling => false
  | .lost => false
  | .releasing => false

/-- R92: the state a coupling presents to tests of other blocks. -/
def Coupling.presents (c : Coupling) : CouplingState := if c.header.damaged then .lost else c.state

/-- R186: a FACE coupling holds the boat when it presents MADE, SLACK or STRAINED. -/
def CouplingState.holdsBoat : CouplingState → Bool
  | .made => true
  | .slack => true
  | .strained => true
  | .overload => false
  | .unlashed => false
  | .settling => false
  | .lost => false
  | .releasing => false

/-- R166, R18: RUNNING or STOPPING. -/
def TransferState.inFlight : TransferState → Bool
  | .running => true
  | .stopping _ => true
  | .idle => false
  | .held _ => false
  | .ended _ => false

/-- R166: IDLE or ENDED, the states in which SET fields may change and GO is taken. -/
def TransferState.atRest : TransferState → Bool
  | .idle => true
  | .ended _ => true
  | .running => false
  | .stopping _ => false
  | .held _ => false

/-- R165: the held reason, present in HELD. -/
def TransferState.heldReason? : TransferState → Option HeldReason
  | .held r => some r
  | .idle => none
  | .running => none
  | .stopping _ => none
  | .ended _ => none

/-- R165: the stop cause, present in STOPPING. -/
def TransferState.stopCause? : TransferState → Option StopCause
  | .stopping c => some c
  | .idle => none
  | .running => none
  | .held _ => none
  | .ended _ => none

/-- R165: the end reason, present in ENDED. -/
def TransferState.endReason? : TransferState → Option EndReason
  | .ended r => some r
  | .idle => none
  | .running => none
  | .stopping _ => none
  | .held _ => none

/-- R73: winch-tended. -/
def Coupling.winchTended (c : Coupling) : Bool :=
  match c.tending with
  | .hand => false
  | .winch _ _ => true

/-- R73: winch-tended by a member. -/
def Coupling.tendedBy (c : Coupling) (m : Member) : Bool :=
  match c.tending with
  | .hand => false
  | .winch m' _ => m' == m

/-- R60: winch-tended by winch `k` of a member. -/
def Coupling.tendedByWinch (c : Coupling) (m : Member) (k : Nat) : Bool :=
  match c.tending with
  | .hand => false
  | .winch m' k' => m' == m && k' == k

end Sys2Proof.Machine
end

