-- ==== Sys2Proof/Machine/Layout.lean ====
section
/-! DEFINITION. The store words of each table's records (R2, R11).

R2 says which fields the directory holds; the store words hold the others. R112, R148 and R165 give some
figures two words each. The manual does not say which of the remaining fields share a word.
DESIGN CHOICE (log 3), unsafe: each field has a word of its own, named by its field number, and the second
word of a 64-bit figure is named by the field number plus 32. -/
namespace Sys2Proof.Machine

/-- The second word of the 64-bit figure of a field. -/
def high (field : Nat) : Nat := field + 32

/-- Both words of a 64-bit figure. -/
def wide (field : Nat) : List Nat := [field, high field]

/-- R2, R39, R73, R112, R134, R148, R165: the store words of a record of the table. -/
def wordsOf : Tbl → List Nat
  | .barges => [4, 5, 7]
  | .couplings => [8, 9, 10, 11, 12, 13, 14, 15]
  | .engines => [4, 6, 8, 9, 10, 11, 12, 13, 14, 15, 16, 17] ++ wide 18 ++ wide 19
  | .rudders => [2, 5, 6, 7, 8, 9, 10, 11, 12, 13]
  | .tanks =>
    [3, 4] ++ wide 6 ++ wide 7 ++ wide 8 ++ wide 9 ++ wide 10 ++ wide 11 ++ wide 12 ++ wide 13 ++ [14, 15]
  | .transfers => [3, 6, 7, 8, 9, 10, 11] ++ wide 12 ++ [13, 14, 15, 16, 17, 18, 19, 20]

end Sys2Proof.Machine
end

