-- ==== Sys2Proof/Machine/Ops.lean ====
section
/-! DEFINITION. The named operations over the records: tables, places and cuts, transactions, reads and writes of
store words, damage (sections 1.1 to 1.7).

A transaction is carried by `Txn`: the state with the transaction's writes so far, the winch commands it has
produced, and whether it has touched a coupling (R183). -/
namespace Sys2Proof.Machine

/-! ## Tables -/

/-- Changes the entries of a table that a test picks. -/
def update {α : Type} (p : α → Bool) (f : α → α) (l : List α) : List α := l.map fun a => if p a then f a else a

/-- R1: enters a record at its place in ascending key order. -/
def insertByKey {α : Type} (key : α → Nat) (a : α) : List α → List α
  | [] => [a]
  | b :: l => if key a < key b then a :: b :: l else b :: insertByKey key a l

/-- R5: the lowest number from `n` on that is not taken, looking at `fuel` numbers. -/
def lowestFree (taken : List Nat) : Nat → Nat → Nat
  | 0, n => n
  | fuel + 1, n => if taken.contains n then lowestFree taken fuel (n + 1) else n

def State.barge? (s : State) (hull : Nat) : Option Barge := s.barges.find? (·.hull == hull)
def State.coupling? (s : State) (n : Nat) : Option Coupling := s.couplings.find? (·.number == n)
def State.engine? (s : State) (n : Nat) : Option Engine := s.engines.find? (·.number == n)
def State.rudder? (s : State) (n : Nat) : Option Rudder := s.rudders.find? (·.channel == n)
def State.tank? (s : State) (n : Nat) : Option Tank := s.tanks.find? (·.number == n)
def State.transfer? (s : State) (n : Nat) : Option Transfer := s.transfers.find? (·.number == n)
def State.node? (s : State) (address : Nat) : Option Node := s.tow.nodes.find? (·.address == address)
def State.context? (s : State) (address : Nat) : Option Context := s.link.contexts.find? (·.address == address)

/-- R2: a record's directory header. -/
def State.header? (s : State) (t : Tbl) (key : Nat) : Option Header :=
  match t with
  | .barges => (s.barge? key).map (·.header)
  | .couplings => (s.coupling? key).map (·.header)
  | .engines => (s.engine? key).map (·.header)
  | .rudders => (s.rudder? key).map (·.header)
  | .tanks => (s.tank? key).map (·.header)
  | .transfers => (s.transfer? key).map (·.header)

/-- Changes a record's header. -/
def State.modHeader (s : State) (t : Tbl) (key : Nat) (f : Header → Header) : State :=
  match t with
  | .barges => { s with barges := update (·.hull == key) (fun r => { r with header := f r.header }) s.barges }
  | .couplings =>
    { s with couplings := update (·.number == key) (fun r => { r with header := f r.header }) s.couplings }
  | .engines =>
    { s with engines := update (·.number == key) (fun r => { r with header := f r.header }) s.engines }
  | .rudders =>
    { s with rudders := update (·.channel == key) (fun r => { r with header := f r.header }) s.rudders }
  | .tanks => { s with tanks := update (·.number == key) (fun r => { r with header := f r.header }) s.tanks }
  | .transfers =>
    { s with transfers := update (·.number == key) (fun r => { r with header := f r.header }) s.transfers }

/-- The record is enrolled and its damaged flag is clear. -/
def State.sound (s : State) (t : Tbl) (key : Nat) : Bool :=
  match s.header? t key with
  | some h => !h.damaged
  | none => false

/-- R11: a write of words leaves them free of error. -/
def Header.renew (h : Header) (words : List Nat) : Header :=
  { h with bad := h.bad.filter fun p => !words.contains p.1 }

def Barge.renew (r : Barge) (words : List Nat) : Barge := { r with header := r.header.renew words }
def Coupling.renew (r : Coupling) (words : List Nat) : Coupling := { r with header := r.header.renew words }
def Engine.renew (r : Engine) (words : List Nat) : Engine := { r with header := r.header.renew words }
def Rudder.renew (r : Rudder) (words : List Nat) : Rudder := { r with header := r.header.renew words }
def Tank.renew (r : Tank) (words : List Nat) : Tank := { r with header := r.header.renew words }
def Transfer.renew (r : Transfer) (words : List Nat) : Transfer := { r with header := r.header.renew words }

/-- R5: the header of a record just written afresh. -/
def Header.fresh : Header := { damaged := false, bad := [] }

/-! ## Places, ranks and cuts (R40, R180) -/

/-- R40: entry `k` of the string boundary table, entry 0 taken as 0. -/
def State.entry (s : State) (k : Nat) : Nat := if k = 0 then 0 else s.strings.getD (k - 1) 0

/-- R40: a barge's place, 1 to the number of barges. -/
def State.place? (s : State) (hull : Nat) : Option Nat := (s.barges.findIdx? (·.hull == hull)).map (· + 1)

/-- R40: the string a place lies in. -/
def State.stringAt (s : State) (place : Nat) : Nat := (s.strings.filter (· < place)).length + 1

/-- R40: the rank of a place. -/
def State.rankAt (s : State) (place : Nat) : Nat := place - s.entry (s.stringAt place - 1)

/-- R40: a barge's string, from its place. -/
def State.string? (s : State) (hull : Nat) : Option Nat := (s.place? hull).map s.stringAt

/-- R40: a barge's rank, from its place. -/
def State.rank? (s : State) (hull : Nat) : Option Nat := (s.place? hull).map s.rankAt

/-- R40: how many barges a string holds. -/
def State.stringCount (s : State) (k : Nat) : Nat := s.entry k - s.entry (k - 1)

/-- R180: the cut a rank lies in. -/
def cutOfRank (breaks : List Nat) (rank : Nat) : Nat := (breaks.filter (· < rank)).length + 1

/-- R180: the cut a barge lies in. -/
def State.cut? (s : State) (hull : Nat) : Option Nat := (s.rank? hull).map (cutOfRank s.lockage.breaks)

/-- R180: a coupling with these ends is crossing when its two barge ends lie in different cuts. -/
def State.endsCross (s : State) (endA : Member) (endB : Nat) : Bool :=
  match endA with
  | .boat => false
  | .barge h => s.cut? h != s.cut? endB

/-- R180, R92: whether a coupling counts as crossing: by its flag, or by its ends when it is damaged. -/
def State.crossing (s : State) (c : Coupling) : Bool :=
  if c.header.damaged then s.endsCross c.endA c.endB else c.crossing

/-- A coupling names the barge as end A or end B. -/
def Coupling.names (c : Coupling) (hull : Nat) : Bool := c.endA == .barge hull || c.endB == hull

/-- R42, R44, R45: some coupling names the barge. -/
def State.bargeNamed (s : State) (hull : Nat) : Bool := s.couplings.any (·.names hull)

/-! ## Nodes and bindings (R56) -/

/-- R56: the member the node at an address is bound to. -/
def State.bound (s : State) (address : Nat) : Option Member :=
  if s.policy.boatNode ≠ 0 ∧ address = s.policy.boatNode then some .boat
  else (s.barges.find? (·.node == some address)).map fun b => .barge b.hull

/-- R56: the listed node bound to a member. -/
def State.nodeOf (s : State) (m : Member) : Option Node :=
  s.tow.nodes.find? fun n => s.bound n.address == some m

/-- R56: the barge named as engine 5's bow barge. -/
def State.bowBarge? (s : State) : Option Nat := (s.engine? 5).bind (·.bowBarge)

/-- R56: the node is engine 5's bow node. -/
def State.isBowNode (s : State) (n : Node) : Bool :=
  n.bow && (match s.bowBarge? with
    | some h => s.bound n.address == some (.barge h)
    | none => false)

/-! ## Transactions (section 1.6) -/

/-- A transaction under way. -/
structure Txn where
  st : State
  /-- R9, R61: winch commands produced so far, placed at the end. -/
  commands : List (Member × Nat × WinchCommand)
  /-- R183: the transaction changed the state, crossing flag, damage or existence of a coupling. -/
  touched : Bool
deriving DecidableEq, Repr

/-- A transaction at its grant. -/
def Txn.start (s : State) : Txn := { st := s, commands := [], touched := false }

/-- Changes the state of a transaction. -/
def Txn.on (x : Txn) (f : State → State) : Txn := { x with st := f x.st }

/-- R35: the transaction raises a cause. -/
def Txn.raise (x : Txn) (c : Cause) : Txn := x.on fun s => s.raise c

/-- R35: raises a cause when a condition holds. -/
def Txn.raiseIf (x : Txn) (b : Bool) (c : Cause) : Txn := if b then x.raise c else x

/-- R183: the completion test is to be taken at the end. -/
def Txn.touch (x : Txn) : Txn := { x with touched := true }

/-- R61: the transaction produces a winch command. -/
def Txn.place (x : Txn) (m : Member) (k : Nat) (c : WinchCommand) : Txn :=
  { x with commands := x.commands ++ [(m, k, c)] }

/-- R61, R87: a command for the coupling's winch; a HAND coupling has none. -/
def Txn.placeFor (x : Txn) (c : Coupling) (w : WinchCommand) : Txn :=
  match c.tending with
  | .hand => x
  | .winch m k => x.place m k w

/-- Works through keys in order. -/
def Txn.forKeys (x : Txn) (keys : List Nat) (f : Nat → Txn → Txn) : Txn := keys.foldl (fun y k => f k y) x

/-- Changes the tow status record. -/
def Txn.modStatus (x : Txn) (f : TowStatus → TowStatus) : Txn := x.on fun s => { s with status := f s.status }

/-! ### Writes (R11: a write renews the words it lands in) -/

def Txn.modBarge (x : Txn) (k : Nat) (words : List Nat) (f : Barge → Barge) : Txn :=
  x.on fun s =>
    { s with barges := update (·.hull == k) (fun r => (f r).renew words) s.barges }

def Txn.modCoupling (x : Txn) (k : Nat) (words : List Nat) (f : Coupling → Coupling) : Txn :=
  x.on fun s =>
    { s with couplings := update (·.number == k) (fun r => (f r).renew words) s.couplings }

def Txn.modEngine (x : Txn) (k : Nat) (words : List Nat) (f : Engine → Engine) : Txn :=
  x.on fun s =>
    { s with engines := update (·.number == k) (fun r => (f r).renew words) s.engines }

def Txn.modRudder (x : Txn) (k : Nat) (words : List Nat) (f : Rudder → Rudder) : Txn :=
  x.on fun s =>
    { s with rudders := update (·.channel == k) (fun r => (f r).renew words) s.rudders }

def Txn.modTank (x : Txn) (k : Nat) (words : List Nat) (f : Tank → Tank) : Txn :=
  x.on fun s =>
    { s with tanks := update (·.number == k) (fun r => (f r).renew words) s.tanks }

def Txn.modTransfer (x : Txn) (k : Nat) (words : List Nat) (f : Transfer → Transfer) : Txn :=
  x.on fun s =>
    { s with transfers := update (·.number == k) (fun r => (f r).renew words) s.transfers }

/-! ### Transfer states (R167) -/

/-- R167: a change of the transfer's state, with the pump command, the quiet count and the fields that come and
go with it. -/
def Transfer.enter (t : Transfer) (new : TransferState) : Transfer :=
  { t with
    state := new
    pumpRun := new == .running
    quiet := if new.stopCause?.isSome && t.state.stopCause?.isNone then 0 else t.quiet
    gapRequest := t.gapRequest && new.endReason?.isNone
    pendingAbort := t.pendingAbort && new.endReason?.isNone }

/-- R167: the words that a change of state writes: the state; the held reason, the end reason and the stop cause as
they come or go; and gap request and pending end on entering ENDED alone. -/
def stateWords (old new : TransferState) : List Nat :=
  [14] ++ (if old.heldReason?.isSome || new.heldReason?.isSome then [15] else []) ++
    (if old.endReason?.isSome || new.endReason?.isSome then [16] else []) ++
    (if new.endReason?.isSome then [17, 18] else []) ++
    (if old.stopCause?.isSome || new.stopCause?.isSome then [19] else [])

/-- R167: moves a transfer to a state; TRANSFER is raised once when the state or its reason changes. -/
def Txn.enterTransfer (x : Txn) (k : Nat) (new : TransferState) : Txn :=
  match x.st.transfer? k with
  | none => x
  | some t =>
    if t.state = new then x else (x.modTransfer k (stateWords t.state new) (·.enter new)).raise .transfer

/-! ### Reads and damage (R11, R12) -/

/-- R11: what a read of a word finds. -/
inductive WordCheck where
  | clean
  | corrected
  | failed
deriving DecidableEq, Repr

/-- R11: none, one, or two (or more) bad bits in a word. -/
def Header.check (h : Header) (word : Nat) : WordCheck :=
  match (h.bad.filter fun p => p.1 == word).length with
  | 0 => .clean
  | 1 => .corrected
  | _ => .failed

/-- R11: counts one corrected read. A word that is read again before it is written counts again. -/
def Txn.countCorrected (x : Txn) : Txn := x.modStatus fun u => { u with corrected := saturate u.corrected 1 }

/-- R11: reads words in order until one cannot be corrected; says whether all were delivered. The record is damaged
from the failing word on, so the words behind it are not read (R12, log 5). -/
def Txn.scan (x : Txn) (h : Header) : List Nat → Txn × Bool
  | [] => (x, true)
  | w :: ws =>
    match h.check w with
    | .clean => x.scan h ws
    | .corrected => x.countCorrected.scan h ws
    | .failed => (x, false)

/-- R12: the record becomes damaged: flag, count and STORE. -/
def Txn.markDamaged (x : Txn) (t : Tbl) (key : Nat) : Txn :=
  ((x.on fun s => s.modHeader t key fun h => { h with damaged := true }).modStatus fun u =>
    { u with damagedEvents := saturate u.damagedEvents 1 }).raise .store

/-- R92: the Coupling Supervisor stops both timers and places one HOLD; R183: the completion test follows. -/
def Txn.couplingDamaged (x : Txn) (key : Nat) : Txn :=
  match x.st.coupling? key with
  | none => x
  | some c =>
    ((x.modCoupling key [] fun c => { c with debounce := none, slackTimer := none, dropSeen := false }).placeFor
      c .hold).touch

/-- R14: what follows the damage of a record, but for a tank's (R176). -/
def Txn.damageFollows (x : Txn) (t : Tbl) (key : Nat) : Txn :=
  match t with
  | .barges => x
  | .couplings => x.couplingDamaged key
  | .engines => x.modEngine key [11, 12] fun e => { e with allowed := 0, sent := 0 }
  | .rudders => x.modRudder key [10, 11] fun r => { r with allowed := 0, sent := 0 }
  | .tanks => x
  | .transfers => x.modTransfer key [] fun t => { t with pumpRun := false }

/-- R11 to R13: reads words of a record, each counted anew where it needs correction (log 5); the answer says whether
the record is enrolled, undamaged and every word was delivered. A record found damaged takes its consequences here,
but for those of a tank. -/
def Txn.readRecord (x : Txn) (t : Tbl) (key : Nat) (words : List Nat) : Txn × Bool :=
  match x.st.header? t key with
  | none => (x, false)
  | some h =>
    if h.damaged then (x, false)
    else
      match x.scan h words with
      | (y, true) => (y, true)
      | (y, false) => ((y.markDamaged t key).damageFollows t key, false)

/-- R176: a tank was found damaged: each RUNNING transfer that names it passes to STOPPING. -/
def Txn.tankDamaged (x : Txn) (key : Nat) : Txn :=
  x.forKeys ((x.st.transfers.filter fun t => t.source == key || t.destination == key).map (·.number)) fun k y =>
    match y.readRecord .transfers k [14] with
    | (z, false) => z
    | (z, true) =>
      match z.st.transfer? k with
      | none => z
      | some t => if t.state = .running then z.enterTransfer k (.stopping .tankDamaged) else z

/-- R11 to R14: reads words of a record, with every consequence of finding it damaged. -/
def Txn.read (x : Txn) (t : Tbl) (key : Nat) (words : List Nat) : Txn × Bool :=
  match x.readRecord t key words with
  | (y, true) => (y, true)
  | (y, false) =>
    if t = .tanks ∧ x.st.sound t key ∧ ¬ y.st.sound t key then (y.tankDamaged key, false) else (y, false)

/-- Reads words of several records of a table. -/
def Txn.readAll (x : Txn) (t : Tbl) (keys : List Nat) (words : List Nat) : Txn :=
  x.forKeys keys fun k y => (y.read t k words).1

end Sys2Proof.Machine
end

