-- ==== Sys2Proof/Machine/Commit.lean ====
section
/-! DEFINITION. The end of a transaction: the Lockage Unit's completion test and boat cut (R183, R186), the changes
of binding (R56), and the placing of winch commands (R61). -/
namespace Sys2Proof.Machine

/-! ## Lockage (R183, R186) -/

/-- R183: crossing remaining, by the phase. -/
def State.crossingRemaining (s : State) : Nat :=
  match s.lockage.phase with
  | .whole => 0
  | .split => 0
  | .breaking => (s.couplings.filter fun c => s.crossing c && c.presents != .unlashed).length
  | .remaking => (s.couplings.filter fun c => s.crossing c && !c.presents.inMadeGroup).length

/-- R186: the cuts that the FACE couplings hold the boat to. -/
def State.heldCuts (s : State) : List Nat :=
  (s.couplings.filter fun c => c.kind == .face && c.presents.holdsBoat).filterMap fun c => s.cut? c.endB

/-- R186: the boat cut that the FACE couplings decide. -/
def State.decideBoatCut (s : State) : BoatCut :=
  match s.heldCuts with
  | [] => .none
  | k :: ks => if ks.all (· == k) then .cut k else .conflict

/-- Changes the lockage record. -/
def Txn.modLockage (x : Txn) (f : Lockage → Lockage) : Txn := x.on fun s => { s with lockage := f s.lockage }

/-- R183: the return to WHOLE: no break ranks, no crossing flag, boat cut NONE, crossing remaining 0. -/
def Txn.returnWhole (x : Txn) : Txn :=
  let keys := (x.st.couplings.filter fun c => !c.header.damaged).map (·.number)
  (x.modLockage fun _ => Lockage.initial).forKeys keys fun k y =>
    y.modCoupling k [15] fun c => { c with crossing := false }

/-- R183: writes crossing remaining and completes the phase when nothing remains. -/
def Txn.complete (x : Txn) (announce : Bool) : Txn :=
  let n := x.st.crossingRemaining
  let y := x.modLockage fun l => { l with remaining := n }
  match x.st.lockage.phase with
  | .whole => y
  | .split => y
  | .breaking => if n = 0 then (y.modLockage fun l => { l with phase := .split }).raiseIf announce .lockage else y
  | .remaking => if n = 0 then y.returnWhole.raiseIf announce .lockage else y

/-- R186: evaluates the boat cut outside WHOLE; LOCKAGE is raised when it passes to CONFLICT. -/
def Txn.evaluateBoatCut (x : Txn) : Txn :=
  if x.st.lockage.phase = .whole then x
  else
    let cut := x.st.decideBoatCut
    (x.modLockage fun l => { l with boatCut := cut }).raiseIf
      (cut == .conflict && x.st.lockage.boatCut != .conflict) .lockage

/-- R183, R186: the completion test and then the boat cut, while the phase is not WHOLE. The test reads the state
and the crossing flag of every coupling. `announce` says whether a completion raises LOCKAGE (R182: a BREAK
raises it once, whether the phase ends at BREAKING or SPLIT). -/
def Txn.lockageTest (x : Txn) (announce : Bool) : Txn :=
  if x.st.lockage.phase = .whole then x
  else ((x.readAll .couplings (x.st.couplings.map (·.number)) [11, 15]).complete announce).evaluateBoatCut

/-! ## Bindings (R56, R144) -/

/-- R56: the addresses of listed nodes whose bound member a transaction has changed. -/
def rebound (before after : State) : List Nat :=
  (after.tow.nodes.filter fun n =>
    before.tow.nodes.any (·.address == n.address) && before.bound n.address != after.bound n.address).map (·.address)

/-- R56: empties a node's command slots. -/
def Node.emptied (n : Node) : Node := { n with slots := n.slots.map fun _ => none }

/-- R69: what a delivery under way with a node whose slots were emptied still acts on: nothing. It still ends as its
exchanges end, and with a delivery transaction where its COMMAND is accepted (R63). -/
def TowPhase.forget (p : TowPhase) (addresses : List Nat) : TowPhase :=
  match p with
  | .enquiry a carried => .enquiry a (if addresses.contains a then [] else carried)
  | .commanding a carried => .commanding a (if addresses.contains a then [] else carried)
  | .delivering a accepted => .delivering a (if addresses.contains a then [] else accepted)
  | .ready => .ready
  | .statusCall a => .statusCall a
  | .posting a r b => .posting a r b
  | .dropping a => .dropping a
  | .enquiryDue a => .enquiryDue a
  | .commandDue a => .commandDue a
  | .faulting => .faulting
  | .presence a => .presence a

/-- R144: a node of kind WINCH is listed and bound to engine 5's bow barge. -/
def State.winchNodeAtBow (s : State) : Bool :=
  match s.bowBarge? with
  | none => false
  | some h => s.tow.nodes.any fun n => !n.bow && s.bound n.address == some (.barge h)

/-- R11, R144: engine 5's state is read for a test of R144 or of R47. The tests apply to a damaged record as to an
undamaged one, so they go on with the state held when the word cannot be delivered (log 19). -/
def Txn.readBow (x : Txn) : Txn := (x.read .engines 5 [15]).1

/-- R144: REJECTED ends when no listed node of kind WINCH is bound to the bow barge any longer. -/
def Txn.releaseBow (x : Txn) : Txn :=
  if x.st.winchNodeAtBow then x
  else
    let rejected (e : Engine) : Bool := e.number == 5 && e.state == .rejected
    let off (e : Engine) : Engine := Engine.renew { e with state := .offline } [15]
    x.readBow.on fun s => { s with engines := update rejected off s.engines }

/-- R56: what follows at the end of a transaction, begun in `before`, that has changed bindings. -/
def Txn.settleBindings (x : Txn) (before : State) : Txn :=
  match rebound before x.st with
  | [] => x
  | a :: as =>
    (x.on fun s => { s with tow := { s.tow with
      nodes := update (fun n => (a :: as).contains n.address) Node.emptied s.tow.nodes
      phase := s.tow.phase.forget (a :: as) } }).releaseBow

/-! ## Winch commands (R61) -/

/-- R61: writes a command into slot `k` of a node, with failure count 0. -/
def Node.put (n : Node) (k : Nat) (c : WinchCommand) (stamp : Nat) : Node :=
  { n with slots := n.slots.set (k - 1) (some { command := c, stamp := stamp, failures := 0 }) }

/-- R61: places one command: into the slot, or not held, or not held with the winch noted for a fault. -/
def State.placeCommand (s : State) (m : Member) (k : Nat) (c : WinchCommand) : State :=
  match s.nodeOf m with
  | none => s
  | some n =>
    if k ≤ n.winches then
      { s with tow := { s.tow with
        nodes := update (·.address == n.address) (fun n => n.put k c s.tow.stamps) s.tow.nodes
        stamps := s.tow.stamps + 1 } }
    else
      { s with tow := { s.tow with
        faults := s.tow.faults ++ [{ member := m, winch := k }] } }

/-- R9, R61: places the commands of a transaction in the order produced. -/
def State.placeCommands (s : State) (cs : List (Member × Nat × WinchCommand)) : State :=
  cs.foldl (fun s c => s.placeCommand c.1 c.2.1 c.2.2) s

/-- The end of a transaction that began in `before`: the completion test where a coupling was touched, the changes
of binding, and then the commands. -/
def Txn.commit (x : Txn) (before : State) : State :=
  let y := (if x.touched then x.lockageTest true else x).settleBindings before
  y.st.placeCommands y.commands

end Sys2Proof.Machine
end

