-- ==== Sys2Proof/Machine/Grants.lean ====
section
/-! DEFINITION. The Store Arbiter (R10), what the blocks ask for of their own accord between commands (R23, R57, R61,
R99 to R102, R154), and the shape of a granted transaction. -/
namespace Sys2Proof.Machine

/-! ## The arbiter -/

/-- R10: the requester is in the waiting set. -/
def Arbiter.waits (a : Arbiter) : Requester → Bool
  | .console => a.console
  | .towLine => a.towLine
  | .machinery => a.machinery
  | .coordination => a.coordination
  | .fuel => a.fuel
  | .patrol => a.patrol

/-- R10: the requester joins the waiting set or leaves it. -/
def Arbiter.setWaits (a : Arbiter) (r : Requester) (b : Bool) : Arbiter :=
  match r with
  | .console => { a with console := b }
  | .towLine => { a with towLine := b }
  | .machinery => { a with machinery := b }
  | .coordination => { a with coordination := b }
  | .fuel => { a with fuel := b }
  | .patrol => { a with patrol := b }

/-- R10: the five in the fixed cycle, starting at one of them. -/
def ring : Requester → List Requester
  | .console => [.console, .towLine, .machinery, .coordination, .fuel]
  | .towLine => [.towLine, .machinery, .coordination, .fuel, .console]
  | .machinery => [.machinery, .coordination, .fuel, .console, .towLine]
  | .coordination => [.coordination, .fuel, .console, .towLine, .machinery]
  | .fuel => [.fuel, .console, .towLine, .machinery, .coordination]
  | .patrol => [.console, .towLine, .machinery, .coordination, .fuel]

/-- R10: the pointer after a grant: the requester that follows; a grant to the Patrol leaves it. -/
def Arbiter.advance (a : Arbiter) : Requester → Requester
  | .console => .towLine
  | .towLine => .machinery
  | .machinery => .coordination
  | .coordination => .fuel
  | .fuel => .console
  | .patrol => a.pointer

/-- R10: the requester the arbiter grants: the first of the five that waits, from the pointer on, and the Patrol
when it waits alone. -/
def Arbiter.pick (a : Arbiter) : Option Requester :=
  match (ring a.pointer).find? a.waits with
  | some r => some r
  | none => if a.patrol then some .patrol else none

/-- R10: a grant. -/
def Arbiter.grant (a : Arbiter) (r : Requester) : Arbiter := { (a.setWaits r false) with pointer := a.advance r }

/-- The requester asks for the store. -/
def State.ask (s : State) (r : Requester) : State := { s with arbiter := s.arbiter.setWaits r true }

/-! ## What the blocks ask for -/

/-- R23, R34: the Console Port asks for a silence transaction that is due, ahead of the next request, and otherwise
for a request while the response queue has room. -/
def State.askConsole (s : State) : State :=
  if s.arbiter.console then s
  else if 0 < s.console.silenceDue then
    { s with console := { s.console with silenceDue := s.console.silenceDue - 1, askedSilence := true } }.ask .console
  else if s.console.requests ≠ [] ∧ s.console.responses.length < Config.queuePlaces then
    { s with console := { s.console with askedSilence := false } }.ask .console
  else s

/-- Some slot of the node holds a command. -/
def Node.holds (n : Node) : Bool := n.slots.any (·.isSome)

/-- R63: the end of a delivery: a delivery transaction is asked for when a failure count has reached 3 or a COMMAND
was accepted; `accepted` holds the winches whose commands it took, unless their slots were emptied since (R69). -/
def State.endDelivery (s : State) (address : Nat) (commandTaken : Bool) (accepted : List Nat) : State :=
  let third := match s.node? address with
    | none => false
    | some n => n.slots.any fun o => match o with
      | none => false
      | some c => decide (3 ≤ c.failures)
  if third || commandTaken then
    { s with tow := { s.tow with phase := .delivering address accepted } }.ask .towLine
  else { s with tow := { s.tow with phase := .ready } }

/-- R62, R69: a delivery whose node has gone, or that finds no held command, goes no further. -/
def State.endEmptyDelivery (s : State) : State :=
  match s.tow.phase with
  | .enquiryDue a =>
    match s.node? a with
    | none => { s with tow := { s.tow with phase := .ready } }
    | some n => if n.holds then s else { s with tow := { s.tow with phase := .ready } }
  | .commandDue a =>
    match s.node? a with
    | none => { s with tow := { s.tow with phase := .ready } }
    | some n => if n.holds then s else s.endDelivery a false []
  | .ready => s
  | .statusCall _ => s
  | .posting _ _ _ => s
  | .dropping _ => s
  | .enquiry _ _ => s
  | .commanding _ _ => s
  | .delivering _ _ => s
  | .faulting => s
  | .presence _ => s

/-- R61: at its readiness the Controller asks for the transaction that sets winch fault flags, when one is owed. -/
def State.askTow (s : State) : State :=
  if s.tow.phase = .ready ∧ s.tow.faults ≠ [] then
    { s with tow := { s.tow with phase := .faulting } }.ask .towLine
  else s

/-- R103: the retry timer is due: the context has never begun an admission, or 1000 ms have passed. -/
def Context.retryDue (c : Context) (clock : Nat) : Bool :=
  match c.retry with
  | none => true
  | some t => decide (Config.retryUs ≤ clock - t)

/-- R100: the slot of a context in this state sends a frame. -/
def Context.sends (c : Context) (clock : Nat) : Bool :=
  match c.state with
  | .exchange => true
  | .parameterize => true
  | .configure => true
  | .offline => c.retryDue clock
  | .rejected => false

/-- R100: passes over slots of removed contexts and slots that send no frame. -/
def State.passSlots (s : State) (slots : List Nat) : List Nat :=
  slots.dropWhile fun a => match s.context? a with
    | none => true
    | some c => !c.sends s.clock

/-- R100, R102: with no exchange under way, the cycle goes on to its next slot that sends a frame, and ends when
there is none and every result has been posted. -/
def State.advanceCycle (s : State) : State :=
  match s.link.cycle with
  | none => s
  | some c =>
    if s.link.exchange.isSome then s
    else
      let slots := s.passSlots c.slots
      if slots = [] ∧ s.link.results = [] then { s with link := { s.link with cycle := none } }
      else { s with link := { s.link with cycle := some { c with slots := slots } } }

/-- R102: the Machinery-Link Controller asks for the store when results wait and it has not asked. -/
def State.askLink (s : State) : State := if s.link.results ≠ [] then s.ask .machinery else s

/-- R154: the Fuel Accountant asks for the store when readings wait and it has not asked. -/
def State.askFuel (s : State) : State := if s.readings ≠ [] then s.ask .fuel else s

/-- What the blocks do of their own accord once a command has taken effect. -/
def settle (s : State) : State := s.askConsole.endEmptyDelivery.askTow.advanceCycle.askLink.askFuel

/-! ## Granted transactions -/

/-- R10: the arbiter grants the requester next. -/
def State.granted (s : State) (r : Requester) : Bool := s.arbiter.pick == some r

/-- The state at a grant. -/
def State.take (s : State) (r : Requester) : State := { s with arbiter := s.arbiter.grant r }

/-- R9: a granted transaction of a requester, run whole; without the grant the command changes nothing. -/
def State.transact (s : State) (r : Requester) (body : Txn → Txn) : State :=
  if s.granted r then settle ((body (Txn.start (s.take r))).commit (s.take r)) else s

/-- R20, R33: an accepted frame starts or restarts the silence timer while console silence is not 0. -/
def State.restartSilence (s : State) : State :=
  if s.policy.consoleSilence = 0 then s
  else { s with console := { s.console with
    silence := some { start := s.clock, period := s.policy.consoleSilence * 1000000 } } }

/-- R23: what a request's body answers: the transaction, the result, and the response's items. -/
abbrev Answer := Txn × Result × List ResponseItem

/-- R23: the request transaction of the request at the head of the queue, when its code is the one given: the
request leaves its queue and its response joins, together, at the end. -/
def State.runRequest (s : State) (isCode : Byte → Bool) (body : Request → Txn → Answer) : State :=
  if s.granted .console && !s.console.askedSilence then
    match s.console.requests with
    | [] => s
    | q :: qs =>
      if isCode q.code then
        let s1 := s.take .console
        let a := body q (Txn.start s1)
        let s2 := a.1.commit s1
        settle { s2 with console := { s2.console with
          requests := qs
          responses := s2.console.responses ++ [{ tag := q.tag, code := q.code, result := a.2.1, items := a.2.2 }] } }
      else s
  else s

end Sys2Proof.Machine
end

