-- ==== Sys2Proof/Machine/Operands.lean ====
section
/-! DEFINITION. The operands of requests: items (R189), the code tables of section 12.1, the checks that every
request shares (R26, R27), and field ranges and classes. -/
namespace Sys2Proof.Machine

/-! ## Items (R189) -/

/-- R189: an item of a request. -/
structure Item where
  field : Nat
  value : Int
deriving DecidableEq, Repr

/-- R189: reads items; an item with a length other than 1, 2, 4 or 8, or running past the end, spoils the frame. -/
def readItems : Nat → List Byte → Option (List Item)
  | _, [] => some []
  | 0, _ :: _ => none
  | _ + 1, [_] => none
  | fuel + 1, f :: l :: rest =>
    let n := l.toNat
    if (n == 1 || n == 2 || n == 4 || n == 8) && decide (n ≤ rest.length) then
      (readItems fuel (rest.drop n)).map fun is => { field := f.toNat, value := beInt (rest.take n) } :: is
    else none

/-- The items of a request. -/
def Request.items? (q : Request) : Option (List Item) := readItems q.body.length q.body

/-- The value an item list gives for a field. -/
def valueOf (is : List Item) (field : Nat) : Option Int := (is.find? (·.field == field)).map (·.value)

/-- The item list gives the field. -/
def gives (is : List Item) (field : Nat) : Bool := is.any (·.field == field)

/-- R27: no field number is given twice. -/
def onceEach : List Nat → Bool
  | [] => true
  | f :: fs => !fs.contains f && onceEach fs

/-- A value as a natural number, when it is one. A key item with a negative value names no record, so a request that
names a record by it ends NO_RECORD at stage 2, ahead of the range check of stage 4 (log 40). -/
def natOf (v : Int) : Option Nat := if 0 ≤ v then some v.toNat else none

/-- The value lies in a range that includes both ends. -/
def within (v lo hi : Int) : Bool := decide (lo ≤ v) && decide (v ≤ hi)

/-- R3: clamps to the nearer end of a range. -/
def clamp (v lo hi : Int) : Int := max lo (min v hi)

/-- The first check that fails gives the result (R26). -/
def firstFailure : List (Option Result) → Option Result
  | [] => none
  | some r :: _ => some r
  | none :: cs => firstFailure cs

/-- A check of items in frame order (R26: the first failing item gives the result). -/
def checkItems (is : List Item) (check : Item → Option Result) : Option Result := firstFailure (is.map check)

/-- Refused with a result when a condition holds. -/
def refuseIf (b : Bool) (r : Result) : Option Result := if b then some r else none

/-- R26: the range check of an item at stage 4. -/
def inRange (i : Item) (lo hi : Int) : Option Result := refuseIf (!within i.value lo hi) (.badField i.field)

/-- R26, R27: BAD_FIELD naming the item's field. -/
def bad (i : Item) : Option Result := some (.badField i.field)

/-! ## Answers -/

/-- A request refused with a result. -/
def refuse (x : Txn) (r : Result) : Answer := (x, r, [])

/-- A request that carries items back. -/
def answer (x : Txn) (is : List ResponseItem) : Answer := (x, .done, is)

/-- R26: DONE_CLAMPED if any value was clamped, and DONE otherwise. -/
def doneOr (clamped : Bool) : Result := if clamped then .doneClamped else .done

/-- A response item sent in the shortest form. -/
def item (field : Nat) (value : Int) : ResponseItem := { field := field, value := value, width := none }

/-- R4: an item for a field that is present, and none for an absent one. -/
def itemOf (field : Nat) (value : Option Int) : List ResponseItem :=
  match value with
  | some v => [item field v]
  | none => []

/-! ## Stage 1 (R27) -/

/-- R27: the items of a request whose table code is `table`, with no field given twice. -/
def Request.parse (q : Request) (admits : Nat → Bool) : Option (List Item) :=
  if admits q.table.toNat then
    match q.items? with
    | some is => if onceEach (is.map (·.field)) then some is else none
    | none => none
  else none

/-- R27, R95: the table has a key, carried as field 1. -/
def keyed (table : Nat) : Bool := !(table == 2 || table == 8 || table == 9 || table == 10)

/-- R27: a request that takes the key alone, on a table that has one, and nothing otherwise. DESIGN CHOICE (log 39): an
item more spoils the frame, also one whose field the table does not define. -/
def keyAlone (table : Nat) (is : List Item) : Bool :=
  if keyed table then is.length == 1 && gives is 1 else is.isEmpty

/-- R27: a request with table code 0 that carries no items. DESIGN CHOICE (log 39): any item spoils the frame. -/
def Request.bare (q : Request) : Bool := q.parse (· == 0) == some []

/-- R27: the items of a request that carries exactly the fields given. DESIGN CHOICE (log 39): an item more spoils the
frame, also one whose field the table does not define. -/
def Request.exactly (q : Request) (table : Nat) (fields : List Nat) : Option (List Item) :=
  match q.parse (· == table) with
  | some is => if is.length == fields.length && fields.all (gives is) then some is else none
  | none => none

/-- Section 12.1: the store table of a table code. -/
def storeTable (table : Nat) : Option Tbl :=
  match table with
  | 1 => some .barges
  | 3 => some .couplings
  | 4 => some .engines
  | 5 => some .rudders
  | 6 => some .tanks
  | 7 => some .transfers
  | _ => none

/-! ## Enumerated values (section 12.1) -/

def CouplingKind.code : CouplingKind → Int
  | .face => 1
  | .long => 2
  | .breast => 3

def couplingKindOf (v : Int) : Option CouplingKind :=
  match v with
  | 1 => some .face
  | 2 => some .long
  | 3 => some .breast
  | _ => none

/-- BOAT 0, otherwise the hull number. -/
def Member.code : Member → Int
  | .boat => 0
  | .barge h => h

/-- The member a value in 0..65535 names. -/
def memberOf (v : Int) : Member := if v = 0 then .boat else .barge v.toNat

def Tending.code : Tending → Int
  | .hand => 0
  | .winch _ _ => 1

def TendOrder.code : TendOrder → Int
  | .none => 0
  | .make => 1
  | .release => 2

def tendOrderOf (v : Int) : TendOrder := if v = 1 then .make else if v = 2 then .release else .none

def CouplingState.code : CouplingState → Int
  | .unlashed => 0
  | .settling => 1
  | .made => 2
  | .slack => 3
  | .strained => 4
  | .overload => 5
  | .lost => 6
  | .releasing => 7

def UnitState.code : UnitState → Int
  | .offline => 0
  | .admitting => 1
  | .running => 2
  | .rejected => 3

def Direction.code : Direction → Int
  | .none => 0
  | .ahead => 1
  | .astern => 2

def RudderKind.code : RudderKind → Int
  | .steering => 1
  | .flanking => 2

def rudderKindOf (v : Int) : RudderKind := if v = 2 then .flanking else .steering

def TankKind.code : TankKind → Int
  | .storage => 1
  | .day => 2

def tankKindOf (v : Int) : TankKind := if v = 2 then .day else .storage

def TransferMode.code : TransferMode → Int
  | .single => 1
  | .counted => 2
  | .opened => 3

def transferModeOf (v : Int) : TransferMode := if v = 1 then .single else if v = 2 then .counted else .opened

def TransferState.code : TransferState → Int
  | .idle => 0
  | .running => 1
  | .stopping _ => 2
  | .held _ => 3
  | .ended _ => 4

def HeldReason.code : HeldReason → Int
  | .gapRequest => 1
  | .checkpoint => 2
  | .sourceLow => 3
  | .destFull => 4
  | .pumpLost => 5
  | .tankDamaged => 6

def StopCause.code : StopCause → Int
  | .batchEnd => 1
  | .checkpoint => 2
  | .sourceLow => 3
  | .destFull => 4
  | .tankDamaged => 5
  | .aborted => 6

def EndReason.code : EndReason → Int
  | .complete => 1
  | .aborted => 2

def Phase.code : Phase → Int
  | .whole => 0
  | .breaking => 1
  | .split => 2
  | .remaking => 3

def BoatCut.code : BoatCut → Int
  | .none => 0
  | .cut k => k
  | .conflict => 15

/-- R56: node kind, WINCH 1, BOAT_WINCH 2, BOW 3. -/
def State.nodeKindCode (s : State) (n : Node) : Int :=
  if n.bow then 3 else if s.bound n.address = some .boat then 2 else 1

def StationKind.code : StationKind → Nat
  | .engine => 1
  | .rudder => 2
  | .meter => 3
  | .pump => 4
  | .gauge => 5

/-- R97: the table code of the serving record. -/
def StationKind.tableCode : StationKind → Int
  | .engine => 4
  | .meter => 4
  | .rudder => 5
  | .gauge => 6
  | .pump => 7

def ContextState.code : ContextState → Int
  | .offline => 0
  | .parameterize => 1
  | .configure => 2
  | .exchange => 3
  | .rejected => 4

def WinchCommand.code : WinchCommand → Nat
  | .heave _ => 1
  | .ease _ => 2
  | .payOut => 3
  | .hold => 4
  | .stop => 5

/-- R188: the target of a command, 0 for a command without one. -/
def WinchCommand.target : WinchCommand → Nat
  | .heave t => t
  | .ease t => t
  | .payOut => 0
  | .hold => 0
  | .stop => 0

/-- R188: a command slot as LOOK returns it, a 4-byte value, 0 for an empty slot. -/
def slotValue (o : Option Slot) : Int :=
  match o with
  | none => 0
  | some c => (c.command.code * 16777216 + c.command.target * 256 + c.failures : Nat)

/-! ## Request codes (section 12.1) -/

/-- The request codes of section 12.1. -/
def requestCodes : List Byte :=
  [0x01, 0x02, 0x03, 0x04, 0x05, 0x06, 0x10, 0x11, 0x12, 0x13, 0x20, 0x21, 0x22, 0x23, 0x24, 0x25, 0x26, 0x30,
    0x31, 0x32, 0x33, 0x40, 0x41]

end Sys2Proof.Machine
end

