-- ==== Sys2Proof/Machine/Tanks.lean ====
section
/-! DEFINITION. The account of a tank (section 9.2): debits, credits, receipts and soundings, each with the low flag and
the FUEL notice that follow (R152, R153). -/
namespace Sys2Proof.Machine

/-- R152: the words a draw reads before it writes. -/
def drawWords : List Nat := [4] ++ wide 6 ++ wide 11 ++ wide 13 ++ [14]
/-- R152: the words a transfer out reads before it writes. -/
def outWords : List Nat := [4] ++ wide 6 ++ wide 10 ++ wide 13 ++ [14]
/-- R152: the words a transfer in reads before it writes. -/
def inWords : List Nat := [4] ++ wide 6 ++ wide 9 ++ [14]
/-- R168, R171: the words that a test of the source reads. -/
def sourceTestWords : List Nat := [4] ++ wide 6
/-- R168, R171: the words that a test of the destination reads. -/
def destinationTestWords : List Nat := [3] ++ wide 6

/-- R153: the content is below the low mark. -/
def Tank.isLow (t : Tank) : Bool := decide (t.content < t.lowMark * 1000)

/-- R153: evaluates the low flag; FUEL is raised when it passes from clear to set. -/
def Txn.evaluateLow (x : Txn) (k : Nat) : Txn :=
  match x.st.tank? k with
  | none => x
  | some t => (x.modTank k [14] fun t => { t with low := t.isLow }).raiseIf (t.isLow && !t.low) .fuel

/-- R152: a tank after a debit: it gives what it holds, and the rest is shortfall. -/
def Tank.debited (t : Tank) (amount : Nat) (draw : Bool) : Tank :=
  let taken := min amount t.content
  { t with
    content := t.content - taken
    shortfall := t.shortfall + (amount - taken)
    drawn := if draw then t.drawn + amount else t.drawn
    transferredOut := if draw then t.transferredOut else t.transferredOut + amount }

/-- R152, R153: a debit for a draw or for a transfer out, from a tank whose words have been read. A debit that adds
to the shortfall of a tank that held something raises FUEL. -/
def Txn.debit (x : Txn) (k amount : Nat) (draw : Bool) : Txn :=
  if amount = 0 then x
  else
    match x.st.tank? k with
    | none => x
    | some t =>
      let words : List Nat := if draw then wide 6 ++ wide 11 ++ wide 13 else wide 6 ++ wide 10 ++ wide 13
      let y := x.modTank k words fun t => t.debited amount draw
      (y.evaluateLow k).raiseIf (decide (t.content < amount) && decide (0 < t.content)) .fuel

/-- R152: a credit for a transfer in. -/
def Txn.credit (x : Txn) (k amount : Nat) : Txn :=
  if amount = 0 then x
  else
    (x.modTank k (wide 6 ++ wide 9) fun t =>
      { t with content := t.content + amount, transferredIn := t.transferredIn + amount }).evaluateLow k

/-- R152, R159: a receipt. -/
def Txn.receipt (x : Txn) (k amount : Nat) : Txn :=
  if amount = 0 then x
  else
    (x.modTank k (wide 6 ++ wide 8) fun t =>
      { t with content := t.content + amount, received := t.received + amount }).evaluateLow k

/-- R152, R160: a sounding to a new content. -/
def Txn.sounding (x : Txn) (k content : Nat) : Txn :=
  (x.modTank k (wide 6 ++ wide 12) fun t =>
    { t with content := content, adjustments := t.adjustments + ((content : Int) - t.content) }).evaluateLow k

/-- R157: a draw of an engine from its supply tank; the amount is held as undebited when the tank is damaged, by its
flag or by the debit's reads. -/
def Txn.drawFor (x : Txn) (engine tank amount : Nat) : Txn :=
  match x.read .tanks tank drawWords with
  | (y, true) => y.debit tank amount true
  | (y, false) =>
    match y.read .engines engine (wide 19) with
    | (z, false) => z
    | (z, true) => z.modEngine engine (wide 19) fun e => { e with undebited := e.undebited + amount }

/-- R158, R163: an engine's undebited amount is debited to a tank, when both can be read. -/
def Txn.debitHeld (x : Txn) (engine tank : Nat) : Txn :=
  match x.read .engines engine (wide 19) with
  | (y, false) => y
  | (y, true) =>
    match y.st.engine? engine with
    | none => y
    | some e =>
      if e.undebited = 0 then y
      else
        match y.read .tanks tank drawWords with
        | (z, false) => z
        | (z, true) =>
          (z.debit tank e.undebited true).modEngine engine (wide 19) fun e => { e with undebited := 0 }

end Sys2Proof.Machine
end

