-- ==== Sys2Proof/Machine/Transfers.lean ====
section
/-! DEFINITION. The Transfer Sequencer (Chapter 10): the batch check, the end of a batch, the posting of the pump, the
tests in RUNNING, the end of stopping, the loss of the pump and the posting of held volume. -/
namespace Sys2Proof.Machine

/-- R165: a batch is full when batch moved is at or above the batch volume. -/
def Transfer.full (t : Transfer) : Bool := decide (t.batchVolume * 1000 ≤ t.batchMoved)

/-- R165: the batch remaining, in ml. -/
def Transfer.remaining (t : Transfer) : Nat := t.batchVolume * 1000 - t.batchMoved

/-- R172: the checkpoint mark, where present, is moved to the least multiple of the interval above total moved. -/
def Transfer.moveMark (t : Transfer) : Transfer :=
  { t with mark := t.mark.map fun _ => (t.totalMoved / (t.interval * 1000) + 1) * (t.interval * 1000) }

/-- R172, R175: moves the checkpoint mark of a transfer, writing it where it is present. -/
def Txn.moveMark (x : Txn) (k : Nat) : Txn :=
  match (x.st.transfer? k).bind (·.mark) with
  | none => x
  | some _ => x.modTransfer k [20] Transfer.moveMark

/-- R168: the pump's context is in EXCHANGE. -/
def State.pumpInExchange (s : State) (t : Transfer) : Bool :=
  match s.context? t.pump with
  | none => false
  | some c => c.state == .exchange

/-- R168, R171: the source holds too little above its low mark. -/
def State.sourceTooLow (s : State) (t : Transfer) (volume : Nat) : Bool :=
  match s.tank? t.source with
  | none => false
  | some k => decide ((k.content : Int) - (k.lowMark * 1000 : Nat) < volume)

/-- R168, R171: the destination would be filled beyond its capacity less the overfill margin. -/
def State.destinationTooFull (s : State) (t : Transfer) (volume : Nat) : Bool :=
  match s.tank? t.destination with
  | none => false
  | some k => decide (((k.capacity : Int) - s.policy.overfillMargin) * 1000 < (k.content : Int) + volume)

/-- Both tanks of the transfer are undamaged. -/
def State.tanksSound (s : State) (t : Transfer) : Bool := s.sound .tanks t.source && s.sound .tanks t.destination

/-- R168, R171: the tests' reads of source and destination. -/
def Txn.readTanks (x : Txn) (t : Transfer) : Txn :=
  ((x.read .tanks t.source sourceTestWords).1.read .tanks t.destination destinationTestWords).1

/-- R168: what the batch check decides, for a batch of which `volume` ml remain. -/
def State.batchOutcome (s : State) (t : Transfer) (volume : Nat) : TransferState :=
  if !s.tanksSound t then .held .tankDamaged
  else if !s.pumpInExchange t then .held .pumpLost
  else if s.sourceTooLow t volume then .held .sourceLow
  else if s.destinationTooFull t volume then .held .destFull
  else .running

/-- R168: the batch check. A batch not begun, or full, is taken as a new one. -/
def Txn.batchCheck (x : Txn) (k : Nat) : Txn :=
  match x.st.transfer? k with
  | none => x
  | some t =>
    let y := x.readTanks t
    let anew : Bool := t.batchMoved == 0 || t.full
    let outcome := y.st.batchOutcome t (if anew then t.batchVolume * 1000 else t.remaining)
    let z := if outcome = .running ∧ anew then y.modTransfer k [11] fun t => { t with batchMoved := 0 } else y
    z.enterTransfer k outcome

/-- R168: the end of a batch. -/
def Txn.endOfBatch (x : Txn) (k : Nat) : Txn :=
  let y := x.modTransfer k [10, 11] fun t => { t with batchesDone := saturate t.batchesDone 1, batchMoved := 0 }
  match y.st.transfer? k with
  | none => y
  | some t =>
    if t.mode = .single ∨ (t.mode = .counted ∧ some t.batchesDone = t.batchCount) then
      y.enterTransfer k (.ended .complete)
    else if t.gapRequest then
      (y.modTransfer k [17] fun t => { t with gapRequest := false }).enterTransfer k (.held .gapRequest)
    else y.batchCheck k

/-- R171: the interval is not 0 and total moved is at or above the checkpoint mark. -/
def Transfer.atCheckpoint (t : Transfer) : Bool :=
  t.interval != 0 && (match t.mark with
    | none => false
    | some m => decide (m ≤ t.totalMoved))

/-- R171: the first test that holds, with its stop cause. -/
def State.stopTest (s : State) (t : Transfer) : Option StopCause :=
  if !s.tanksSound t then some .tankDamaged
  else if t.full then some .batchEnd
  else if t.atCheckpoint then some .checkpoint
  else if s.sourceTooLow t t.remaining then some .sourceLow
  else if s.destinationTooFull t t.remaining then some .destFull
  else none

/-- R171: the tests after a posting in RUNNING. A transfer that the damage of a tank has already stopped (R176) is
left as it stands. -/
def Txn.stopTests (x : Txn) (k : Nat) : Txn :=
  match x.st.transfer? k with
  | none => x
  | some t =>
    let y := x.readTanks t
    match y.st.transfer? k with
    | none => y
    | some u =>
      if u.state = .running then
        match y.st.stopTest u with
        | none => y
        | some c => y.enterTransfer k (.stopping c)
      else y

/-- R172: STOPPING ends. The row for a stop cause that no reachable transfer has without a full batch or a pending end
follows the batch. -/
def Txn.endOfStopping (x : Txn) (k : Nat) : Txn :=
  let y := x.moveMark k
  match y.st.transfer? k with
  | none => y
  | some t =>
    if t.pendingAbort then y.enterTransfer k (.ended .aborted)
    else if !y.st.tanksSound t then y.enterTransfer k (.held .tankDamaged)
    else if t.state = .stopping .checkpoint then y.enterTransfer k (.held .checkpoint)
    else if t.full then y.endOfBatch k
    else if t.state = .stopping .sourceLow then y.enterTransfer k (.held .sourceLow)
    else if t.state = .stopping .destFull then y.enterTransfer k (.held .destFull)
    else if t.state = .stopping .tankDamaged then y.enterTransfer k (.held .tankDamaged)
    else if t.state = .stopping .aborted then y.enterTransfer k (.ended .aborted)
    else y.endOfBatch k

/-- R170: d is added to unposted pulses. -/
def Txn.unpostedPulses (x : Txn) (d : Nat) : Txn :=
  x.modStatus fun u => { u with unpostedPulses := saturate u.unpostedPulses d }

/-- R170: the amount is moved from source to destination, or held when either is damaged. -/
def Txn.moveFuel (x : Txn) (k amount : Nat) : Txn :=
  match x.st.transfer? k with
  | none => x
  | some t =>
    if amount = 0 then x
    else
      let a := x.read .tanks t.source outWords
      let b := a.1.read .tanks t.destination inWords
      if a.2 && b.2 && b.1.st.tanksSound t then (b.1.debit t.source amount false).credit t.destination amount
      else b.1.modTransfer k [13] fun t => { t with heldVolume := t.heldVolume + amount }

/-- R170, R172: the running flag in STOPPING; the second quiet reading ends it. -/
def Txn.takeRunning (x : Txn) (k : Nat) (running : Bool) : Txn :=
  let y := x.modTransfer k [] fun t => { t with quiet := if running then 0 else t.quiet + 1 }
  match y.st.transfer? k with
  | none => y
  | some t => if 2 ≤ t.quiet then y.endOfStopping k else y

/-- R170: posts a pump reading: `amount` ml, `d` pulses and the running flag. The answer says whether the reading was
posted, so that the new residual stands. The state is read first, and of a RUNNING or STOPPING transfer every other
word (log 6). -/
def Txn.postPump (x : Txn) (k amount d : Nat) (running : Bool) : Txn × Bool :=
  match x.read .transfers k [14] with
  | (y, false) => (y.unpostedPulses d, false)
  | (y, true) =>
    match y.st.transfer? k with
    | none => (y.unpostedPulses d, false)
    | some t =>
      if t.state.inFlight then
        match y.read .transfers k ((wordsOf .transfers).filter (· != 14)) with
        | (z, false) => (z.unpostedPulses d, false)
        | (z, true) =>
          let w := (z.modTransfer k ([11] ++ wide 12) fun t =>
            { t with batchMoved := t.batchMoved + amount, totalMoved := t.totalMoved + amount }).moveFuel k amount
          (if t.state = .running then w.stopTests k else w.takeRunning k running, true)
      else (y.unpostedPulses d, false)

/-- R175: the pump of a RUNNING or STOPPING transfer is lost. The state is read first, and of such a transfer the
words that the moving of the mark and the choice of the new state use. -/
def Txn.pumpLost (x : Txn) (k : Nat) : Txn :=
  match x.read .transfers k [14] with
  | (y, false) => y
  | (y, true) =>
    match y.st.transfer? k with
    | none => y
    | some t =>
      if t.state.inFlight then
        match y.read .transfers k ([9] ++ wide 12 ++ [18, 20]) with
        | (z, false) => z
        | (z, true) => (z.moveMark k).enterTransfer k (if t.pendingAbort then .ended .aborted else .held .pumpLost)
      else y

/-- R176: held volume is posted at the RESTORE of a tank, when both tanks are then undamaged. -/
def Txn.postHeld (x : Txn) (k : Nat) : Txn :=
  match x.read .transfers k [13] with
  | (y, false) => y
  | (y, true) =>
    match y.st.transfer? k with
    | none => y
    | some t =>
      if t.heldVolume = 0 then y
      else
        let a := y.read .tanks t.source outWords
        let b := a.1.read .tanks t.destination inWords
        if a.2 && b.2 && b.1.st.tanksSound t then
          ((b.1.debit t.source t.heldVolume false).credit t.destination t.heldVolume).modTransfer k [13] fun t =>
            { t with heldVolume := 0 }
        else b.1

end Sys2Proof.Machine
end

