-- ==== Sys2Proof/Machine/Contexts.lean ====
section
/-! DEFINITION. Station contexts (sections 6.1, 6.2, 6.4, R109): the addresses records name, the creation and removal
of contexts, the consequences of leaving EXCHANGE, and the restart of an admission. -/
namespace Sys2Proof.Machine

/-! ## Addresses (R95, R96) -/

/-- R96: a machinery address and the record that names it. -/
structure NamedAddress where
  table : Tbl
  key : Nat
  address : Nat
deriving DecidableEq, Repr

/-- R95: every machinery address that an enrolled record names. -/
def State.namedAddresses (s : State) : List NamedAddress :=
  (s.engines.flatMap fun e =>
      (e.station.toList ++ e.meter.toList).map fun a => { table := .engines, key := e.number, address := a }) ++
    (s.rudders.map fun r => { table := .rudders, key := r.channel, address := r.station }) ++
    (s.tanks.flatMap fun t => t.gauge.toList.map fun a => { table := .tanks, key := t.number, address := a }) ++
    (s.transfers.map fun t => { table := .transfers, key := t.number, address := t.pump })

/-- R96: another record names the address. `own` is the record that a request amends; an ENROL has none, so every
enrolled record is another record for it, one of the same key included (log 35). -/
def State.addressTaken (s : State) (own : Option (Tbl × Nat)) (address : Nat) : Bool :=
  s.namedAddresses.any fun n => n.address == address && own != some (n.table, n.key)

/-! ## The mirrored state (R109) -/

def ContextState.mirrored : ContextState → UnitState
  | .offline => .offline
  | .parameterize => .admitting
  | .configure => .admitting
  | .exchange => .running
  | .rejected => .rejected

/-- R109: writes the state field that mirrors a context, for a damaged record as for an undamaged one. -/
def Txn.mirror (x : Txn) (kind : StationKind) (key : Nat) (state : ContextState) : Txn :=
  match kind with
  | .engine => x.modEngine key [15] fun e => { e with state := state.mirrored }
  | .rudder => x.modRudder key [13] fun r => { r with state := state.mirrored }
  | .meter => x
  | .pump => x
  | .gauge => x

/-- Changes a context. -/
def Txn.modContext (x : Txn) (address : Nat) (f : Context → Context) : Txn :=
  x.on fun s => { s with link := { s.link with contexts := update (·.address == address) f s.link.contexts } }

/-- R109, R154: withdraws the readings of a context that are not yet converted. -/
def Txn.withdraw (x : Txn) (address : Nat) : Txn :=
  x.on fun s => { s with readings := s.readings.filter (·.address != address) }

/-- R129, R145: an engine leaves RUNNING; its reports are cleared with it (R109). -/
def Txn.engineLeavesRunning (x : Txn) (key : Nat) : Txn :=
  x.modEngine key [11, 12, 13, 14, 17] fun e =>
    { e with allowed := 0, sent := 0, delivered := none, alarm := false, zeroTime := 0 }

/-- R109: the consequences of leaving EXCHANGE, by kind. -/
def Txn.leaveExchange (x : Txn) (c : Context) : Txn :=
  match c.kind with
  | .engine => x.engineLeavesRunning c.key
  | .rudder => x.modRudder c.key [10, 11, 12] fun r => { r with allowed := 0, sent := 0, feedback := none }
  | .meter =>
    (x.modContext c.address fun c => { c with baseline := none, lastTemperature := none }).withdraw c.address
  | .pump =>
    ((x.modContext c.address fun c => { c with baseline := none, lastTemperature := none }).withdraw
      c.address).pumpLost c.key
  | .gauge => x.modTank c.key [15] fun t => { t with gauged := none }

/-- A context takes a state, with the consequences of leaving EXCHANGE. The mirrored state is written where the
context's state changes (R109). -/
def Txn.enterContext (x : Txn) (address : Nat) (new : ContextState) : Txn :=
  match x.st.context? address with
  | none => x
  | some c =>
    let y := x.modContext address fun c => { c with state := new }
    let z := if c.state = .exchange ∧ new ≠ .exchange then y.leaveExchange c else y
    if c.state = new then z else z.mirror c.kind c.key new

/-! ## Creation and removal (R98) -/

/-- R98: creates a context, in state OFFLINE with its retry timer due. -/
def Txn.createContext (x : Txn) (address : Nat) (kind : StationKind) (key : Nat) (p : Parameters) : Txn :=
  let c : Context :=
    { address := address, kind := kind, key := key, state := .offline, misses := 0, baseline := none, residual := 0,
      lastTemperature := none, retry := none, parameters := p }
  (x.on fun s => { s with link := { s.link with contexts := insertByKey (·.address) c s.link.contexts } }).mirror
    kind key .offline

/-- R98, R100, R102: removes a context with its results, its slot in the cycle and its readings; the result of an
exchange under way with it is discarded. -/
def Txn.removeContext (x : Txn) (address : Nat) : Txn :=
  match x.st.context? address with
  | none => x
  | some c =>
    let y := if c.state = .exchange then x.leaveExchange c else x
    (y.on fun s => { s with link := { s.link with
      contexts := s.link.contexts.filter (·.address != address)
      results := s.link.results.filter (·.address != address)
      exchange := s.link.exchange.map fun e => { e with stale := e.stale || e.address == address }
      cycle := s.link.cycle.map fun k => { k with slots := k.slots.filter (· != address) } } }).withdraw address

/-- R98: an address field that a record holds before and after a request, with the context's kind and parameters. -/
structure AddressField where
  before : Option Nat
  after : Option Nat
  kind : StationKind
  parameters : Parameters
deriving DecidableEq, Repr

/-- R98: contexts are removed and created as the address fields of a record move: old contexts first. -/
def Txn.moveContexts (x : Txn) (key : Nat) (fields : List AddressField) : Txn :=
  let moved := fields.filter fun f => f.before != f.after
  let y := moved.foldl (fun y f => match f.before with
    | some a => y.removeContext a
    | none => y) x
  moved.foldl (fun y f => match f.after with
    | some a => y.createContext a f.kind key f.parameters
    | none => y) y

/-! ## Restart of an admission (R105) -/

/-- R105: results of PARAMETERS frames sent before a change of the parameter copy are marked stale. -/
def Txn.markStale (x : Txn) (address : Nat) : Txn :=
  let parametersSlot (h : ContextState) : Bool := h == .offline || h == .parameterize
  x.on fun s => { s with link := { s.link with
    results := update (fun r => r.address == address && parametersSlot r.held) (fun r => { r with stale := true })
      s.link.results
    exchange := s.link.exchange.map fun e =>
      { e with stale := e.stale || (e.address == address && parametersSlot e.held) } } }

/-- R103: the retry timer restarts. -/
def Txn.restartRetry (x : Txn) (address : Nat) : Txn :=
  let clock := x.st.clock
  x.modContext address fun c => { c with retry := some clock }

/-- R105: a parameter field is given: the copy is rewritten and the admission restarts by the context's state. -/
def Txn.giveParameters (x : Txn) (address : Nat) (p : Parameters) : Txn :=
  match x.st.context? address with
  | none => x
  | some c =>
    let y := x.modContext address fun c => { c with parameters := p }
    match c.state with
    | .exchange => (y.enterContext address .parameterize).restartRetry address
    | .configure => (y.enterContext address .parameterize).restartRetry address
    | .parameterize => y.markStale address
    | .offline => y.markStale address
    | .rejected => y.enterContext address .offline

/-- R105: at an AMEND or RESTORE that gives a SET field of the serving record, a REJECTED context passes to OFFLINE. -/
def Txn.retryRejected (x : Txn) (address : Nat) : Txn :=
  match x.st.context? address with
  | none => x
  | some c => if c.state = .rejected then x.enterContext address .offline else x

/-- R105: the REJECTED contexts among the addresses a record names. -/
def Txn.retryAll (x : Txn) (addresses : List Nat) : Txn := x.forKeys addresses fun a y => y.retryRejected a

/-- R109: the state that mirrors the context at an address. -/
def State.mirroredAt (s : State) (address : Nat) : UnitState :=
  match s.context? address with
  | none => .offline
  | some c => c.state.mirrored

end Sys2Proof.Machine
end

