-- ==== Sys2Proof/Machine/Look.lean ====
section
/-! DEFINITION. LOOK and LOOK NEXT (R28, R29): what each table's record returns, and the walk of a table. -/
namespace Sys2Proof.Machine

/-! ## The items of a record, in ascending field number, absent fields omitted (R4, R28) -/

/-- A present natural field. -/
def fieldNat (f : Nat) (n : Nat) : List ResponseItem := [item f n]

/-- An optional natural field. -/
def fieldOpt (f : Nat) (o : Option Nat) : List ResponseItem := itemOf f (o.map fun n => (n : Int))

/-- A flag. -/
def fieldFlag (f : Nat) (b : Bool) : List ResponseItem := [item f (flagInt b)]

/-- R39. -/
def State.bargeItems (s : State) (b : Barge) : List ResponseItem :=
  fieldNat 1 b.hull ++ fieldNat 2 ((s.string? b.hull).getD 0) ++ fieldNat 3 ((s.rank? b.hull).getD 0) ++
    fieldNat 4 b.laden ++ fieldNat 5 b.draft ++ fieldOpt 6 b.node ++ fieldFlag 7 b.bowFitted ++
    fieldFlag 8 b.header.damaged

/-- R41: the string boundary table. -/
def State.stringItems (s : State) : List ResponseItem :=
  [1, 2, 3, 4, 5, 6].map fun k => item k (s.entry k : Nat)

/-- R73. -/
def couplingItems (c : Coupling) : List ResponseItem :=
  let tended : List ResponseItem := match c.tending with
    | .hand => []
    | .winch m k => [item 6 m.code, item 7 k]
  let order : List ResponseItem := match c.tending with
    | .hand => [item 10 (flagInt c.declaredMade)]
    | .winch _ _ => [item 9 c.tendOrder.code]
  fieldNat 1 c.number ++ [item 2 c.kind.code, item 3 c.endA.code] ++ fieldNat 4 c.endB ++ [item 5 c.tending.code] ++
    tended ++ fieldNat 8 c.rated ++ order ++ [item 11 c.state.code] ++ fieldOpt 12 c.tension ++
    itemOf 13 (c.seated.map flagInt) ++ fieldFlag 14 c.winchFault ++ fieldFlag 15 c.crossing ++
    fieldFlag 16 c.header.damaged

/-- R112: consumed and undebited apply to engines 1 to 4. -/
def engineItems (e : Engine) : List ResponseItem :=
  fieldNat 1 e.number ++ fieldOpt 2 e.station ++ fieldOpt 3 e.bowBarge ++ fieldNat 4 e.rated ++ fieldOpt 5 e.meter ++
    fieldOpt 6 e.meterFactor ++ fieldOpt 7 e.supply ++ [item 8 e.staged, item 9 e.next, item 10 e.live,
    item 11 e.allowed, item 12 e.sent] ++ itemOf 13 e.delivered ++ fieldFlag 14 e.alarm ++ [item 15 e.state.code,
    item 16 e.lastDirection.code] ++ fieldNat 17 e.zeroTime ++
    (if e.number = 5 then [] else fieldNat 18 e.consumed ++ fieldNat 19 e.undebited) ++ fieldFlag 20 e.header.damaged

/-- R134. -/
def rudderItems (r : Rudder) : List ResponseItem :=
  fieldNat 1 r.channel ++ [item 2 r.kind.code] ++ fieldNat 3 r.shaft ++ fieldNat 4 r.station ++ fieldNat 5 r.limit ++
    fieldNat 6 r.rate ++ [item 7 r.staged, item 8 r.next, item 9 r.live, item 10 r.allowed, item 11 r.sent] ++
    itemOf 12 r.feedback ++ [item 13 r.state.code] ++ fieldFlag 14 r.header.damaged

/-- R148. -/
def tankItems (t : Tank) : List ResponseItem :=
  fieldNat 1 t.number ++ [item 2 t.kind.code] ++ fieldNat 3 t.capacity ++ fieldNat 4 t.lowMark ++ fieldOpt 5 t.gauge ++
    fieldNat 6 t.content ++ fieldNat 7 t.opening ++ fieldNat 8 t.received ++ fieldNat 9 t.transferredIn ++
    fieldNat 10 t.transferredOut ++ fieldNat 11 t.drawn ++ [item 12 t.adjustments] ++ fieldNat 13 t.shortfall ++
    fieldFlag 14 t.low ++ fieldOpt 15 t.gauged ++ fieldFlag 16 t.header.damaged

/-- R165. -/
def transferItems (t : Transfer) : List ResponseItem :=
  fieldNat 1 t.number ++ fieldNat 2 t.pump ++ fieldNat 3 t.factor ++ fieldNat 4 t.source ++ fieldNat 5 t.destination ++
    fieldNat 6 t.batchVolume ++ [item 7 t.mode.code] ++ fieldOpt 8 t.batchCount ++ fieldNat 9 t.interval ++
    fieldNat 10 t.batchesDone ++ fieldNat 11 t.batchMoved ++ fieldNat 12 t.totalMoved ++ fieldNat 13 t.heldVolume ++
    [item 14 t.state.code] ++ itemOf 15 (t.state.heldReason?.map HeldReason.code) ++
    itemOf 16 (t.state.endReason?.map EndReason.code) ++ fieldFlag 17 t.gapRequest ++
    (if t.pendingAbort then [item 18 EndReason.aborted.code] else []) ++
    itemOf 19 (t.state.stopCause?.map StopCause.code) ++ fieldOpt 20 t.mark ++ fieldFlag 21 t.header.damaged

/-- R6, section 12.1. -/
def policyItems (p : Policy) : List ResponseItem :=
  fieldNat 1 p.boatMass ++ fieldNat 2 p.aheadFactor ++ fieldNat 3 p.asternFactor ++ fieldNat 4 p.flankFactor ++
    fieldNat 5 p.slewConstant ++ fieldNat 6 p.reversalDwell ++ fieldNat 7 p.machineryCycle ++ fieldNat 8 p.breakLimit ++
    fieldNat 9 p.slackLimit ++ fieldNat 10 p.slackTime ++ fieldNat 11 p.strainLimit ++ fieldNat 12 p.makeUpTension ++
    fieldNat 13 p.debounceTime ++ fieldNat 14 p.towLineRate ++ fieldNat 15 p.boatNode ++ fieldNat 16 p.consoleSilence ++
    fieldNat 17 p.expansion ++ fieldNat 18 p.overfillMargin

/-- R179. -/
def lockageItems (l : Lockage) : List ResponseItem :=
  [item 1 l.phase.code] ++ fieldOpt 2 l.breaks[0]? ++ fieldOpt 3 l.breaks[1]? ++ fieldOpt 4 l.breaks[2]? ++
    [item 5 l.boatCut.code] ++ fieldNat 6 l.remaining

/-- R8, section 12.1. -/
def statusItems (u : TowStatus) : List ResponseItem :=
  fieldNat 1 u.cycleCount ++ fieldNat 2 u.stepNumber ++ fieldFlag 3 u.stepWaiting ++ fieldNat 4 u.superseded ++
    fieldNat 5 u.overruns ++ fieldNat 6 u.corrected ++ fieldNat 7 u.damagedEvents ++ fieldNat 8 u.unpostedReadings ++
    fieldNat 9 u.unpostedPulses ++ fieldNat 10 u.silenceEvents ++ fieldNat 11 u.turnedAway ++ fieldNat 12 u.faceSum ++
    fieldNat 13 u.longSum ++ fieldNat 14 u.breastSum ++ fieldNat 15 u.limitAhead ++ fieldNat 16 u.limitAstern ++
    fieldNat 17 u.limitFlank ++ fieldNat 18 u.limitBow ++ fieldNat 19 u.towMass ++ fieldFlag 20 u.limiting

/-- R55, R56, R188: command slots are 4-byte items; a slot beyond the winch count is absent. -/
def State.nodeItems (s : State) (n : Node) : List ResponseItem :=
  fieldNat 1 n.address ++ [item 2 (s.nodeKindCode n)] ++ fieldNat 3 n.winches ++ [item 4 (if n.missing then 2 else 1)] ++
    fieldNat 5 n.misses ++
    (n.slots.zipIdx.map fun p => { field := 6 + p.2, value := slotValue p.1, width := some 4 }) ++
    itemOf 10 ((s.bound n.address).map Member.code)

/-- R97. -/
def contextItems (c : Context) : List ResponseItem :=
  let metered : List ResponseItem := match c.kind with
    | .meter => fieldOpt 7 c.baseline ++ fieldNat 8 c.residual ++ itemOf 9 c.lastTemperature
    | .pump => fieldOpt 7 c.baseline ++ fieldNat 8 c.residual ++ itemOf 9 c.lastTemperature
    | .engine => []
    | .rudder => []
    | .gauge => []
  fieldNat 1 c.address ++ fieldNat 2 c.kind.code ++ [item 3 c.kind.tableCode] ++ fieldNat 4 c.key ++
    [item 5 c.state.code] ++ fieldNat 6 c.misses ++ metered

/-- R28: the items of a record of a store table. -/
def State.recordItems (s : State) (t : Tbl) (key : Nat) : List ResponseItem :=
  match t with
  | .barges => ((s.barge? key).map s.bargeItems).getD []
  | .couplings => ((s.coupling? key).map couplingItems).getD []
  | .engines => ((s.engine? key).map engineItems).getD []
  | .rudders => ((s.rudder? key).map rudderItems).getD []
  | .tanks => ((s.tank? key).map tankItems).getD []
  | .transfers => ((s.transfer? key).map transferItems).getD []

/-! ## LOOK (R28) -/

/-- R28: the record of a store table, read whole; a damaged one returns no fields. DESIGN CHOICE (log 40): a key that is
negative names no record, and ends NO_RECORD. -/
def lookRecord (x : Txn) (t : Tbl) (v : Int) : Answer :=
  match natOf v with
  | none => refuse x .noRecord
  | some key =>
    match x.st.header? t key with
    | none => refuse x .noRecord
    | some _ =>
      match x.read t key (wordsOf t) with
      | (y, true) => answer y (y.st.recordItems t key)
      | (y, false) => refuse y .damaged

/-- R28: LOOK. -/
def requestLook (q : Request) (x : Txn) : Answer :=
  match q.parse fun t => decide (1 ≤ t) && decide (t ≤ 12) with
  | none => refuse x .badRequest
  | some is =>
    if keyAlone q.table.toNat is then
      let v := (valueOf is 1).getD 0
      match storeTable q.table.toNat with
      | some t => lookRecord x t v
      | none =>
        match q.table.toNat with
        | 2 => answer x x.st.stringItems
        | 8 => answer x (policyItems x.st.policy)
        | 9 => answer x (lockageItems x.st.lockage)
        | 10 => answer x (statusItems x.st.status)
        | 11 =>
          match (natOf v).bind x.st.node? with
          | some n => answer x (x.st.nodeItems n)
          | none => refuse x .noRecord
        | _ =>
          match (natOf v).bind x.st.context? with
          | some c => answer x (contextItems c)
          | none => refuse x .noRecord
    else refuse x .badRequest

/-! ## LOOK NEXT (R29) -/

/-- R1: the keys of a store table in its table order. -/
def State.keys (s : State) (t : Tbl) : List Nat :=
  match t with
  | .barges => s.barges.map (·.hull)
  | .couplings => s.couplings.map (·.number)
  | .engines => s.engines.map (·.number)
  | .rudders => s.rudders.map (·.channel)
  | .tanks => s.tanks.map (·.number)
  | .transfers => s.transfers.map (·.number)

/-- R1: the greatest key of each table that LOOK NEXT walks. -/
def greatestKey (table : Nat) : Nat :=
  match table with
  | 1 => 65535
  | 3 => 128
  | 4 => 5
  | 5 => 8
  | 6 => 12
  | 7 => 2
  | 11 => 126
  | _ => 31

/-- R29: the key that follows in table order; a key of 0 gives the first. -/
def State.following (s : State) (t : Tbl) (key : Nat) : Option Nat :=
  if t = .barges then
    if key = 0 then (s.keys t).head?
    else
      match (s.keys t).findIdx? (· == key) with
      | none => none
      | some i => (s.keys t)[i + 1]?
  else (s.keys t).find? fun k => decide (key < k)

/-- R29: the record found is returned as LOOK returns it; a damaged one gives its key item alone. -/
def lookNextRecord (x : Txn) (t : Tbl) (key : Nat) : Answer :=
  match x.st.following t key with
  | none => refuse x .noRecord
  | some k =>
    match x.read t k (wordsOf t) with
    | (y, true) => answer y (y.st.recordItems t k)
    | (y, false) => (y, .damaged, [item 1 k])

/-- R29: LOOK NEXT. -/
def requestLookNext (q : Request) (x : Txn) : Answer :=
  match q.parse fun t => t == 1 || t == 3 || t == 4 || t == 5 || t == 6 || t == 7 || t == 11 || t == 12 with
  | none => refuse x .badRequest
  | some is =>
    if keyAlone q.table.toNat is then
      let v := (valueOf is 1).getD 0
      if within v 0 (greatestKey q.table.toNat) then
        match storeTable q.table.toNat with
        | some t => lookNextRecord x t v.toNat
        | none =>
          if q.table.toNat = 11 then
            match x.st.tow.nodes.find? fun n => decide (v < n.address) with
            | some n => answer x (x.st.nodeItems n)
            | none => refuse x .noRecord
          else
            match x.st.link.contexts.find? fun c => decide (v < c.address) with
            | some c => answer x (contextItems c)
            | none => refuse x .noRecord
      else refuse x (.badField 1)
    else refuse x .badRequest

end Sys2Proof.Machine
end

