-- ==== Sys2Proof/Machine/Couplings.lean ====
section
/-! DEFINITION. The Coupling Supervisor (Chapter 5): tend orders, the state machine on a reading, the loss of a node,
and the usable value. It has no requester of its own: these operations work inside other blocks' transactions. -/
namespace Sys2Proof.Machine

/-! ## Thresholds (R80) -/

def strainThreshold (p : Policy) (c : Coupling) : Nat := c.rated * p.strainLimit / 1000
def slackThreshold (p : Policy) (c : Coupling) : Nat := c.rated * p.slackLimit / 1000
def makeUpTension (p : Policy) (c : Coupling) : Nat := c.rated * p.makeUpTension / 1000

/-- R78: a timer stopped or running for less than a time in ms does not meet it. -/
def elapsed (timer : Option Nat) (clock ms : Nat) : Bool :=
  match timer with
  | none => false
  | some t => decide (ms * 1000 ≤ clock - t)

/-! ## Tend orders (R83 to R85) -/

/-- R83: tend order RELEASE, as the host's AMEND and the Lockage Unit give it. -/
def Txn.giveRelease (x : Txn) (k : Nat) : Txn :=
  match x.st.coupling? k with
  | none => x
  | some c =>
    let released : Txn :=
      (x.modCoupling k [9, 11] fun c =>
        { c with state := .releasing, tendOrder := .release, debounce := none, slackTimer := none }).placeFor c .payOut
    match c.state with
    | .settling => released.touch
    | .made => released.touch
    | .slack => released.touch
    | .strained => released.touch
    | .overload => released.touch
    | .releasing => x.placeFor c .payOut
    | .lost => ((x.modCoupling k [9] fun c => { c with tendOrder := .release }).placeFor c .payOut).touch
    | .unlashed =>
      match c.tendOrder with
      | .make => ((x.modCoupling k [9] fun c => { c with tendOrder := .none }).placeFor c .payOut).touch
      | .none => x
      | .release => x

/-- R84: tend order MAKE, as the host's AMEND and the Lockage Unit give it. -/
def Txn.giveMake (x : Txn) (k : Nat) : Txn :=
  match x.st.coupling? k with
  | none => x
  | some c =>
    let heave : WinchCommand := .heave (makeUpTension x.st.policy c)
    let clock := x.st.clock
    let followed : Txn :=
      if c.seated = some true then
        x.modCoupling k [9, 11] fun c => { c with state := .settling, tendOrder := .make, debounce := some clock }
      else x.modCoupling k [9, 11] fun c => { c with state := .unlashed, tendOrder := .make }
    match c.state with
    | .unlashed => (followed.placeFor c heave).touch
    | .lost => (followed.placeFor c heave).touch
    | .releasing => (followed.placeFor c heave).touch
    | .settling => ((x.modCoupling k [9] fun c => { c with tendOrder := .make }).placeFor c heave).touch
    | .slack => x.placeFor c heave
    | .made => x
    | .strained => x
    | .overload => x

/-- R85: tend order NONE; replacing RELEASE is refused before this is reached. -/
def Txn.giveNone (x : Txn) (k : Nat) : Txn :=
  match x.st.coupling? k with
  | none => x
  | some c =>
    match c.tendOrder with
    | .make => (x.modCoupling k [9] fun c => { c with tendOrder := .none }).placeFor c .hold
    | .none => x
    | .release => x

/-- R83 to R85: a tend order given. -/
def Txn.giveTendOrder (x : Txn) (k : Nat) (o : TendOrder) : Txn :=
  match o with
  | .none => x.giveNone k
  | .make => x.giveMake k
  | .release => x.giveRelease k

/-- R87, R88: a declare taken: the state of a HAND coupling, or the writing off of a LOST one. -/
def Txn.giveDeclare (x : Txn) (k : Nat) (made : Bool) : Txn :=
  match x.st.coupling? k with
  | none => x
  | some c =>
    if c.winchTended then
      (x.modCoupling k [9, 11] fun c => { c with state := .unlashed, tendOrder := .none }).touch
    else
      (x.modCoupling k [10, 11] fun c =>
        { c with declaredMade := made, state := if made then .made else .unlashed }).touch

/-! ## Tension evaluation (R80, R81) -/

/-- What a tension evaluation decides. -/
structure TensionOutcome where
  state : CouplingState
  slackTimer : Option Nat
  command : Option WinchCommand
  /-- R82: the coupling enters SLACK or OVERLOAD. -/
  raised : Bool
deriving DecidableEq, Repr

/-- R80, R81: the tension `t` of a coupling in the MADE group is evaluated. The HEAVE on entry to SLACK is
suppressed for a crossing coupling in SPLIT. -/
def evaluateTension (p : Policy) (phase : Phase) (clock : Nat) (c : Coupling) (t : Nat) : TensionOutcome :=
  if c.rated ≤ t then
    if c.state = .overload then { state := .overload, slackTimer := none, command := none, raised := false }
    else { state := .overload, slackTimer := none, command := some (.ease (strainThreshold p c)), raised := true }
  else if strainThreshold p c ≤ t then
    { state := .strained, slackTimer := none, command := none, raised := false }
  else if t < slackThreshold p c then
    if c.state = .slack then { state := .slack, slackTimer := c.slackTimer, command := none, raised := false }
    else if elapsed c.slackTimer clock p.slackTime then
      { state := .slack, slackTimer := none, raised := true,
        command := if c.crossing ∧ phase = .split then none else some (.heave (makeUpTension p c)) }
    else
      { state := .made, slackTimer := some (c.slackTimer.getD clock), command := none, raised := false }
  else { state := .made, slackTimer := none, command := none, raised := false }

/-- R80 to R82: takes the outcome of a tension evaluation of a coupling standing as `c`. DESIGN CHOICE (log 38): an
evaluation writes the state that it decides, and so renews its word, also where that is the state held. -/
def Txn.takeTension (x : Txn) (k : Nat) (c : Coupling) (t : Nat) : Txn :=
  let o := evaluateTension x.st.policy x.st.lockage.phase x.st.clock c t
  let y := (x.modCoupling k [11] fun c => { c with state := o.state, slackTimer := o.slackTimer }).raiseIf o.raised .coupling
  match o.command with
  | none => y
  | some w => y.placeFor c w

/-! ## A reading (R79) -/

/-- R78, R79: a coupling enters SETTLING: its debounce timer starts. -/
def Txn.settleCoupling (x : Txn) (k : Nat) : Txn :=
  let clock := x.st.clock
  x.modCoupling k [11] fun c => { c with state := .settling, debounce := some clock }

/-- R79: a coupling leaves for UNLASHED, with tend order NONE or with its tend order kept. DESIGN CHOICE (log 38): a kept
tend order is not written, so its word is not renewed. -/
def Txn.unlash (x : Txn) (k : Nat) (keepsOrder : Bool) : Txn :=
  x.modCoupling k (if keepsOrder then [11] else [9, 11]) fun c =>
    { c with state := .unlashed, tendOrder := if keepsOrder then c.tendOrder else .none, debounce := none }

/-- R79: moves a coupling that stands as `c`, with the reading already written, by its seated level. -/
def Txn.moveCoupling (x : Txn) (k : Nat) (c : Coupling) (t : Nat) (seated : Bool) : Txn :=
  let heave : WinchCommand := .heave (makeUpTension x.st.policy c)
  let parted : Txn :=
    ((x.modCoupling k [11] fun c => { c with state := .lost, debounce := none, slackTimer := none }).placeFor c
      .stop).raise .coupling
  let group : Txn := if seated then x.takeTension k c t else parted
  match c.state with
  | .unlashed => if seated then x.settleCoupling k else x
  | .settling =>
    if seated then
      if elapsed c.debounce x.st.clock x.st.policy.debounceTime then
        let o : TendOrder := if c.tendOrder = .make then .none else c.tendOrder
        let made : Coupling := { c with state := .made, tendOrder := o, debounce := none, slackTimer := none }
        let words : List Nat := if c.tendOrder = .make then [9] else []
        (x.modCoupling k words fun c => { c with tendOrder := o, debounce := none, slackTimer := none }).takeTension k
          made t
      else x
    else x.unlash k true
  | .made => group
  | .slack => group
  | .strained => group
  | .overload => group
  | .lost =>
    match c.tendOrder with
    | .none => if seated then x.settleCoupling k else x
    | .release =>
      if seated then (x.modCoupling k [11] fun c => { c with state := .releasing }).placeFor c .payOut
      else x.unlash k false
    | .make =>
      if seated then (x.settleCoupling k).placeFor c heave
      else (x.modCoupling k [11] fun c => { c with state := .unlashed }).placeFor c heave
  | .releasing => if seated then x else x.unlash k false

/-- R60, R79, R92: a reading of a coupling's winch is posted: it is written and the state machine takes one step.
A coupling that is damaged, or found so by this transaction's reads, is passed over. -/
def Txn.postReading (x : Txn) (k t : Nat) (seated : Bool) : Txn :=
  let words : List Nat := if x.st.lockage.phase = .split then [8, 9, 11, 15] else [8, 9, 11]
  match x.read .couplings k words with
  | (y, false) => y
  | (y, true) =>
    match y.st.coupling? k with
    | none => y
    | some c =>
      ((y.modCoupling k [12, 13] fun c => { c with tension := some t, seated := some seated }).moveCoupling k
        { c with tension := some t, seated := some seated } t seated).touch

/-! ## Losing and rebinding the node (R89, R90, R92) -/

/-- R92: the first drop of its node while a coupling is damaged writes LOST and absent readings into it. -/
def Txn.dropDamaged (x : Txn) (k : Nat) : Txn :=
  match x.st.coupling? k with
  | none => x
  | some c =>
    if c.dropSeen then x
    else
      (x.modCoupling k [11, 12, 13] fun c =>
        { c with state := .lost, tension := none, seated := none, dropSeen := true }).raise .coupling

/-- R68, R89: a coupling loses its node: its readings become absent, and in a state other than UNLASHED it becomes
LOST with its timers stopped and its tend order kept. -/
def Txn.loseCoupling (x : Txn) (k : Nat) : Txn :=
  match x.read .couplings k [11] with
  | (y, false) => y.dropDamaged k
  | (y, true) =>
    match y.st.coupling? k with
    | none => y
    | some c =>
      if c.state = .unlashed ∨ c.state = .lost then
        y.modCoupling k [12, 13] fun c => { c with tension := none, seated := none }
      else
        (y.modCoupling k [11, 12, 13] fun c =>
          { c with state := .lost, tension := none, seated := none, debounce := none, slackTimer := none }).raise .coupling

/-- The numbers of the couplings a member tends, in order. -/
def State.tended (s : State) (m : Member) : List Nat := (s.couplings.filter (·.tendedBy m)).map (·.number)

/-- The numbers of the couplings that winch `k` of a member tends, in order. -/
def State.tendedByWinch (s : State) (m : Member) (k : Nat) : List Nat :=
  (s.couplings.filter (·.tendedByWinch m k)).map (·.number)

/-- R89: every coupling the member tends loses its node. -/
def Txn.loseMember (x : Txn) (m : Member) : Txn :=
  (x.forKeys (x.st.tended m) fun k y => y.loseCoupling k).touch

/-- R90: readings are held only while the same node serves the coupling. -/
def Txn.clearReadings (x : Txn) (m : Member) : Txn :=
  x.forKeys (x.st.tended m) fun k y => y.modCoupling k [12, 13] fun c => { c with tension := none, seated := none }

/-- R7, R47: some coupling that the test picks is in a state other than UNLASHED; the states are read. -/
def Txn.anyLashed (x : Txn) (pick : Coupling → Bool) : Txn × Bool :=
  let y := x.readAll .couplings ((x.st.couplings.filter pick).map (·.number)) [11]
  (y, y.st.couplings.any fun c => pick c && c.presents != .unlashed)

/-! ## Winch faults (R61, R63) -/

/-- R61, R63: sets the winch fault flag of a coupling; COUPLING is raised when it passes from clear to set. The flag
of a damaged coupling is written without a raise (R92, log 12). -/
def Txn.setWinchFault (x : Txn) (k : Nat) : Txn :=
  match x.read .couplings k [14] with
  | (y, false) => y.modCoupling k [14] fun c => { c with winchFault := true }
  | (y, true) =>
    match y.st.coupling? k with
    | none => y
    | some c =>
      (y.modCoupling k [14] fun c => { c with winchFault := true }).raiseIf (!c.winchFault) .coupling

/-- R63: clears the winch fault flag. -/
def Txn.clearWinchFault (x : Txn) (k : Nat) : Txn := x.modCoupling k [14] fun c => { c with winchFault := false }

/-! ## The usable value (R91) -/

/-- R91: the usable value of a coupling, in kN. -/
def Coupling.usable (c : Coupling) : Nat :=
  if c.header.damaged then 0
  else
    match c.tending with
    | .hand => if c.state = .made then 3 * c.rated / 4 else 0
    | .winch _ _ =>
      match c.state with
      | .made => if c.winchFault then c.rated / 2 else c.rated
      | .slack => c.rated / 2
      | .strained => c.rated / 2
      | .unlashed => 0
      | .settling => 0
      | .overload => 0
      | .lost => 0
      | .releasing => 0

end Sys2Proof.Machine
end

