-- ==== Sys2Proof/Machine/Roster.lean ====
section
/-! DEFINITION. The Tow Roster (Chapter 3): insertion, removal and move of barges with the string boundary table, and
the tow mass. -/
namespace Sys2Proof.Machine

/-- R41: changes the entries of the string boundary table from string `s` on. -/
def shiftEntries (s : Nat) (f : Nat → Nat) (entries : List Nat) : List Nat :=
  entries.take (s - 1) ++ (entries.drop (s - 1)).map f

/-- R43: inserts a barge at a rank of its string. -/
def State.insertBarge (s : State) (b : Barge) (rank : Nat) : State :=
  let at' := s.entry (b.string - 1) + rank - 1
  { s with
    barges := s.barges.take at' ++ b :: s.barges.drop at'
    strings := shiftEntries b.string (· + 1) s.strings }

/-- R44: removes a barge and closes the gap. -/
def State.removeBarge (s : State) (b : Barge) : State :=
  { s with
    barges := s.barges.filter (·.hull != b.hull)
    strings := shiftEntries b.string (· - 1) s.strings }

/-- R45: moves a barge to the tail of another string. -/
def State.moveBarge (s : State) (b : Barge) (string : Nat) : State :=
  let t := s.removeBarge b
  t.insertBarge { b with string := string } (t.stringCount string + 1)

/-- The hulls of a string's barges at or after a rank. -/
def State.hullsFrom (s : State) (string rank : Nat) : List Nat :=
  (s.barges.map (·.hull)).filter fun h =>
    s.string? h == some string && (match s.rank? h with
      | some r => decide (rank ≤ r)
      | none => false)

/-- R42: some barge of the string at or after the rank is named by a coupling. -/
def State.namedFrom (s : State) (string rank : Nat) : Bool := (s.hullsFrom string rank).any s.bargeNamed

/-- R49: the barges whose mass the boat moves. -/
def State.movedBarges (s : State) : List Nat :=
  let all := s.barges.map (·.hull)
  if s.lockage.phase = .whole then all
  else
    match s.lockage.boatCut with
    | .none => []
    | .conflict => all
    | .cut k => all.filter fun h => s.cut? h == some k

/-- R49: the counted mass of a barge. -/
def Barge.mass (b : Barge) : Nat := if b.header.damaged then Config.damagedMass else b.laden

/-- R49: the tow mass; the laden masses of the barges taken are read. -/
def Txn.towMass (x : Txn) : Txn × Nat :=
  let hulls := x.st.movedBarges
  let y := x.readAll .barges hulls [4]
  (y, y.st.policy.boatMass + ((y.st.barges.filter fun b => hulls.contains b.hull).map Barge.mass).sum)

end Sys2Proof.Machine
end

