-- ==== Sys2Proof/Machine/Enrol.lean ====
section
/-! DEFINITION. ENROL (R30): the validation stages and the creation of a record, table by table. -/
namespace Sys2Proof.Machine

/-! ## Checks shared with AMEND and RESTORE -/

/-- An optional address: 0 makes it absent (R4). -/
def addressOf (v : Int) : Option Nat := if v = 0 then none else some v.toNat

/-- The value given for a field, or a value that stands. -/
def given (is : List Item) (field : Nat) (stands : Nat) : Nat := ((valueOf is field).map Int.toNat).getD stands

/-- R4: an optional address as it will stand. -/
def givenAddress (is : List Item) (field : Nat) (stands : Option Nat) : Option Nat :=
  match valueOf is field with
  | some v => addressOf v
  | none => stands

/-- R47: another barge holds the node address, or it is the boat node address. `own` is the barge that a request
amends; an ENROL has none, so every enrolled barge is another barge for it (log 35). -/
def State.nodeAddressTaken (s : State) (own : Option Nat) (a : Int) : Bool :=
  (s.barges.any fun b => own != some b.hull && (b.node.map fun n => (n : Int)) == some a) ||
    (s.policy.boatNode != 0 && a == s.policy.boatNode)

/-- R113: the number of an enrolled tank of kind DAY, damaged or not. -/
def State.dayTank (s : State) (v : Int) : Bool := s.tanks.any fun t => (t.number : Int) == v && t.kind == .day

/-- R166: the number of an enrolled tank. -/
def State.tankEnrolled (s : State) (v : Int) : Bool := s.tanks.any fun t => (t.number : Int) == v

/-- R142: the hull number of an enrolled, undamaged barge whose bow fitted is yes; the flag is read. -/
def Txn.bowFitted (x : Txn) (v : Int) : Txn × Bool :=
  match natOf v with
  | none => (x, false)
  | some h =>
    match x.read .barges h [7] with
    | (y, false) => (y, false)
    | (y, true) => (y, match y.st.barge? h with
      | none => false
      | some b => b.bowFitted)

/-- R96: the address of an item is named by another record, or by another field of the same record. -/
def State.addressRefused (s : State) (own : Option (Tbl × Nat)) (i : Item) (other : Option Nat) : Option Result :=
  refuseIf (s.addressTaken own i.value.toNat || other == some i.value.toNat) .addressInUse

/-! ## Barges (R42, R43) -/

/-- R39, R42: stage 4 for an item of a barge. -/
def bargeRange (i : Item) : Option Result :=
  match i.field with
  | 1 => inRange i 1 65535
  | 2 => inRange i 1 6
  | 3 => inRange i 1 8
  | 4 => inRange i 0 4000
  | 5 => inRange i 0 600
  | 6 => inRange i 0 126
  | 7 => inRange i 0 1
  | _ => bad i

/-- R42: stage 5 for an item of a barge's ENROL. -/
def State.bargeReferences (s : State) (hull : Int) (string rank : Nat) (i : Item) : Option Result :=
  match i.field with
  | 1 =>
    if (s.barge? hull.toNat).isSome then some .duplicate
    else refuseIf (decide (Config.bargeSlots ≤ s.barges.length)) .full
  | 2 =>
    if Config.stringLength ≤ s.stringCount string then some .full else refuseIf (s.namedFrom string rank) .inUse
  | 6 => refuseIf (i.value != 0 && s.nodeAddressTaken none i.value) .addressInUse
  | _ => none

/-- R42, R43: ENROL of a barge. -/
def enrolBarge (is : List Item) (x : Txn) : Answer :=
  if !([1, 2, 4, 5, 7].all (gives is)) then refuse x .badRequest
  else
    match checkItems is bargeRange with
    | some r => refuse x r
    | none =>
      let hull := given is 1 0
      let string := given is 2 0
      let tail := x.st.stringCount string + 1
      let wanted := given is 3 tail
      let rank := min wanted tail
      match checkItems is (x.st.bargeReferences hull string rank) with
      | some r => refuse x r
      | none =>
        if x.st.lockage.phase ≠ .whole then refuse x .wrongState
        else
          let b : Barge :=
            { hull := hull, string := string, node := givenAddress is 6 none, laden := given is 4 0,
              draft := given is 5 0, bowFitted := valueOf is 7 == some 1, header := .fresh }
          (x.on fun s => s.insertBarge b rank, doneOr (decide (tail < wanted)), [])

/-! ## Couplings (R73, R74) -/

/-- R73, R74, R76: stage 4 for an item of a coupling that will be winch-tended or not. A request whose tending code is
neither counts as one that makes the coupling HAND (log 36). -/
def couplingRange (winch : Bool) (i : Item) : Option Result :=
  match i.field with
  | 2 => inRange i 1 3
  | 3 => inRange i 0 65535
  | 4 => inRange i 1 65535
  | 5 => inRange i 0 1
  | 6 => if winch then inRange i 0 65535 else bad i
  | 7 => if winch then inRange i 1 4 else bad i
  | 8 => inRange i 10 2000
  | 9 => if winch then inRange i 0 2 else bad i
  | 10 => if winch then inRange i 0 0 else inRange i 0 1
  | _ => bad i

/-- R74: the barge is enrolled. -/
def State.enrolledMember (s : State) (m : Member) : Bool :=
  match m with
  | .boat => true
  | .barge h => (s.barge? h).isSome

/-- Two figures differ by 1. -/
def differByOne (a b : Option Nat) : Bool :=
  match a, b with
  | some m, some n => m == n + 1 || n == m + 1
  | _, _ => false

/-- R74: the ends satisfy the adjacency rule of the kind. -/
def State.adjacent (s : State) (kind : CouplingKind) (endA : Member) (endB : Nat) : Bool :=
  match kind, endA with
  | .face, .boat => true
  | .face, .barge _ => false
  | .long, .boat => false
  | .long, .barge h => s.string? h == s.string? endB && differByOne (s.rank? h) (s.rank? endB)
  | .breast, .boat => false
  | .breast, .barge h => s.rank? h == s.rank? endB && differByOne (s.string? h) (s.string? endB)

/-- R74: the last check of stage 4, on the coupling as it will stand. -/
def State.endsRefused (s : State) (kind : CouplingKind) (endA : Member) (endB : Nat) (t : Tending) : Option Result :=
  firstFailure
    [refuseIf (!s.enrolledMember endA) (.badField 3),
      refuseIf (!(s.barge? endB).isSome || endA == .barge endB) (.badField 4),
      refuseIf (!s.adjacent kind endA endB) (.badField 2),
      match t with
      | .hand => none
      | .winch m _ => refuseIf (!(m == endA || m == .barge endB)) (.badField 6)]

/-- R86, R187: MAKE and declare MADE are refused for a crossing coupling in BREAKING and SPLIT. -/
def State.makeRefused (s : State) (is : List Item) (crossing : Bool) : Bool :=
  (s.lockage.phase == .breaking || s.lockage.phase == .split) && crossing &&
    (valueOf is 9 == some 1 || valueOf is 10 == some 1)

/-- R75, R83 to R88: the tend order and the declare that a request gives take effect. -/
def Txn.giveOrders (x : Txn) (k : Nat) (is : List Item) : Txn :=
  let y := match valueOf is 9 with
    | some v => x.giveTendOrder k (tendOrderOf v)
    | none => x
  match valueOf is 10 with
  | some v => y.giveDeclare k (v == 1)
  | none => y

/-- The tending that items give, over the one that stands. DESIGN CHOICE (log 36): a code that is neither HAND nor WINCH
is taken as HAND while the other items are checked, so a tending member, winch index or tend order item before it in the
frame is the one that BAD_FIELD names, and the tending item itself otherwise. -/
def givenTending (is : List Item) (stands : Tending) : Tending :=
  let member : Member := match valueOf is 6, stands with
    | some v, _ => memberOf v
    | none, .winch m _ => m
    | none, .hand => .boat
  let index : Nat := match stands with
    | .winch _ k => given is 7 k
    | .hand => given is 7 0
  match valueOf is 5, stands with
  | some 1, _ => .winch member index
  | some _, _ => .hand
  | none, .hand => .hand
  | none, .winch _ _ => .winch member index

/-- R73, R74: ENROL of a coupling. A tending code that is neither HAND nor WINCH is taken as `givenTending` takes it
(log 36). -/
def enrolCoupling (is : List Item) (x : Txn) : Answer :=
  let winch : Bool := (givenTending is .hand).code == 1
  if !([2, 3, 4, 5, 8].all (gives is)) || (winch && !([6, 7].all (gives is))) then refuse x .badRequest
  else
    match checkItems is (couplingRange winch) with
    | some r => refuse x r
    | none =>
      let kind := ((valueOf is 2).bind couplingKindOf).getD .face
      let endA := memberOf ((valueOf is 3).getD 0)
      let endB := given is 4 0
      let tending := givenTending is .hand
      let crossing := x.st.lockage.phase != .whole && x.st.endsCross endA endB
      match x.st.endsRefused kind endA endB tending with
      | some r => refuse x r
      | none =>
        if Config.couplingSlots ≤ x.st.couplings.length then refuse x .full
        else if x.st.makeRefused is crossing || (winch && gives is 10) then refuse x .wrongState
        else
          let n := lowestFree (x.st.couplings.map (·.number)) Config.couplingSlots 1
          let c : Coupling :=
            { number := n, kind := kind, endA := endA, endB := endB, tending := tending, rated := given is 8 0,
              tendOrder := .none, declaredMade := false, state := .unlashed, tension := none, seated := none,
              winchFault := false, crossing := crossing, header := .fresh, debounce := none, slackTimer := none,
              dropSeen := false }
          let y := x.on fun s => { s with couplings := insertByKey (·.number) c s.couplings }
          ((y.giveOrders n is).touch, .done, [item 1 n])

/-! ## Engines (R113, R142) -/

/-- R112, R113, R142: stage 4 for an item of an engine. `meter` says whether a meter address will be present, and
`bow` whether the bow barge given passes the test of R142. -/
def State.engineRange (s : State) (five meter bow : Bool) (i : Item) : Option Result :=
  match i.field with
  | 1 => inRange i 1 5
  | 2 => if five then bad i else inRange i 1 31
  | 3 => if five then refuseIf (!bow) (.badField 3) else bad i
  | 4 => inRange i 50 600
  | 5 => if five then bad i else inRange i 0 31
  | 6 => if five || !meter then bad i else inRange i 100 100000
  | 7 => if five then bad i else refuseIf (!s.dayTank i.value) (.badField 7)
  | 8 => none
  | _ => bad i

/-- R3, R113: a staged order is clamped. -/
def stagedOrder (is : List Item) (stands : Int) : Int := ((valueOf is 8).map fun v => clamp v (-1000) 1000).getD stands

/-- R113: the staged order given lies outside its range. -/
def orderClamped (is : List Item) : Bool :=
  match valueOf is 8 with
  | none => false
  | some v => !within v (-1000) 1000

/-- R112: the parameters of an engine's contexts. -/
def engineFields (key : Nat) (before : Option Nat × Option Nat) (after : Option Nat × Option Nat) (rated factor : Nat) :
    Nat × List AddressField :=
  (key, [{ before := before.1, after := after.1, kind := .engine, parameters := .engine rated },
    { before := before.2, after := after.2, kind := .meter, parameters := .factor factor }])

/-- R113, R142: ENROL of an engine. A meter address without a meter factor is found after the items given (log 27).
DESIGN CHOICE (log 43): a number outside 1..5 is taken as a main engine's, for the fields that must be given and for
those that apply. -/
def enrolEngine (is : List Item) (x : Txn) : Answer :=
  let five : Bool := valueOf is 1 == some 5
  let meter := givenAddress is 5 none
  if !((if five then [1, 3, 4] else [1, 2, 4, 7]).all (gives is)) then refuse x .badRequest
  else
    let bow := if five then x.bowFitted ((valueOf is 3).getD 0) else (x, false)
    let y := bow.1
    match checkItems is (y.st.engineRange five meter.isSome bow.2) with
    | some r => refuse y r
    | none =>
      if meter.isSome && !gives is 6 then refuse y (.badField 6)
      else
        let key := given is 1 0
        let station := givenAddress is 2 none
        match checkItems is (fun i => match i.field with
          | 1 => refuseIf (y.st.engine? key).isSome .duplicate
          | 2 => y.st.addressRefused none i meter
          | 5 => if i.value = 0 then none else y.st.addressRefused none i station
          | _ => none) with
        | some r => refuse y r
        | none =>
          let e : Engine :=
            { number := key, station := station, bowBarge := if five then some (given is 3 0) else none, meter := meter,
              supply := if five then none else some (given is 7 0), rated := given is 4 0,
              meterFactor := if meter.isSome then some (given is 6 0) else none, staged := stagedOrder is 0, next := 0,
              live := 0, allowed := 0, sent := 0, delivered := none, alarm := false, state := .offline,
              lastDirection := .none, zeroTime := 0, consumed := 0, undebited := 0, header := .fresh }
          let z := y.on fun s => { s with engines := insertByKey (·.number) e s.engines }
          let f := engineFields key (none, none) (station, meter) e.rated (given is 6 0)
          (z.moveContexts f.1 f.2, doneOr (orderClamped is), [])

/-! ## Rudder channels (R135) -/

/-- R134, R135: stage 4 for an item of a rudder channel; a staged angle is clamped. -/
def rudderRange (i : Item) : Option Result :=
  match i.field with
  | 1 => inRange i 1 8
  | 2 => inRange i 1 2
  | 3 => inRange i 1 4
  | 4 => inRange i 1 31
  | 5 => inRange i 100 450
  | 6 => inRange i 10 150
  | 7 => none
  | _ => bad i

/-- R135: clamps an angle into plus or minus the limit angle. -/
def clampAngle (limit : Nat) (v : Int) : Int := clamp v (-(limit : Int)) limit

/-- R135: ENROL of a rudder channel. -/
def enrolRudder (is : List Item) (x : Txn) : Answer :=
  if !([1, 2, 3, 4, 5, 6].all (gives is)) then refuse x .badRequest
  else
    match checkItems is rudderRange with
    | some r => refuse x r
    | none =>
      let key := given is 1 0
      match checkItems is (fun i => match i.field with
        | 1 => refuseIf (x.st.rudder? key).isSome .duplicate
        | 4 => x.st.addressRefused none i none
        | _ => none) with
      | some r => refuse x r
      | none =>
        let limit := given is 5 0
        let wanted := (valueOf is 7).getD 0
        let r : Rudder :=
          { channel := key, kind := rudderKindOf ((valueOf is 2).getD 1), shaft := given is 3 0, station := given is 4 0,
            limit := limit, rate := given is 6 0, staged := clampAngle limit wanted, next := 0, live := 0, allowed := 0,
            sent := 0, feedback := none, state := .offline, header := .fresh }
        let y := x.on fun s => { s with rudders := insertByKey (·.channel) r s.rudders }
        let f : AddressField :=
          { before := none, after := some r.station, kind := .rudder, parameters := .rudder limit r.rate }
        (y.moveContexts key [f], doneOr (clampAngle limit wanted != wanted), [])

/-! ## Tanks (R149) -/

/-- R148, R149: stage 4 for an item of a tank of capacity `capacity`; `opening` says whether the request takes one. -/
def tankRange (capacity : Int) (opening : Bool) (i : Item) : Option Result :=
  match i.field with
  | 1 => inRange i 1 12
  | 2 => inRange i 1 2
  | 3 => inRange i 100 400000
  | 4 => inRange i 0 (capacity - 1)
  | 5 => inRange i 0 31
  | 7 => if opening then inRange i 0 (capacity * 1000) else bad i
  | _ => bad i

/-- R149: a tank as ENROL and RESTORE start it. -/
def newTank (number : Nat) (kind : TankKind) (gauge : Option Nat) (capacity lowMark opening : Nat) : Tank :=
  { number := number, kind := kind, gauge := gauge, capacity := capacity, lowMark := lowMark, content := opening,
    opening := opening, received := 0, transferredIn := 0, transferredOut := 0, drawn := 0, adjustments := 0,
    shortfall := 0, low := decide (opening < lowMark * 1000), gauged := none, header := .fresh }

/-- R149: ENROL of a tank. -/
def enrolTank (is : List Item) (x : Txn) : Answer :=
  if !([1, 2, 3, 4].all (gives is)) then refuse x .badRequest
  else
    match checkItems is (tankRange ((valueOf is 3).getD 0) true) with
    | some r => refuse x r
    | none =>
      let key := given is 1 0
      match checkItems is (fun i => match i.field with
        | 1 => refuseIf (x.st.tank? key).isSome .duplicate
        | 5 => if i.value = 0 then none else x.st.addressRefused none i none
        | _ => none) with
      | some r => refuse x r
      | none =>
        let t := newTank key (tankKindOf ((valueOf is 2).getD 1)) (givenAddress is 5 none) (given is 3 0) (given is 4 0)
          (given is 7 0)
        let y := x.on fun s => { s with tanks := insertByKey (·.number) t s.tanks }
        (y.moveContexts key [{ before := none, after := t.gauge, kind := .gauge, parameters := .gauge t.capacity }],
          .done, [])

/-! ## Transfers (R166) -/

/-- R165, R166: stage 4 for an item of a transfer with the source and mode as they will stand. A mode code that is none
of the three is taken as not COUNTED (log 36). -/
def State.transferRange (s : State) (source mode : Int) (i : Item) : Option Result :=
  match i.field with
  | 1 => inRange i 1 2
  | 2 => inRange i 1 31
  | 3 => inRange i 100 100000
  | 4 => refuseIf (!s.tankEnrolled i.value) (.badField 4)
  | 5 => refuseIf (!s.tankEnrolled i.value || i.value == source) (.badField 5)
  | 6 => inRange i 10 20000
  | 7 => inRange i 1 3
  | 8 => if mode = 2 then inRange i 1 1000 else bad i
  | 9 => if i.value = 0 then none else inRange i 100 100000
  | _ => bad i

/-- R166: a transfer as ENROL and RESTORE start it. -/
def newTransfer (number pump source destination factor volume : Nat) (mode : TransferMode) (count : Option Nat)
    (interval : Nat) : Transfer :=
  { number := number, pump := pump, source := source, destination := destination, factor := factor,
    batchVolume := volume, mode := mode, batchCount := count, interval := interval, batchesDone := 0, batchMoved := 0,
    totalMoved := 0, heldVolume := 0, state := .idle, gapRequest := false, pendingAbort := false, mark := none,
    header := .fresh, pumpRun := false, quiet := 0 }

/-- R166: ENROL of a transfer. COUNTED without a batch count is found after the items given (log 27). -/
def enrolTransfer (is : List Item) (x : Txn) : Answer :=
  if !([1, 2, 3, 4, 5, 6, 7, 9].all (gives is)) then refuse x .badRequest
  else
    match checkItems is (x.st.transferRange ((valueOf is 4).getD 0) ((valueOf is 7).getD 0)) with
    | some r => refuse x r
    | none =>
      if valueOf is 7 = some 2 ∧ !gives is 8 then refuse x (.badField 8)
      else
        let key := given is 1 0
        match checkItems is (fun i => match i.field with
          | 1 => refuseIf (x.st.transfer? key).isSome .duplicate
          | 2 => x.st.addressRefused none i none
          | _ => none) with
        | some r => refuse x r
        | none =>
          let t := newTransfer key (given is 2 0) (given is 4 0) (given is 5 0) (given is 3 0) (given is 6 0)
            (transferModeOf ((valueOf is 7).getD 1)) ((valueOf is 8).map Int.toNat) (given is 9 0)
          let y := x.on fun s => { s with transfers := insertByKey (·.number) t s.transfers }
          (y.moveContexts key [{ before := none, after := some t.pump, kind := .pump, parameters := .factor t.factor }],
            .done, [])

/-! ## ENROL (R30) -/

/-- R27, R30: ENROL admits the six store tables. -/
def requestEnrol (q : Request) (x : Txn) : Answer :=
  match q.parse fun t => (storeTable t).isSome, storeTable q.table.toNat with
  | some is, some .barges => enrolBarge is x
  | some is, some .couplings => enrolCoupling is x
  | some is, some .engines => enrolEngine is x
  | some is, some .rudders => enrolRudder is x
  | some is, some .tanks => enrolTank is x
  | some is, some .transfers => enrolTransfer is x
  | _, _ => refuse x .badRequest

end Sys2Proof.Machine
end

