-- ==== Sys2Proof/Machine/Nodes.lean ====
section
/-! DEFINITION. Nodes that leave the list (R68, R70) and engine 5's state as its node's doings decide it (R144, R145). -/
namespace Sys2Proof.Machine

/-- R144: engine 5, whose state the transaction holds, takes a state; leaving RUNNING has the consequences of R145. -/
def Txn.setBow (x : Txn) (new : UnitState) : Txn :=
  match x.st.engine? 5 with
  | none => x
  | some e =>
    let y := if e.state = .running ∧ new ≠ .running then x.engineLeavesRunning 5 else x
    y.modEngine 5 [15] fun e => { e with state := new }

/-- R144: engine 5 takes a state. The state before is read where the new one is not RUNNING, since it is used there
alone. -/
def Txn.enterBow (x : Txn) (new : UnitState) : Txn := (if new = .running then x else x.readBow).setBow new

/-- Changes the Tow-Line Controller. -/
def Txn.modTow (x : Txn) (f : TowLine → TowLine) : Txn := x.on fun s => { s with tow := f s.tow }

/-- R68: a node is removed from the list, with what follows for the couplings it served, for engine 5, and with
NODE. -/
def Txn.dropNode (x : Txn) (address : Nat) : Txn :=
  let member := x.st.bound address
  let atBow : Bool := match x.st.bowBarge?, member with
    | some h, some m => m == .barge h
    | _, _ => false
  let y := x.modTow fun t => { t with nodes := t.nodes.filter (·.address != address) }
  let z := match member with
    | some m => y.loseMember m
    | none => y
  (if atBow then z.enterBow .offline else z).raise .node

/-- R70, R71: the node list is emptied, entry by entry in ascending address order; a running sweep ends, and the
rotation starts again at address 1. -/
def Txn.emptyList (x : Txn) : Txn :=
  (x.forKeys (x.st.tow.nodes.map (·.address)) fun a y => y.dropNode a).modTow fun t =>
    { t with nodes := [], sweep := none, pointer := 1, round := 0, visitLast := false }

/-- An exchange is under way on the tow line. -/
def TowPhase.exchanging : TowPhase → Bool
  | .statusCall _ => true
  | .enquiry _ _ => true
  | .commanding _ _ => true
  | .presence _ => true
  | .ready => false
  | .posting _ _ _ => false
  | .dropping _ => false
  | .enquiryDue _ => false
  | .commandDue _ => false
  | .delivering _ _ => false
  | .faulting => false

/-- R71: the exchange under way, or the next one of a delivery, is abandoned. -/
def TowPhase.abandoned : TowPhase → TowPhase
  | .statusCall _ => .ready
  | .enquiry _ _ => .ready
  | .commanding _ _ => .ready
  | .presence _ => .ready
  | .enquiryDue _ => .ready
  | .commandDue _ => .ready
  | .ready => .ready
  | .posting a r b => .posting a r b
  | .dropping a => .dropping a
  | .delivering a c => .delivering a c
  | .faulting => .faulting

end Sys2Proof.Machine
end

