-- ==== Sys2Proof/Machine/Amend.lean ====
section
/-! DEFINITION. AMEND (R31): the validation stages and the writing of fields with their follow-on effects, table by
table. A value equal to the one held is no change, and the conditions on a change are not applied to it (log 9). -/
namespace Sys2Proof.Machine

/-! ## Barges (R45 to R47) -/

/-- R39, R46: stage 4 for an item of a barge's AMEND; rank and damaged are KEPT. -/
def bargeAmendRange (i : Item) : Option Result := if i.field = 3 then bad i else bargeRange i

/-- R42, R45 to R47: stage 5 for an item of a barge's AMEND. -/
def State.bargeAmendReferences (s : State) (b : Barge) (i : Item) : Option Result :=
  match i.field with
  | 2 =>
    if i.value = b.string then none
    else if s.namedFrom b.string ((s.rank? b.hull).getD 0) then some .inUse
    else refuseIf (decide (Config.stringLength ≤ s.stringCount i.value.toNat)) .full
  | 6 =>
    refuseIf (i.value != 0 && addressOf i.value != b.node && s.nodeAddressTaken (some b.hull) i.value) .addressInUse
  | 7 => refuseIf (i.value == 0 && s.bowBarge? == some b.hull) .inUse
  | _ => none

/-- R47: engine 5 names the barge as its bow barge and is RUNNING; its state is read. R47 excepts no damaged engine 5,
and R144 has its state go on for a damaged record as for an undamaged one, so the test goes on with the state held when
the word cannot be delivered. DEDUCED (log 19): the state held, where R13 delivers no word of a damaged record. -/
def Txn.bowRunning (x : Txn) (hull : Nat) : Txn × Bool :=
  if x.st.bowBarge? = some hull then
    let y := x.readBow
    (y, (y.st.engine? 5).any (·.state == .running))
  else (x, false)

/-- R45 to R48: AMEND of a barge. -/
def amendBarge (key : Nat) (is : List Item) (x : Txn) : Answer :=
  match x.st.barge? key with
  | none => refuse x .noRecord
  | some b =>
    match checkItems is bargeAmendRange with
    | some r => refuse x r
    | none =>
      match checkItems is (x.st.bargeAmendReferences b) with
      | some r => refuse x r
      | none =>
        let string := given is 2 b.string
        let node := givenAddress is 6 b.node
        let lashed := if node = b.node then (x, false) else x.anyLashed fun c => c.tendedBy (.barge key)
        let running := if node = b.node then (lashed.1, false) else lashed.1.bowRunning key
        let y := running.1
        if string ≠ b.string ∧ y.st.lockage.phase ≠ .whole then refuse y .wrongState
        else if lashed.2 || running.2 then refuse y .wrongState
        else
          let words := (is.map (·.field)).filter fun f => f == 4 || f == 5 || f == 7
          let z := y.modBarge key words fun b =>
            { b with node := node, laden := given is 4 b.laden, draft := given is 5 b.draft,
                     bowFitted := ((valueOf is 7).map fun v => v == 1).getD b.bowFitted }
          let w := if string = b.string then z else z.on fun s =>
            match s.barge? key with
            | none => s
            | some b => s.moveBarge b string
          (if node = b.node then w else w.clearReadings (.barge key), .done, [])

/-! ## Couplings (R74 to R76, R83 to R88) -/

/-- R85, R88: a tend order NONE over RELEASE, or a declare UNLASHED for a winch-tended coupling that is not LOST. Both
are tests of state, and see the record before any item is written (R31), its tending with it. -/
def Coupling.ordersRefused (c : Coupling) (is : List Item) : Bool :=
  (valueOf is 9 == some 0 && c.tendOrder == .release) ||
    (c.winchTended && valueOf is 10 == some 0 && c.state != .lost)

/-- R74 to R76: AMEND of a coupling. The fields are written before the orders are given, so a MAKE is given with the
rated load and the tending of the same request (log 26), a missing tending member or winch index is found after the
items given (log 27), and a tending code that is neither HAND nor WINCH is taken as HAND for the other items (log 36).
DESIGN CHOICE (log 38): tend order and declare are renewed where the kind of tending changes, and not where a new
tending member or winch index keeps them. -/
def amendCoupling (key : Nat) (is : List Item) (x : Txn) : Answer :=
  match x.st.coupling? key with
  | none => refuse x .noRecord
  | some c =>
    let tending := givenTending is c.tending
    let winch : Bool := tending.code == 1
    match checkItems is (couplingRange winch) with
    | some r => refuse x r
    | none =>
      if winch && !c.winchTended && !gives is 6 then refuse x (.badField 6)
      else if winch && !c.winchTended && !gives is 7 then refuse x (.badField 7)
      else
        let kind := ((valueOf is 2).bind couplingKindOf).getD c.kind
        let endA := ((valueOf is 3).map memberOf).getD c.endA
        let endB := given is 4 c.endB
        match if [2, 3, 4, 5, 6, 7].any (gives is) then x.st.endsRefused kind endA endB tending else none with
        | some r => refuse x r
        | none =>
          let endsChanged : Bool := kind != c.kind || endA != c.endA || endB != c.endB
          let tendingChanged : Bool := tending != c.tending
          let whole : Bool := x.st.lockage.phase == .whole
          let crossing : Bool := if endsChanged && !whole then x.st.endsCross endA endB else c.crossing
          if (endsChanged || tendingChanged) && c.state != .unlashed then refuse x .wrongState
          else if x.st.makeRefused is (crossing || c.crossing) then refuse x .wrongState
          else if c.ordersRefused is then refuse x .wrongState
          else
            let kindOfTending : Bool := tendingChanged && (winch != c.winchTended)
            let words : List Nat :=
              (if gives is 8 then [8] else []) ++ (if kindOfTending then [9, 10] else []) ++
                (if tendingChanged then [12, 13, 14] else []) ++ (if endsChanged && !whole then [15] else [])
            let y := x.modCoupling key words fun c =>
              { c with
                kind := kind, endA := endA, endB := endB, tending := tending, rated := given is 8 c.rated,
                crossing := crossing,
                tension := if tendingChanged then none else c.tension,
                seated := if tendingChanged then none else c.seated,
                winchFault := c.winchFault && !tendingChanged,
                tendOrder := if kindOfTending then .none else c.tendOrder,
                declaredMade := c.declaredMade && !kindOfTending }
            ((y.giveOrders key is).touch, .done, [])

/-! ## Engines (R114, R143, R158) -/

/-- R105, R114: the engine's contexts after its fields are written: moved, readmitted or retried. -/
def Txn.engineContexts (x : Txn) (before after : Engine) (setGiven : Bool) : Txn :=
  let factor := after.meterFactor.getD 0
  let f := engineFields after.number (before.station, before.meter) (after.station, after.meter) after.rated factor
  let y := x.moveContexts f.1 f.2
  let z := match after.station with
    | some a =>
      if before.station = after.station ∧ before.rated ≠ after.rated then y.giveParameters a (.engine after.rated) else y
    | none => y
  let w := match after.meter with
    | some a =>
      if before.meter = after.meter ∧ before.meterFactor ≠ after.meterFactor then z.giveParameters a (.factor factor)
      else z
    | none => z
  if setGiven then w.retryAll (after.station.toList ++ after.meter.toList) else w

/-- R114, R143: AMEND of an engine. While its sent order is not 0, engine 5 takes no item of bow barge or rated thrust,
the value held among them, and a main engine no change of rated thrust or station address (log 9). A bow barge that
engine 5 names already is no new one, and is not tested. A meter address without a meter factor is found after the
items given (log 27). -/
def amendEngine (key : Nat) (is : List Item) (x : Txn) : Answer :=
  match x.st.engine? key with
  | none => refuse x .noRecord
  | some e =>
    let five : Bool := key == 5
    let meter := givenAddress is 5 e.meter
    let held : Option Int := e.bowBarge.map fun h => (h : Int)
    let bow := if five && gives is 3 && valueOf is 3 != held then x.bowFitted ((valueOf is 3).getD 0) else (x, true)
    let y := bow.1
    match checkItems is (y.st.engineRange five meter.isSome bow.2) with
    | some r => refuse y r
    | none =>
      if meter.isSome && e.meter.isNone && !gives is 6 then refuse y (.badField 6)
      else
        let station := if five then none else givenAddress is 2 e.station
        match checkItems is (fun i => match i.field with
          | 2 => if some i.value.toNat = e.station then none else y.st.addressRefused (some (.engines, key)) i meter
          | 5 =>
            if i.value = 0 ∨ some i.value.toNat = e.meter then none
            else y.st.addressRefused (some (.engines, key)) i station
          | _ => none) with
        | some r => refuse y r
        | none =>
          let rated := given is 4 e.rated
          let bowBarge := if five then some (given is 3 (e.bowBarge.getD 0)) else none
          let bowMoved : Bool := five && bowBarge != e.bowBarge
          let bound : Bool := if five then gives is 3 || gives is 4 else station != e.station || rated != e.rated
          if bound && e.sent != 0 then refuse y .wrongState
          else
            let factor := if meter.isSome then some (given is 6 (e.meterFactor.getD 0)) else none
            let supply := if five then none else some (given is 7 (e.supply.getD 0))
            let words := (if gives is 4 then [4] else []) ++ (if gives is 6 || factor != e.meterFactor then [6] else []) ++
              (if gives is 8 then [8] else [])
            let after : Engine :=
              { e with station := station, bowBarge := bowBarge, meter := meter, supply := supply, rated := rated,
                       meterFactor := factor, staged := stagedOrder is e.staged }
            let z := y.modEngine key words fun e =>
              { e with station := station, bowBarge := bowBarge, meter := meter, supply := supply, rated := rated,
                       meterFactor := factor, staged := stagedOrder is e.staged }
            let w := z.engineContexts e after ([2, 3, 4, 5, 6, 7].any (gives is))
            let v := if bowMoved then w.setBow .offline else w
            let u := match supply with
              | some t => if supply = e.supply then v else v.debitHeld key t
              | none => v
            (u, doneOr (orderClamped is), [])

/-! ## Rudder channels (R135) -/

/-- R135: AMEND of a rudder channel; a new limit angle clamps the staged, next and live target angles. -/
def amendRudder (key : Nat) (is : List Item) (x : Txn) : Answer :=
  match x.st.rudder? key with
  | none => refuse x .noRecord
  | some r =>
    match checkItems is rudderRange with
    | some e => refuse x e
    | none =>
      match checkItems is (fun i => match i.field with
        | 4 => if i.value.toNat = r.station then none else x.st.addressRefused (some (.rudders, key)) i none
        | _ => none) with
      | some e => refuse x e
      | none =>
        let station := given is 4 r.station
        let limit := given is 5 r.limit
        let rate := given is 6 r.rate
        if (station != r.station || limit != r.limit || rate != r.rate) && r.sent != 0 then refuse x .wrongState
        else
          let fitted (v : Int) : Int := if limit = r.limit then v else clampAngle limit v
          let wanted := (valueOf is 7).getD r.staged
          let staged := if gives is 7 then clampAngle limit wanted else fitted wanted
          let clamped : Bool := staged != wanted || fitted r.next != r.next || fitted r.live != r.live
          let words := ((is.map (·.field)).filter fun f => f == 2 || f == 5 || f == 6 || f == 7) ++
            (if limit = r.limit then [] else [7, 8, 9])
          let y := x.modRudder key words fun r =>
            { r with
              kind := ((valueOf is 2).map rudderKindOf).getD r.kind, shaft := given is 3 r.shaft, station := station,
              limit := limit, rate := rate, staged := staged, next := fitted r.next, live := fitted r.live }
          let z := y.moveContexts key
            [{ before := some r.station, after := some station, kind := .rudder, parameters := .rudder limit rate }]
          let w := if station = r.station ∧ (limit ≠ r.limit ∨ rate ≠ r.rate) then
              z.giveParameters station (.rudder limit rate)
            else z
          (if [2, 3, 4, 5, 6].any (gives is) then w.retryRejected station else w, doneOr clamped, [])

/-! ## Tanks (R150) -/

/-- R150: AMEND of a tank. A capacity at or below a low mark that stands is found after the items given (log 27). -/
def amendTank (key : Nat) (is : List Item) (x : Txn) : Answer :=
  match x.st.tank? key with
  | none => refuse x .noRecord
  | some t =>
    let capacity := given is 3 t.capacity
    let lowMark := given is 4 t.lowMark
    match checkItems is (tankRange ((valueOf is 3).getD t.capacity) false) with
    | some r => refuse x r
    | none =>
      if capacity ≤ lowMark then refuse x (.badField 4)
      else
        let kind := ((valueOf is 2).map tankKindOf).getD t.kind
        let gauge := givenAddress is 5 t.gauge
        match checkItems is (fun i => match i.field with
          | 2 =>
            refuseIf (t.kind == .day && kind == .storage && x.st.engines.any fun e => e.supply == some key) .inUse
          | 5 =>
            if i.value = 0 ∨ some i.value.toNat = t.gauge then none
            else x.st.addressRefused (some (.tanks, key)) i none
          | _ => none) with
        | some r => refuse x r
        | none =>
          let words := ((is.map (·.field)).filter fun f => f == 3 || f == 4) ++ (if gauge = t.gauge then [] else [15])
          let y := x.modTank key words fun t =>
            { t with kind := kind, capacity := capacity, lowMark := lowMark, gauge := gauge,
                     gauged := if gauge = t.gauge then t.gauged else none }
          let z := y.moveContexts key
            [{ before := t.gauge, after := gauge, kind := .gauge, parameters := .gauge capacity }]
          let w := match gauge with
            | some a => if gauge = t.gauge ∧ capacity ≠ t.capacity then z.giveParameters a (.gauge capacity) else z
            | none => z
          let v := if lowMark = t.lowMark then w else w.evaluateLow key
          (if [2, 3, 4, 5].any (gives is) then v.retryAll gauge.toList else v, .done, [])

/-! ## Transfers (R166) -/

/-- R166: AMEND of a transfer. A source that becomes the destination that stands, and COUNTED without a batch count,
are found after the items given (log 27). DESIGN CHOICE (log 27): where both are so, destination is the field named. -/
def amendTransfer (key : Nat) (is : List Item) (x : Txn) : Answer :=
  match x.st.transfer? key with
  | none => refuse x .noRecord
  | some t =>
    let source := given is 4 t.source
    let mode := (valueOf is 7).getD t.mode.code
    match checkItems is (x.st.transferRange ((valueOf is 4).getD t.source) mode) with
    | some r => refuse x r
    | none =>
      let destination := given is 5 t.destination
      if source = destination then refuse x (.badField 5)
      else if mode = 2 ∧ t.mode ≠ .counted ∧ !gives is 8 then refuse x (.badField 8)
      else
        match checkItems is (fun i => match i.field with
          | 2 => if i.value.toNat = t.pump then none else x.st.addressRefused (some (.transfers, key)) i none
          | _ => none) with
        | some r => refuse x r
        | none =>
          let count := if mode = 2 then some (given is 8 (t.batchCount.getD 0)) else none
          let interval := given is 9 t.interval
          let after : Transfer :=
            { t with pump := given is 2 t.pump, factor := given is 3 t.factor, source := source,
                     destination := destination, batchVolume := given is 6 t.batchVolume, mode := transferModeOf mode,
                     batchCount := count, interval := interval, mark := if interval = 0 then none else t.mark }
          if { after with mark := t.mark } ≠ t ∧ t.state.atRest = false then refuse x .wrongState
          else
            let words := ((is.map (·.field)).filter fun f => f == 3 || f == 6 || f == 7 || f == 8 || f == 9) ++
              (if count = t.batchCount then [] else [8]) ++ (if after.mark = t.mark then [] else [20])
            let y := x.modTransfer key words fun t =>
              { t with pump := after.pump, factor := after.factor, source := source, destination := destination,
                       batchVolume := after.batchVolume, mode := after.mode, batchCount := count, interval := interval,
                       mark := after.mark }
            let z := y.moveContexts key
              [{ before := some t.pump, after := some after.pump, kind := .pump, parameters := .factor after.factor }]
            let w := if after.pump = t.pump ∧ after.factor ≠ t.factor then
                z.giveParameters after.pump (.factor after.factor)
              else z
            (w.retryRejected after.pump, .done, [])

/-! ## The policy record (R7) -/

/-- R6, R188: stage 4 for an item of the policy record. -/
def policyRange (i : Item) : Option Result :=
  match i.field with
  | 1 => inRange i 100 5000
  | 2 => inRange i 100 4000
  | 3 => inRange i 100 1000
  | 4 => inRange i 100 2000
  | 5 => inRange i 1000 1000000
  | 6 => inRange i 0 10000
  | 7 => inRange i 10 100
  | 8 => inRange i 0 300
  | 9 => inRange i 0 300
  | 10 => inRange i 500 30000
  | 11 => inRange i 500 950
  | 12 => inRange i 50 500
  | 13 => inRange i 100 5000
  | 14 => refuseIf (!(i.value == 1536 || i.value == 768 || i.value == 384 || i.value == 192)) (.badField 14)
  | 15 => inRange i 0 126
  | 16 => inRange i 0 60
  | 17 => inRange i 0 200
  | 18 => inRange i 0 5000
  | _ => bad i

/-- R6: the policy record with the items written. -/
def givenPolicy (is : List Item) (p : Policy) : Policy :=
  { boatMass := given is 1 p.boatMass, aheadFactor := given is 2 p.aheadFactor, asternFactor := given is 3 p.asternFactor,
    flankFactor := given is 4 p.flankFactor, slewConstant := given is 5 p.slewConstant,
    reversalDwell := given is 6 p.reversalDwell, machineryCycle := given is 7 p.machineryCycle,
    breakLimit := given is 8 p.breakLimit, slackLimit := given is 9 p.slackLimit, slackTime := given is 10 p.slackTime,
    strainLimit := given is 11 p.strainLimit, makeUpTension := given is 12 p.makeUpTension,
    debounceTime := given is 13 p.debounceTime, towLineRate := given is 14 p.towLineRate,
    boatNode := given is 15 p.boatNode, consoleSilence := given is 16 p.consoleSilence, expansion := given is 17 p.expansion,
    overfillMargin := given is 18 p.overfillMargin }

/-- R71: a change of line rate empties the node list, abandons the exchange under way, and leaves the new rate to be
announced. -/
def Txn.changeRate (x : Txn) (rate : Nat) : Txn :=
  x.emptyList.modTow fun t => { t with rateChange := some rate, phase := t.phase.abandoned, discard := false }

/-- R7, R33, R90: AMEND of the policy record. -/
def amendPolicy (is : List Item) (x : Txn) : Answer :=
  match checkItems is policyRange with
  | some r => refuse x r
  | none =>
    let p := x.st.policy
    let q := givenPolicy is p
    let boatMoved : Bool := q.boatNode != p.boatNode
    let rateMoved : Bool := q.towLineRate != p.towLineRate
    if boatMoved && q.boatNode != 0 && x.st.barges.any fun b => b.node == some q.boatNode then refuse x .addressInUse
    else
      let lashed := x.anyLashed fun c => rateMoved && c.winchTended || boatMoved && c.tendedBy .boat
      let y := lashed.1
      if lashed.2 then refuse y .wrongState
      else
        let z := if rateMoved then y.changeRate q.towLineRate else y
        let w := z.on fun s => { s with policy := q }
        let v := if boatMoved then w.clearReadings .boat else w
        (if p.consoleSilence ≠ 0 ∧ q.consoleSilence = 0 then
            v.on fun s => { s with console := { s.console with silence := none } }
          else v, .done, [])

/-! ## AMEND (R31) -/

/-- R26, R31: AMEND of a record of a store table: it exists, and it is read whole and found undamaged (log 6). -/
def amendRecord (t : Tbl) (is : List Item) (x : Txn) : Answer :=
  match (valueOf is 1).bind natOf with
  | none => refuse x .noRecord
  | some key =>
    match x.st.header? t key with
    | none => refuse x .noRecord
    | some _ =>
      match x.read t key (wordsOf t) with
      | (y, false) => refuse y .damaged
      | (y, true) =>
        let others := is.filter fun i => i.field != 1
        match t with
        | .barges => amendBarge key others y
        | .couplings => amendCoupling key others y
        | .engines => amendEngine key others y
        | .rudders => amendRudder key others y
        | .tanks => amendTank key others y
        | .transfers => amendTransfer key others y

/-- R3: an AMEND of KEPT fields alone is refused, naming the first. -/
def amendKept (is : List Item) (x : Txn) : Answer :=
  match is with
  | [] => refuse x .badRequest
  | i :: _ => refuse x (.badField i.field)

/-- R27, R31: AMEND. -/
def requestAmend (q : Request) (x : Txn) : Answer :=
  match q.parse fun t => decide (1 ≤ t) && decide (t ≤ 12) with
  | none => refuse x .badRequest
  | some is =>
    let table := q.table.toNat
    let others := is.filter fun i => i.field != 1
    if keyed table then
      if gives is 1 && !others.isEmpty then
        match storeTable table with
        | some t => amendRecord t is x
        | none =>
          let key := (valueOf is 1).bind natOf
          let found : Bool := if table = 11 then (key.bind x.st.node?).isSome else (key.bind x.st.context?).isSome
          if found then amendKept others x else refuse x .noRecord
      else refuse x .badRequest
    else if is.isEmpty then refuse x .badRequest
    else if table = 8 then amendPolicy is x
    else amendKept is x

end Sys2Proof.Machine
end

