-- ==== Sys2Proof/Machine/Requests.lean ====
section
/-! DEFINITION. The requests that are not record changes: STEP, BREAK, REMAKE, SWEEP, the transfer and tank requests,
the notice requests, RESET LINKS and CLEAR STORE, and the console silence transaction. -/
namespace Sys2Proof.Machine

/-! ## STEP (R117) and console silence (R34) -/

/-- R117: every undamaged engine's staged order is copied to its next order. -/
def Txn.stepEngines (x : Txn) : Txn :=
  x.forKeys (x.st.engines.map (·.number)) fun k y =>
    match y.read .engines k [8] with
    | (z, false) => z
    | (z, true) => z.modEngine k [9] fun e => { e with next := e.staged }

/-- R117: every undamaged rudder channel's staged angle is copied to its next angle. -/
def Txn.stepRudders (x : Txn) : Txn :=
  x.forKeys (x.st.rudders.map (·.channel)) fun k y =>
    match y.read .rudders k [7] with
    | (z, false) => z
    | (z, true) => z.modRudder k [8] fun r => { r with next := r.staged }

/-- R117: the step number that follows: 0 becomes 1, and 255 becomes 1. -/
def nextStepNumber (n : Nat) : Nat := if n = 255 then 1 else n + 1

/-- R117: supersession, step number and step waiting. -/
def TowStatus.stepped (u : TowStatus) : TowStatus :=
  { u with
    superseded := if u.stepWaiting then saturate u.superseded 1 else u.superseded
    stepNumber := nextStepNumber u.stepNumber
    stepWaiting := true }

/-- R117: a STEP. -/
def Txn.performStep (x : Txn) : Txn := x.stepEngines.stepRudders.modStatus TowStatus.stepped

/-- R117: STEP. -/
def requestStep (q : Request) (x : Txn) : Answer :=
  if q.bare then (x.performStep, .done, []) else refuse x .badRequest

/-- R34: the staged values of every undamaged engine and rudder channel become 0. -/
def State.stageZero (s : State) : State :=
  let order (e : Engine) : Engine := Engine.renew { e with staged := 0 } [8]
  let angle (r : Rudder) : Rudder := Rudder.renew { r with staged := 0 } [7]
  { s with
    engines := update (fun e => !e.header.damaged) order s.engines
    rudders := update (fun r => !r.header.damaged) angle s.rudders }

/-- R34: the console silence transaction. -/
def Txn.silenceWork (x : Txn) : Txn :=
  ((x.on State.stageZero).performStep.modStatus fun u => { u with silenceEvents := saturate u.silenceEvents 1 }).raise
    .console

/-! ## BREAK and REMAKE (R181 to R185) -/

/-- The response of a BREAK or REMAKE that is taken: DONE with fields 1, 5 and 6. R182 gives them to a BREAK taken in
WHOLE, and R184 to REMAKE. DEDUCED (log 44): a BREAK taken in REMAKING, to which R185 gives no response, carries them
too. -/
def lockageAnswer (x : Txn) : Answer :=
  let l := x.st.lockage
  answer x [item 1 l.phase.code, item 5 l.boatCut.code, item 6 l.remaining]

/-- R181: the ranks given, when the items are those of fields 2 to 4 without a gap. R181 does not say in which order the
frame carries them. DESIGN CHOICE (log 24): any order is taken, and the list given is that of ascending field numbers. -/
def breakRanks (is : List Item) : Option (List Int) :=
  if is.isEmpty || is.any fun i => decide (i.field < 2) || decide (4 < i.field) then none
  else if gives is 4 && !gives is 3 then none
  else if !gives is 2 then none
  else some ([2, 3, 4].filterMap (valueOf is))

/-- R181: the highest rank held by any barge, or 0. -/
def State.highestRank (s : State) : Nat := (s.barges.map fun b => (s.rank? b.hull).getD 0).foldl max 0

/-- R181: stage 4 for an item of a BREAK taken outside REMAKING. R181 does not say whether the rank before it is the
one of the lower field number or the one earlier in the frame. DESIGN CHOICE (log 24): it is the one of the field number
below, also where the frame carries that item later, so a frame that lists the fields out of ascending order is taken
when its ranks ascend by field number. -/
def State.breakItem (s : State) (is : List Item) (i : Item) : Option Result :=
  let before := (valueOf is (i.field - 1)).getD 0
  refuseIf (!(within i.value 1 7 && decide (before < i.value) && decide (i.value < s.highestRank))) (.badField i.field)

/-- R181: the first field number, from `field` on, at which the list given differs from the list held. -/
def firstDifference (field : Nat) : List Int → List Nat → Option Nat
  | [], [] => none
  | [], _ :: _ => some field
  | _ :: _, [] => some field
  | v :: vs, b :: bs => if v = b then firstDifference (field + 1) vs bs else some field

/-- R181: a main engine's sent order exceeds the break limit in magnitude. -/
def State.overBreakLimit (s : State) : Bool :=
  s.engines.any fun e => e.number != 5 && !e.header.damaged && decide (s.policy.breakLimit < e.sent.natAbs)

/-- The numbers of the winch-tended couplings, in order. -/
def State.winchCouplings (s : State) : List Nat := (s.couplings.filter Coupling.winchTended).map (·.number)

/-- R182, R184: gives an order to every undamaged winch-tended crossing coupling, in number order. The crossing flag
is read first, and of a crossing coupling the words that the order may use. -/
def Txn.orderCrossing (x : Txn) (words : List Nat) (give : Nat → Txn → Txn) : Txn :=
  x.forKeys x.st.winchCouplings fun k y =>
    match y.read .couplings k [15] with
    | (z, false) => z
    | (z, true) =>
      match z.st.coupling? k with
      | none => z
      | some c =>
        if c.crossing then
          match z.read .couplings k words with
          | (w, false) => w
          | (w, true) => give k w
        else z

/-- R182: the crossing flag of every undamaged coupling. -/
def State.flagCrossing (s : State) : State :=
  let flag (c : Coupling) : Coupling := Coupling.renew { c with crossing := s.endsCross c.endA c.endB } [15]
  { s with couplings := update (fun c => !c.header.damaged) flag s.couplings }

/-- R182, R185: the releases, the phase BREAKING with its one LOCKAGE notice, and the tests. -/
def Txn.breakWork (x : Txn) : Txn :=
  let y := x.orderCrossing [9, 11] fun k z => z.giveRelease k
  let z := ((y.modLockage fun l => { l with phase := .breaking }).raise .lockage).lockageTest false
  { z with touched := false }

/-- R181, R182, R185: BREAK. DEDUCED (log 44): the items of the response to one taken in REMAKING. -/
def requestBreak (q : Request) (x : Txn) : Answer :=
  match (q.parse (· == 0)).bind fun is => (breakRanks is).map fun ranks => (is, ranks) with
  | none => refuse x .badRequest
  | some (is, ranks) =>
    let held := x.st.lockage.breaks
    let failure := if x.st.lockage.phase = .remaking then (firstDifference 2 ranks held).map Result.badField
      else checkItems is (x.st.breakItem is)
    match failure with
    | some r => refuse x r
    | none =>
      if x.st.lockage.phase = .breaking ∨ x.st.lockage.phase = .split then refuse x .wrongState
      else
        let y := x.readAll .engines ((x.st.engines.filter fun e => e.number != 5).map (·.number)) [12]
        if y.st.overBreakLimit then refuse y .wrongState
        else
          let z := if x.st.lockage.phase = .remaking then y
            else (y.modLockage fun l => { l with breaks := ranks.map Int.toNat }).on State.flagCrossing
          lockageAnswer z.breakWork

/-- R184: the phase REMAKING with its LOCKAGE notice, the makes, and the tests. -/
def Txn.remakeWork (x : Txn) : Txn :=
  let y := (x.modLockage fun l => { l with phase := .remaking }).raise .lockage
  let z := (y.orderCrossing [8, 9, 11, 13] fun k w => w.giveMake k).lockageTest true
  { z with touched := false }

/-- R184: REMAKE. -/
def requestRemake (q : Request) (x : Txn) : Answer :=
  if !q.bare then refuse x .badRequest
  else if x.st.lockage.phase = .split ∨ x.st.lockage.phase = .breaking then lockageAnswer x.remakeWork
  else refuse x .wrongState

/-! ## SWEEP (R67) -/

/-- R67: SWEEP sets the sweep mark to the newcomer pointer. -/
def requestSweep (q : Request) (x : Txn) : Answer :=
  if q.bare then (x.modTow fun t => { t with sweep := some t.pointer }, .done, []) else refuse x .badRequest

/-! ## Transfers (R169, R173, R174) -/

/-- R169, R173: the state after a request, under field 14. -/
def transferAnswer (x : Txn) (k : Nat) : Answer :=
  match x.st.transfer? k with
  | none => (x, .done, [])
  | some t => answer x [item 14 t.state.code]

/-- R169: the response of TRANSFER GO adds the held reason, where there is one. -/
def goAnswer (x : Txn) (k : Nat) : Answer :=
  match x.st.transfer? k with
  | none => (x, .done, [])
  | some t => answer x (item 14 t.state.code :: itemOf 15 (t.state.heldReason?.map HeldReason.code))

/-- R26, R173: a request that carries a transfer's key alone: it exists, and is read whole and found undamaged. -/
def onTransfer (q : Request) (x : Txn) (body : Nat → Transfer → Txn → Answer) : Answer :=
  match q.exactly 7 [1] with
  | none => refuse x .badRequest
  | some is =>
    match (valueOf is 1).bind natOf with
    | none => refuse x .noRecord
    | some k =>
      if (x.st.transfer? k).isNone then refuse x .noRecord
      else
        match x.read .transfers k (wordsOf .transfers) with
        | (y, false) => refuse y .damaged
        | (y, true) =>
          match y.st.transfer? k with
          | none => refuse y .noRecord
          | some t => body k t y

/-- R169: a transfer as TRANSFER GO starts it, before the batch check. -/
def Transfer.restarted (t : Transfer) : Transfer :=
  { t with
    batchesDone := 0, batchMoved := 0, totalMoved := 0, gapRequest := false, pendingAbort := false,
    mark := if t.interval = 0 then none else some (t.interval * 1000) }

/-- R169: TRANSFER GO. -/
def requestGo (q : Request) (x : Txn) : Answer :=
  onTransfer q x fun k t y =>
    if t.state.atRest then
      goAnswer ((y.modTransfer k ([10, 11] ++ wide 12 ++ [16, 17, 18, 20]) Transfer.restarted).batchCheck k) k
    else refuse y .wrongState

/-- R173: STOP AT GAP. -/
def requestStopAtGap (q : Request) (x : Txn) : Answer :=
  onTransfer q x fun k t y =>
    transferAnswer (if t.state.atRest then y else y.modTransfer k [17] fun t => { t with gapRequest := true }) k

/-- R173: CONTINUE is taken in this state. -/
def State.continues (s : State) (t : Transfer) : Bool :=
  match t.state with
  | .held .gapRequest => true
  | .held .sourceLow => true
  | .held .destFull => true
  | .held .tankDamaged => true
  | .held .pumpLost => s.pumpInExchange t
  | .held .checkpoint => false
  | .idle => false
  | .running => false
  | .stopping _ => false
  | .ended _ => false

/-- R173: CONTINUE. -/
def requestContinue (q : Request) (x : Txn) : Answer :=
  onTransfer q x fun k t y => if y.st.continues t then transferAnswer (y.batchCheck k) k else refuse y .wrongState

/-- R173: CONFIRM. -/
def requestConfirm (q : Request) (x : Txn) : Answer :=
  onTransfer q x fun k t y =>
    if t.state = .held .checkpoint then transferAnswer (if t.full then y.endOfBatch k else y.batchCheck k) k
    else refuse y .wrongState

/-- R174: pending end becomes ABORTED. -/
def Txn.pendAbort (x : Txn) (k : Nat) : Txn := x.modTransfer k [18] fun t => { t with pendingAbort := true }

/-- R174: ABORT. -/
def requestAbort (q : Request) (x : Txn) : Answer :=
  onTransfer q x fun k t y =>
    match t.state with
    | .running => transferAnswer ((y.pendAbort k).enterTransfer k (.stopping .aborted)) k
    | .stopping _ => transferAnswer (y.pendAbort k) k
    | .held _ => transferAnswer (y.enterTransfer k (.ended .aborted)) k
    | .idle => refuse y .wrongState
    | .ended _ => refuse y .wrongState

/-! ## RECEIVE and SOUND (R159, R160) -/

/-- R159, R160: a request that carries a tank's key and one figure, in the range that the tank gives. -/
def onTank (q : Request) (field : Nat) (x : Txn) (limit : Tank → Int) (body : Nat → Tank → Nat → Txn → Answer) :
    Answer :=
  match q.exactly 6 [1, field] with
  | none => refuse x .badRequest
  | some is =>
    match (valueOf is 1).bind natOf with
    | none => refuse x .noRecord
    | some k =>
      if (x.st.tank? k).isNone then refuse x .noRecord
      else
        match x.read .tanks k (wordsOf .tanks) with
        | (y, false) => refuse y .damaged
        | (y, true) =>
          match y.st.tank? k with
          | none => refuse y .noRecord
          | some t =>
            let v := (valueOf is field).getD 0
            if within v 0 (limit t) then body k t v.toNat y else refuse y (.badField field)

/-- R159: RECEIVE. -/
def requestReceive (q : Request) (x : Txn) : Answer :=
  onTank q 8 x (fun _ => 400000000) fun k t amount y => answer (y.receipt k amount) [item 6 (t.content + amount : Nat)]

/-- R160: SOUND. -/
def requestSound (q : Request) (x : Txn) : Answer :=
  onTank q 6 x (fun t => (t.capacity : Int) * 1000) fun k t content y =>
    answer (y.sounding k content) [item 6 content, item 12 ((content : Int) - t.content)]

/-! ## Notices (R36 to R38) -/

/-- Changes the Notice Unit. -/
def Txn.modNotices (x : Txn) (f : NoticeUnit → NoticeUnit) : Txn := x.on fun s => { s with notices := f s.notices }

/-- R189: a cause in the response of NOTICES: 0, pending, mask and count in 4 bytes. DESIGN CHOICE (log 45): the item's
field number is the cause number, which R189 says of the items of MASK and ACKNOWLEDGE. -/
def NoticeUnit.noticeItem (u : NoticeUnit) (c : Cause) : ResponseItem :=
  let n := u.get c
  { field := c.number, width := some 4,
    value := ((if n.pending then 65536 else 0) + (if n.mask then 256 else 0) + n.count : Nat) }

/-- R37: NOTICES. -/
def requestNotices (q : Request) (x : Txn) : Answer :=
  if q.bare then answer x (causes.map x.st.notices.noticeItem) else refuse x .badRequest

/-- R37, R38: the items of MASK and ACKNOWLEDGE: one at least, none twice. -/
def Request.causeItems (q : Request) : Option (List Item) :=
  match q.parse (· == 0) with
  | some (i :: is) => some (i :: is)
  | some [] => none
  | none => none

/-- R37, R38: stage 4 for an item that names a cause and gives a value from 0 to `last`. -/
def causeRange (last : Int) (i : Item) : Option Result :=
  if (causeOf i.field).isNone then bad i else inRange i 0 last

/-- R37: writes one mask flag. -/
def NoticeUnit.maskItem (u : NoticeUnit) (i : Item) : NoticeUnit :=
  match causeOf i.field with
  | none => u
  | some c => u.put c { u.get c with mask := i.value == 1 }

/-- R37: MASK. -/
def requestMask (q : Request) (x : Txn) : Answer :=
  match q.causeItems with
  | none => refuse x .badRequest
  | some is =>
    match checkItems is (causeRange 1) with
    | some r => refuse x r
    | none => (x.modNotices fun u => is.foldl NoticeUnit.maskItem u, .done, [])

/-- R38: acknowledges one cause: pending is cleared where the counts are equal. -/
def NoticeUnit.acknowledgeItem (u : NoticeUnit) (i : Item) : NoticeUnit :=
  match causeOf i.field with
  | none => u
  | some c =>
    if i.value = (u.get c).count then u.put c { u.get c with pending := false } else u

/-- R38, R189: a cause in the response of ACKNOWLEDGE: pending and count in 2 bytes. -/
def NoticeUnit.acknowledged (u : NoticeUnit) (i : Item) : List ResponseItem :=
  match causeOf i.field with
  | none => []
  | some c =>
    let n := u.get c
    [{ field := c.number, width := some 2, value := ((if n.pending then 256 else 0) + n.count : Nat) }]

/-- R38: ACKNOWLEDGE. DESIGN CHOICE (log 41): the response's items stand in the order of the request's. -/
def requestAcknowledge (q : Request) (x : Txn) : Answer :=
  match q.causeItems with
  | none => refuse x .badRequest
  | some is =>
    match checkItems is (causeRange 255) with
    | some r => refuse x r
    | none =>
      let y := x.modNotices fun u => is.foldl NoticeUnit.acknowledgeItem u
      answer y (is.flatMap y.st.notices.acknowledged)

/-- R36: END OF NOTICE starts the hold, or restarts it. -/
def requestEndOfNotice (q : Request) (x : Txn) : Answer :=
  if q.bare then
    let clock := x.st.clock
    (x.modNotices fun u => { u with hold := some clock }, .done, [])
  else refuse x .badRequest

/-! ## RESET LINKS (R70, R110) -/

/-- R110: one context passes to OFFLINE; a meter's or pump's baseline and last temperature become absent. -/
def Txn.resetContext (x : Txn) (address : Nat) : Txn :=
  (x.enterContext address .offline).modContext address fun c =>
    { c with misses := 0, baseline := none, lastTemperature := none }

/-- R110: results and readings are discarded, with the result of the slot under way (log 14). -/
def State.dropResults (s : State) : State :=
  { s with
    link := { s.link with results := [], exchange := s.link.exchange.map fun e => { e with stale := true } }
    readings := [] }

/-- R70, R110: the work of RESET LINKS. -/
def Txn.resetLinksWork (x : Txn) : Txn :=
  let y := x.emptyList.modTow fun t => { t with discard := t.discard || t.phase.exchanging }
  (y.forKeys (y.st.link.contexts.map (·.address)) fun a z => z.resetContext a).on State.dropResults

/-- R70, R110: RESET LINKS. -/
def requestResetLinks (q : Request) (x : Txn) : Answer :=
  if q.bare then (x.resetLinksWork, .done, []) else refuse x .badRequest

/-! ## CLEAR STORE (R18) -/

/-- R18: the boat is under thrust, or a pump is working. -/
def State.underWay (s : State) : Bool :=
  (s.engines.any fun e => !e.header.damaged && e.sent != 0) ||
    s.transfers.any fun t => !t.header.damaged && t.state.inFlight

/-- R18, R72, R111: the work of CLEAR STORE. -/
def State.cleared (s : State) : State :=
  let addresses := s.tow.nodes.map (·.address)
  { s with
    barges := [], strings := [0, 0, 0, 0, 0, 0], couplings := [], engines := [], rudders := [], tanks := [],
    transfers := [], lockage := .initial, readings := [],
    patrol := { s.patrol with position := none },
    tow := { s.tow with nodes := s.tow.nodes.map Node.emptied, phase := s.tow.phase.forget addresses },
    link := { s.link with
      contexts := [], results := [], exchange := s.link.exchange.map fun e => { e with stale := true },
      cycle := s.link.cycle.map fun c => { c with slots := [] } } }

/-- R18: CLEAR STORE. -/
def requestClearStore (q : Request) (x : Txn) : Answer :=
  if q.bare then
    let y := (x.readAll .engines (x.st.engines.map (·.number)) [12]).readAll .transfers
      (x.st.transfers.map (·.number)) [14]
    if y.st.underWay then refuse y .wrongState else (y.on State.cleared, .done, [])
  else refuse x .badRequest

/-- R22, R27: a request whose code is none of those listed. -/
def requestUnknown (_ : Request) (x : Txn) : Answer := refuse x .badRequest

end Sys2Proof.Machine
end

