-- ==== Sys2Proof/Machine/Restore.lean ====
section
/-! DEFINITION. RESTORE (R17): a damaged record is rewritten, restarted as at ENROL, and what was held for it is posted.

A SET field held in store words must be given; one held in the directory may be given, equal to what it holds. -/
namespace Sys2Proof.Machine

/-- R17: an item of a directory field is refused unless it gives what the directory holds. -/
def standing (i : Item) (same : Bool) : Option Result := refuseIf (!same) (.badField i.field)

/-- R17: the fields that a RESTORE of the table must carry whatever the record. -/
def restoreFields (t : Tbl) : List Nat :=
  match t with
  | .barges => [1, 4, 5, 7]
  | .couplings => [1, 8]
  | .engines => [1, 4]
  | .rudders => [1, 2, 5, 6]
  | .tanks => [1, 3, 4, 7]
  | .transfers => [1, 3, 6, 7, 9]

/-- R51: stage 4 for an item of a barge's RESTORE. -/
def State.bargeRestoreItem (s : State) (b : Barge) (i : Item) : Option Result :=
  match i.field with
  | 1 => none
  | 2 => standing i (i.value == b.string)
  | 3 => standing i (some i.value == (s.rank? b.hull).map fun r => (r : Int))
  | 6 => standing i (addressOf i.value == b.node)
  | _ => bargeRange i

/-- R51: RESTORE of a barge. DESIGN CHOICE (log 42): bow fitted may be given as no for engine 5's bow barge, since the
refusal of R46 is AMEND's. -/
def restoreBarge (key : Nat) (is : List Item) (x : Txn) : Answer :=
  match x.st.barge? key with
  | none => refuse x .noRecord
  | some b =>
    match checkItems is (x.st.bargeRestoreItem b) with
    | some r => refuse x r
    | none =>
      if !b.header.damaged then refuse x .wrongState
      else
        let new : Barge :=
          { b with laden := given is 4 0, draft := given is 5 0, bowFitted := valueOf is 7 == some 1, header := .fresh }
        (x.on fun s => { s with barges := update (·.hull == key) (fun _ => new) s.barges }, .done, [])

/-- The tending member of a winch-tended coupling as a code. -/
def Tending.memberCode : Tending → Option Int
  | .hand => none
  | .winch m _ => some m.code

/-- The winch index of a winch-tended coupling. -/
def Tending.indexCode : Tending → Option Int
  | .hand => none
  | .winch _ k => some k

/-- R93: stage 4 for an item of a coupling's RESTORE; a tend order or a declare is refused. -/
def couplingRestoreItem (c : Coupling) (i : Item) : Option Result :=
  match i.field with
  | 1 => none
  | 2 => standing i (i.value == c.kind.code)
  | 3 => standing i (i.value == c.endA.code)
  | 4 => standing i (i.value == c.endB)
  | 5 => standing i (i.value == c.tending.code)
  | 6 => standing i (some i.value == c.tending.memberCode)
  | 7 => standing i (some i.value == c.tending.indexCode)
  | 8 => inRange i 10 2000
  | _ => bad i

/-- R93, R187: RESTORE of a coupling. -/
def restoreCoupling (key : Nat) (is : List Item) (x : Txn) : Answer :=
  match x.st.coupling? key with
  | none => refuse x .noRecord
  | some c =>
    match checkItems is (couplingRestoreItem c) with
    | some r => refuse x r
    | none =>
      if !c.header.damaged then refuse x .wrongState
      else
        let new : Coupling :=
          { c with
            rated := given is 8 0, tendOrder := .none, declaredMade := false, state := .unlashed, tension := none,
            seated := none, winchFault := false,
            crossing := x.st.lockage.phase != .whole && x.st.endsCross c.endA c.endB,
            header := .fresh, debounce := none, slackTimer := none, dropSeen := false }
        ((x.on fun s => { s with couplings := update (·.number == key) (fun _ => new) s.couplings }).touch, .done, [])

/-- R132, R147: stage 4 for an item of an engine's RESTORE. -/
def engineRestoreItem (e : Engine) (i : Item) : Option Result :=
  match i.field with
  | 1 => none
  | 2 => standing i (some i.value == e.station.map fun a => (a : Int))
  | 3 => standing i (some i.value == e.bowBarge.map fun a => (a : Int))
  | 4 => inRange i 50 600
  | 5 => standing i (e.number != 5 && addressOf i.value == e.meter)
  | 6 => if e.meter.isSome then inRange i 100 100000 else bad i
  | 7 => standing i (some i.value == e.supply.map fun a => (a : Int))
  | _ => bad i

/-- R132, R147: RESTORE of an engine; the admissions of its governor and its meter restart. -/
def restoreEngine (key : Nat) (is : List Item) (x : Txn) : Answer :=
  match x.st.engine? key with
  | none => refuse x .noRecord
  | some e =>
    if e.meter.isSome && !gives is 6 then refuse x .badRequest
    else
      match checkItems is (engineRestoreItem e) with
      | some r => refuse x r
      | none =>
        if !e.header.damaged then refuse x .wrongState
        else
          let rated := given is 4 0
          let factor := given is 6 0
          let new : Engine :=
            { number := e.number, station := e.station, bowBarge := e.bowBarge, meter := e.meter, supply := e.supply,
              rated := rated, meterFactor := e.meter.map fun _ => factor, staged := 0, next := 0, live := 0, allowed := 0,
              sent := 0, delivered := none, alarm := false,
              state := (e.station.map x.st.mirroredAt).getD .offline,
              lastDirection := .none, zeroTime := 0, consumed := 0, undebited := 0, header := .fresh }
          let y := x.on fun s => { s with engines := update (·.number == key) (fun _ => new) s.engines }
          let z := y.forKeys e.station.toList fun a w => w.giveParameters a (.engine rated)
          (z.forKeys e.meter.toList fun a w => w.giveParameters a (.factor factor), .done, [])

/-- R140: stage 4 for an item of a rudder channel's RESTORE. -/
def rudderRestoreItem (r : Rudder) (i : Item) : Option Result :=
  match i.field with
  | 1 => none
  | 2 => inRange i 1 2
  | 3 => standing i (i.value == r.shaft)
  | 4 => standing i (i.value == r.station)
  | 5 => inRange i 100 450
  | 6 => inRange i 10 150
  | _ => bad i

/-- R140: RESTORE of a rudder channel; its servo's admission restarts. -/
def restoreRudder (key : Nat) (is : List Item) (x : Txn) : Answer :=
  match x.st.rudder? key with
  | none => refuse x .noRecord
  | some r =>
    match checkItems is (rudderRestoreItem r) with
    | some e => refuse x e
    | none =>
      if !r.header.damaged then refuse x .wrongState
      else
        let new : Rudder :=
          { channel := r.channel, kind := rudderKindOf ((valueOf is 2).getD 1), shaft := r.shaft, station := r.station,
            limit := given is 5 0, rate := given is 6 0, staged := 0, next := 0, live := 0, allowed := 0, sent := 0,
            feedback := none, state := x.st.mirroredAt r.station, header := .fresh }
        let y := x.on fun s => { s with rudders := update (·.channel == key) (fun _ => new) s.rudders }
        (y.giveParameters r.station (.rudder new.limit new.rate), .done, [])

/-- R163: stage 4 for an item of a tank's RESTORE. -/
def tankRestoreItem (t : Tank) (capacity : Int) (i : Item) : Option Result :=
  match i.field with
  | 1 => none
  | 2 => standing i (i.value == t.kind.code)
  | 5 => standing i (addressOf i.value == t.gauge)
  | _ => tankRange capacity true i

/-- R163: the main engines that the tank supplies, in number order. -/
def State.suppliedBy (s : State) (key : Nat) : List Nat :=
  (s.engines.filter fun e => e.supply == some key).map (·.number)

/-- R176: the transfers that name the tank, in number order. -/
def State.transfersNaming (s : State) (key : Nat) : List Nat :=
  (s.transfers.filter fun t => t.source == key || t.destination == key).map (·.number)

/-- R163: RESTORE of a tank; undebited draws and then held volumes are posted. -/
def restoreTank (key : Nat) (is : List Item) (x : Txn) : Answer :=
  match x.st.tank? key with
  | none => refuse x .noRecord
  | some t =>
    match checkItems is (tankRestoreItem t ((valueOf is 3).getD 0)) with
    | some r => refuse x r
    | none =>
      if !t.header.damaged then refuse x .wrongState
      else
        let new := newTank key t.kind t.gauge (given is 3 0) (given is 4 0) (given is 7 0)
        let y := x.on fun s => { s with tanks := update (·.number == key) (fun _ => new) s.tanks }
        let z := y.forKeys t.gauge.toList fun a w => w.giveParameters a (.gauge new.capacity)
        let w := z.forKeys (z.st.suppliedBy key) fun e v => v.debitHeld e key
        (w.forKeys (w.st.transfersNaming key) fun k v => v.postHeld k, .done, [])

/-- R177: stage 4 for an item of a transfer's RESTORE. -/
def transferRestoreItem (t : Transfer) (mode : Int) (i : Item) : Option Result :=
  match i.field with
  | 1 => none
  | 2 => standing i (i.value == t.pump)
  | 3 => inRange i 100 100000
  | 4 => standing i (i.value == t.source)
  | 5 => standing i (i.value == t.destination)
  | 6 => inRange i 10 20000
  | 7 => inRange i 1 3
  | 8 => if mode = 2 then inRange i 1 1000 else bad i
  | 9 => if i.value = 0 then none else inRange i 100 100000
  | _ => bad i

/-- R177: RESTORE of a transfer; its pump's admission restarts. -/
def restoreTransfer (key : Nat) (is : List Item) (x : Txn) : Answer :=
  match x.st.transfer? key with
  | none => refuse x .noRecord
  | some t =>
    match checkItems is (transferRestoreItem t ((valueOf is 7).getD 0)) with
    | some r => refuse x r
    | none =>
      if !t.header.damaged then refuse x .wrongState
      else
        let new := newTransfer key t.pump t.source t.destination (given is 3 0) (given is 6 0)
          (transferModeOf ((valueOf is 7).getD 1)) ((valueOf is 8).map Int.toNat) (given is 9 0)
        let y := x.on fun s => { s with transfers := update (·.number == key) (fun _ => new) s.transfers }
        (y.giveParameters t.pump (.factor new.factor), .done, [])

/-- R17, R27: RESTORE. -/
def requestRestore (q : Request) (x : Txn) : Answer :=
  match q.parse fun t => (storeTable t).isSome, storeTable q.table.toNat with
  | some is, some t =>
    if !(restoreFields t).all (gives is) || (t == .transfers && valueOf is 7 == some 2 && !gives is 8) then
      refuse x .badRequest
    else
      match (valueOf is 1).bind natOf with
      | none => refuse x .noRecord
      | some key =>
        match t with
        | .barges => restoreBarge key is x
        | .couplings => restoreCoupling key is x
        | .engines => restoreEngine key is x
        | .rudders => restoreRudder key is x
        | .tanks => restoreTank key is x
        | .transfers => restoreTransfer key is x
  | _, _ => refuse x .badRequest

end Sys2Proof.Machine
end

