-- ==== Sys2Proof/Machine/Retire.lean ====
section
/-! DEFINITION. RETIRE (R32): the conditions of stages 5 and 6, table by table, and the removal of the record.

RETIRE is not refused for damage (R26). Only the words that hold its condition are read; a record that such a
read finds damaged is retired as a damaged one (log 6). -/
namespace Sys2Proof.Machine

/-- R44: RETIRE of a barge. -/
def retireBarge (key : Nat) (x : Txn) : Answer :=
  match x.st.barge? key with
  | none => refuse x .noRecord
  | some b =>
    if x.st.bargeNamed key || x.st.bowBarge? == some key || x.st.namedFrom b.string ((x.st.rank? key).getD 0 + 1) then
      refuse x .inUse
    else if x.st.lockage.phase ≠ .whole then refuse x .wrongState
    else (x.on fun s => s.removeBarge b, .done, [])

/-- R77: an undamaged coupling in this state is not retired. -/
def CouplingState.keepsCoupling (c : CouplingState) : Bool :=
  c == .settling || c == .releasing || c.inMadeGroup

/-- R77: RETIRE of a coupling; commands already placed for its winch stay. -/
def retireCoupling (key : Nat) (x : Txn) : Answer :=
  let y := (x.read .couplings key [11]).1
  match y.st.coupling? key with
  | none => refuse y .noRecord
  | some c =>
    if !c.header.damaged && c.state.keepsCoupling then refuse y .wrongState
    else
      ((y.on fun s => { s with couplings := s.couplings.filter (·.number != key) }).touch, .done, [])

/-- R115, R143: RETIRE of an engine, with its contexts. -/
def retireEngine (key : Nat) (x : Txn) : Answer :=
  let y := (x.read .engines key [12]).1
  match y.st.engine? key with
  | none => refuse y .noRecord
  | some e =>
    if !e.header.damaged && e.sent != 0 then refuse y .wrongState
    else
      let z := y.on fun s => { s with engines := s.engines.filter (·.number != key) }
      (z.forKeys (e.station.toList ++ e.meter.toList) fun a w => w.removeContext a, .done, [])

/-- R136: RETIRE of a rudder channel, with its context. -/
def retireRudder (key : Nat) (x : Txn) : Answer :=
  let y := (x.read .rudders key [11]).1
  match y.st.rudder? key with
  | none => refuse y .noRecord
  | some r =>
    if !r.header.damaged && r.sent != 0 then refuse y .wrongState
    else ((y.on fun s => { s with rudders := s.rudders.filter (·.channel != key) }).removeContext r.station, .done, [])

/-- R151: an engine names the tank as its supply tank, or a transfer as its source or destination. -/
def State.tankNamed (s : State) (key : Nat) : Bool :=
  (s.engines.any fun e => e.supply == some key) || s.transfers.any fun t => t.source == key || t.destination == key

/-- R151: RETIRE of a tank, with its gauge's context. -/
def retireTank (key : Nat) (x : Txn) : Answer :=
  if (x.st.tank? key).isNone then refuse x .noRecord
  else if x.st.tankNamed key then refuse x .inUse
  else
    let y := (x.read .tanks key (wide 6)).1
    match y.st.tank? key with
    | none => refuse y .noRecord
    | some t =>
      if !t.header.damaged && t.content != 0 then refuse y .wrongState
      else
        let z := y.on fun s => { s with tanks := s.tanks.filter (·.number != key) }
        (z.forKeys t.gauge.toList fun a w => w.removeContext a, .done, [])

/-- R166: RETIRE of a transfer, with its pump's context. -/
def retireTransfer (key : Nat) (x : Txn) : Answer :=
  let y := (x.read .transfers key [14, 13]).1
  match y.st.transfer? key with
  | none => refuse y .noRecord
  | some t =>
    if !t.header.damaged && (!t.state.atRest || t.heldVolume != 0) then refuse y .wrongState
    else
      ((y.on fun s => { s with transfers := s.transfers.filter (·.number != key) }).removeContext t.pump, .done, [])

/-- R27, R32: RETIRE carries the key alone. -/
def requestRetire (q : Request) (x : Txn) : Answer :=
  match q.exactly q.table.toNat [1], storeTable q.table.toNat with
  | some is, some t =>
    match (valueOf is 1).bind natOf with
    | none => refuse x .noRecord
    | some key =>
      match t with
      | .barges => retireBarge key x
      | .couplings => retireCoupling key x
      | .engines => retireEngine key x
      | .rudders => retireRudder key x
      | .tanks => retireTank key x
      | .transfers => retireTransfer key x
  | _, _ => refuse x .badRequest

end Sys2Proof.Machine
end

