-- ==== Sys2Proof/Machine/ConsolePort.lean ====
section
/-! DEFINITION. The commands of the Console Port (Chapter 2): SPI transactions, the granted request transactions, the
silence timer, and the expiry of the end-of-notice hold. -/
namespace Sys2Proof.Machine

/-- The outcome of a command that takes effect. -/
abbrev Reached := Host.Outcome State Fault Refusal

/-! ## SPI transactions (R20 to R24) -/

/-- R21: the status byte has been shifted out whole: an overrun flag that it showed as set is cleared. -/
def State.statusShifted (s : State) : State := { s with console := { s.console with overrun := false } }

/-- What the part shifted out in the SPI transaction. -/
def State.shiftedOut (s : State) (bytes : List Byte) : State := { s with console := { s.console with spiOut := bytes } }

/-- R20, R21: an SPI transaction that carries no frame. -/
def State.statusByte (s : State) (clocks : Nat) : State :=
  if 8 ≤ clocks then s.statusShifted.shiftedOut [statusByteOf s] else s.shiftedOut []

/-- R20, R189: the request that the bytes of a REQUEST frame hold, when the frame is complete; bytes after it are
ignored, and a length below 3 or a frame cut short is discarded. -/
def requestOf (bytes : List Byte) : Option Request :=
  match bytes with
  | first :: length :: rest =>
    if first = 0xA5 ∧ 3 ≤ length.toNat ∧ length.toNat ≤ rest.length then
      match rest.take length.toNat with
      | tag :: code :: table :: body => some { tag := tag, code := code, table := table, body := body }
      | _ => none
    else none
  | _ => none

/-- R22: a REQUEST taken in joins the tail of the request queue, or is discarded with the overrun flag set. -/
def State.takeIn (s : State) (q : Request) : State :=
  if s.console.requests.length < Config.queuePlaces then
    State.restartSilence { s with console := { s.console with requests := s.console.requests ++ [q] } }
  else { s with console := { s.console with overrun := true } }

/-- R24: the frame that a FETCH shifts out: the head response, or EMPTY. -/
def ConsolePort.fetchFrame (p : ConsolePort) : List Byte :=
  match p.responses with
  | [] => emptyFrame
  | r :: _ => r.bytes

/-- Bytes of a frame as `n` clocked bytes: the frame and then fill bytes (R188). -/
def clockedOut (frame : List Byte) (n : Nat) : List Byte := frame.take n ++ List.replicate (n - frame.length) 0

/-- R24: the head response leaves the queue when its last byte has been shifted out. -/
def ConsolePort.fetched (p : ConsolePort) (shifted : Nat) : ConsolePort :=
  if p.fetchFrame.length ≤ shifted then { p with responses := p.responses.drop 1 } else p

/-- R20, R24: a FETCH transaction in which `shifted` bytes are clocked out after the FETCH byte. -/
def State.fetch (s : State) (shifted : Nat) : State :=
  let out := statusByteOf s :: 0 :: clockedOut s.console.fetchFrame shifted
  let t := s.statusShifted.shiftedOut out
  settle (State.restartSilence { t with console := t.console.fetched shifted })

/-- R20: an SPI transaction that shifts bytes in after the status byte. A first byte of neither kind, and a REQUEST
that is not complete, are discarded. -/
def State.shiftIn (s : State) (bytes : List Byte) : State :=
  match bytes with
  | 0xC3 :: rest => s.fetch rest.length
  | _ =>
    let t := s.statusShifted.shiftedOut (statusByteOf s :: List.replicate bytes.length 0)
    match requestOf bytes with
    | none => t
    | some q => settle (t.takeIn q)

/-- STATUS_BYTE (R21). -/
def execStatusByte (clocks : Nat) (s : State) : Reached := .next (s.statusByte clocks)
/-- REQUEST (R22). -/
def execRequest (bytes : List Byte) (s : State) : Reached := .next (s.shiftIn bytes)
/-- FETCH (R24). -/
def execFetch (shifted : Nat) (s : State) : Reached := .next (s.fetch shifted)

/-! ## Request transactions (R23) -/

/-- LOOK (R28). -/
def execLook (s : State) : Reached := .next (s.runRequest (· == 0x01) requestLook)
/-- LOOK NEXT (R29). -/
def execLookNext (s : State) : Reached := .next (s.runRequest (· == 0x02) requestLookNext)
/-- ENROL (R30). -/
def execEnrol (s : State) : Reached := .next (s.runRequest (· == 0x03) requestEnrol)
/-- AMEND (R31). -/
def execAmend (s : State) : Reached := .next (s.runRequest (· == 0x04) requestAmend)
/-- RETIRE (R32). -/
def execRetire (s : State) : Reached := .next (s.runRequest (· == 0x05) requestRetire)
/-- RESTORE (R17). -/
def execRestore (s : State) : Reached := .next (s.runRequest (· == 0x06) requestRestore)
/-- STEP (R117). -/
def execStepOrders (s : State) : Reached := .next (s.runRequest (· == 0x10) requestStep)
/-- BREAK (R182). -/
def execBreakTow (s : State) : Reached := .next (s.runRequest (· == 0x11) requestBreak)
/-- REMAKE (R184). -/
def execRemake (s : State) : Reached := .next (s.runRequest (· == 0x12) requestRemake)
/-- SWEEP (R67). -/
def execSweep (s : State) : Reached := .next (s.runRequest (· == 0x13) requestSweep)
/-- TRANSFER GO (R169). -/
def execTransferGo (s : State) : Reached := .next (s.runRequest (· == 0x20) requestGo)
/-- STOP AT GAP (R173). -/
def execStopAtGap (s : State) : Reached := .next (s.runRequest (· == 0x21) requestStopAtGap)
/-- CONTINUE (R173). -/
def execContinueTransfer (s : State) : Reached := .next (s.runRequest (· == 0x22) requestContinue)
/-- CONFIRM (R173). -/
def execConfirm (s : State) : Reached := .next (s.runRequest (· == 0x23) requestConfirm)
/-- ABORT (R174). -/
def execAbortTransfer (s : State) : Reached := .next (s.runRequest (· == 0x24) requestAbort)
/-- RECEIVE (R159). -/
def execReceive (s : State) : Reached := .next (s.runRequest (· == 0x25) requestReceive)
/-- SOUND (R160). -/
def execSound (s : State) : Reached := .next (s.runRequest (· == 0x26) requestSound)
/-- NOTICES (R37). -/
def execNotices (s : State) : Reached := .next (s.runRequest (· == 0x30) requestNotices)
/-- ACKNOWLEDGE (R38). -/
def execAcknowledge (s : State) : Reached := .next (s.runRequest (· == 0x31) requestAcknowledge)
/-- MASK (R37). -/
def execMask (s : State) : Reached := .next (s.runRequest (· == 0x32) requestMask)
/-- END OF NOTICE (R36). -/
def execEndOfNotice (s : State) : Reached := .next (s.runRequest (· == 0x33) requestEndOfNotice)
/-- RESET LINKS (R70, R110). -/
def execResetLinks (s : State) : Reached := .next (s.runRequest (· == 0x40) requestResetLinks)
/-- CLEAR STORE (R18). -/
def execClearStore (s : State) : Reached := .next (s.runRequest (· == 0x41) requestClearStore)
/-- A request of an unknown code (R22). -/
def execUnknownRequestCode (s : State) : Reached := .next (s.runRequest (!requestCodes.contains ·) requestUnknown)

/-! ## Silence and the hold (R34, R36) -/

/-- R34: the silence timer expires and stops, and the transaction falls due (log 16). -/
def State.silenceExpiry (s : State) : State :=
  match s.console.silence with
  | none => s
  | some _ =>
    settle { s with console := { s.console with silence := none, silenceDue := s.console.silenceDue + 1 } }

/-- SILENCE_TIMER_EXPIRY (R34). -/
def execSilenceTimerExpiry (s : State) : Reached := .next s.silenceExpiry

/-- R34: the console silence transaction, at its grant. -/
def State.silenceTransaction (s : State) : State :=
  if s.granted .console && s.console.askedSilence then
    let s1 := s.take .console
    let s2 := (Txn.start s1).silenceWork.commit s1
    settle { s2 with console := { s2.console with askedSilence := false } }
  else s

/-- CONSOLE_SILENCE (R34). -/
def execConsoleSilence (s : State) : Reached := .next s.silenceTransaction

/-- R36: the end-of-notice hold expires; the line follows the flags again. -/
def State.holdExpiry (s : State) : State := { s with notices := { s.notices with hold := none } }

/-- HOLD_EXPIRY (R36). -/
def execHoldExpiry (s : State) : Reached := .next s.holdExpiry

end Sys2Proof.Machine
end

