-- ==== Sys2Proof/Machine/Coordination.lean ====
section
/-! DEFINITION. The Coordination Unit's cycle computation (R119 to R128, R137, R138, R146): stages 0 to 6. -/
namespace Sys2Proof.Machine

/-! ## Stage 0: the step handover (R120) -/

/-- R120: next orders become live targets. -/
def Txn.handEngines (x : Txn) : Txn :=
  x.forKeys (x.st.engines.map (·.number)) fun k y =>
    match y.read .engines k [9] with
    | (z, false) => z
    | (z, true) => z.modEngine k [10] fun e => { e with live := e.next }

/-- R120: next angles become live target angles. -/
def Txn.handRudders (x : Txn) : Txn :=
  x.forKeys (x.st.rudders.map (·.channel)) fun k y =>
    match y.read .rudders k [8] with
    | (z, false) => z
    | (z, true) => z.modRudder k [9] fun r => { r with live := r.next }

/-- R120: stage 0. -/
def Txn.handover (x : Txn) : Txn :=
  if x.st.status.stepWaiting then
    x.handEngines.handRudders.modStatus fun u => { u with stepWaiting := false }
  else x

/-! ## Stage 1: the usable sums (R121) -/

/-- R91, R121: stage 1's reads. Every coupling is given a usable value, from its rated load, state and winch fault;
the crossing flag is read outside WHOLE alone (log 5). -/
def Txn.readCouplings (x : Txn) : Txn :=
  x.readAll .couplings (x.st.couplings.map (·.number))
    (if x.st.lockage.phase = .whole then [8, 11, 14] else [8, 11, 14, 15])

/-- R121: the coupling lies in a cut: both its barge ends do, and it does not cross. -/
def State.liesIn (s : State) (c : Coupling) (k : Nat) : Bool :=
  !s.crossing c && s.cut? c.endB == some k &&
    (match c.endA with
      | .boat => true
      | .barge h => s.cut? h == some k)

/-- R121: the coupling is counted. -/
def State.counted (s : State) (c : Coupling) : Bool :=
  if s.lockage.phase = .whole then true
  else
    match s.lockage.boatCut with
    | .cut k => s.liesIn c k
    | .none => false
    | .conflict => false

/-- R121: the sum of the usable values of the counted couplings that a test picks. -/
def State.usableSum (s : State) (pick : Coupling → Bool) : Nat :=
  ((s.couplings.filter fun c => s.counted c && pick c).map Coupling.usable).sum

/-- R121: the four sums. -/
structure Sums where
  face : Nat
  long : Nat
  breast : Nat
  bow : Nat
deriving DecidableEq, Repr

/-- R121: stage 1. -/
def State.sums (s : State) : Sums :=
  { face := s.usableSum fun c => c.kind == .face
    long := s.usableSum fun c => c.kind == .long
    breast := s.usableSum fun c => c.kind == .breast
    bow := match s.bowBarge? with
      | none => 0
      | some h => s.usableSum (·.names h) }

/-! ## Stage 2: the limits (R122, R123) -/

/-- The four limits. -/
structure Limits where
  ahead : Nat
  astern : Nat
  flank : Nat
  bow : Nat
deriving DecidableEq, Repr

/-- A main engine that is RUNNING and undamaged. -/
def Engine.drives (e : Engine) : Bool := e.number != 5 && e.state == .running && !e.header.damaged

/-- R123: the sum of rated thrust of the main engines that are RUNNING and undamaged. -/
def State.runningThrust (s : State) : Nat := ((s.engines.filter Engine.drives).map (·.rated)).sum

/-- R122: the limits in the ordinary case. -/
def ordinaryLimits (p : Policy) (u : Sums) : Limits :=
  { ahead := (u.face + u.long) * p.aheadFactor / 1000
    astern := u.face * p.asternFactor / 1000
    flank := u.breast * p.flankFactor / 1000
    bow := u.bow * p.flankFactor / 1000 }

/-- R122, R123: stage 2. -/
def State.limits (s : State) (u : Sums) : Limits :=
  let light : Limits :=
    { ahead := s.runningThrust, astern := s.runningThrust, flank := Config.noLimit, bow := Config.noLimit }
  if s.barges = [] then light
  else if s.lockage.phase = .whole then ordinaryLimits s.policy u
  else
    match s.lockage.boatCut with
    | .none => light
    | .conflict => { ahead := 0, astern := 0, flank := 0, bow := 0 }
    | .cut _ => ordinaryLimits s.policy u

/-- Reads words of the RUNNING engines: no figure of another is used (log 5). -/
def Txn.readRunning (x : Txn) (words : List Nat) : Txn :=
  x.readAll .engines ((x.st.engines.filter fun e => e.state == .running).map (·.number)) words

/-- R123: stage 2's reads: the state of every engine, and the rated thrust of the RUNNING ones. The later stages go on
with the values delivered here (log 5). -/
def Txn.readEngines (x : Txn) : Txn := (x.readAll .engines (x.st.engines.map (·.number)) [15]).readRunning [4]

/-! ## Stage 3: distribution (R124, R146) -/

/-- R124: the thrust share of an engine, truncated toward zero. -/
def Engine.share (e : Engine) : Int := (e.live * e.rated).tdiv 1000

/-- R124: P, the ahead shares together. -/
def State.aheadDemand (s : State) : Nat := ((s.engines.filter Engine.drives).map fun e => e.share.toNat).sum

/-- R124: N, the astern shares together. -/
def State.asternDemand (s : State) : Nat := ((s.engines.filter Engine.drives).map fun e => (-e.share).toNat).sum

/-- R124: the magnitude of a scaled order, for a share of `r` kN of `demand` kN under `limit` kN. -/
def scaledOrder (r limit demand rated : Nat) : Nat := r * limit / demand * 1000 / rated

/-- R124: the allowed order of a main engine. -/
def allowedOrder (e : Engine) (l : Limits) (ahead astern : Nat) : Int :=
  if e.drives then
    if 0 < e.share ∧ l.ahead < ahead then scaledOrder e.share.toNat l.ahead ahead e.rated
    else if e.share < 0 ∧ l.astern < astern then -(scaledOrder (-e.share).toNat l.astern astern e.rated : Int)
    else e.live
  else 0

/-- R146: the allowed order of the bow unit. -/
def allowedBow (e : Engine) (l : Limits) : Int :=
  if e.state = .running then
    let m : Nat := min e.live.natAbs (l.bow * 1000 / e.rated)
    if e.live < 0 then -(m : Int) else m
  else 0

/-- R124, R146: stage 3. The live targets of the RUNNING engines are read, and then the undamaged engines are given
their allowed orders. -/
def Txn.distribute (x : Txn) (l : Limits) : Txn :=
  let y := x.readRunning [10]
  let ahead := y.st.aheadDemand
  let astern := y.st.asternDemand
  let allow (e : Engine) : Engine :=
    Engine.renew { e with allowed := if e.number = 5 then allowedBow e l else allowedOrder e l ahead astern } [11]
  y.on fun s => { s with engines := update (fun e => !e.header.damaged) allow s.engines }

/-! ## Stage 4: the slew (R125 to R127, R146) -/

/-- R125: the slew step, in per-mille per cycle. -/
def slewStep (constant mass : Nat) : Nat := max 1 (constant / mass)

/-- R126, R138: moves a figure toward another by at most a step. -/
def moveToward (s a : Int) (step : Nat) : Int := if s ≤ a then min (s + step) a else max (s - step) a

/-- R126: both orders lie on the same side of 0. -/
def sameSign (a b : Int) : Bool := (decide (0 < a) && decide (0 < b)) || (decide (a < 0) && decide (b < 0))

/-- R127: the direction of an order that is not 0. -/
def directionOf (o : Int) : Direction := if 0 < o then .ahead else .astern

/-- R126: the new sent order; `released` says that an order at 0 may move. -/
def slewOrder (sent allowed : Int) (step : Nat) (released : Bool) : Int :=
  if sent = 0 then
    if allowed = 0 then 0 else if released then moveToward 0 allowed step else 0
  else if sameSign sent allowed then
    if allowed.natAbs ≤ sent.natAbs then allowed else moveToward sent allowed step
  else 0

/-- R127: zero time counts one period at each computation that finds the sent order at 0. -/
def Engine.counted (e : Engine) (period : Nat) : Nat := if e.sent = 0 then saturate e.zeroTime period else e.zeroTime

/-- R127: the dwell lets the engine move from 0. The bow unit has no dwell (R146). -/
def Engine.released (e : Engine) (period dwell : Nat) : Bool :=
  e.number == 5 || e.lastDirection == .none || e.lastDirection == directionOf e.allowed ||
    decide (dwell ≤ e.counted period)

/-- R126, R127, R146: the slew of one engine, with the counting and the recording. -/
def Engine.slew (e : Engine) (step period dwell : Nat) : Engine :=
  if e.state = .running then
    let sent := slewOrder e.sent e.allowed step (e.released period dwell)
    { e with
      sent := sent
      lastDirection := if sent = 0 then e.lastDirection else directionOf sent
      zeroTime := if sent = 0 ∧ e.sent ≠ 0 then 0 else e.counted period }
  else { e with sent := 0 }

/-- R126, R127: the words that stage 4 reads of a RUNNING engine: the sent order, and at rest the zero time that it
counts and, where a main engine is to move, the last direction. The allowed order is the one that stage 3 wrote. -/
def Engine.slewReads (e : Engine) : List Nat :=
  [12] ++ (if e.sent = 0 then (if e.allowed = 0 ∨ e.number = 5 then [] else [16]) ++ [17] else [])

/-- R126, R127: the words that stage 4 writes of a RUNNING engine that takes the sent order `new`: the order, the last
direction where it is not 0, and the zero time where it is counted or set to 0. -/
def Engine.slewWords (e : Engine) (new : Int) : List Nat :=
  [12] ++ (if new = 0 then [] else [16]) ++ (if e.sent = 0 ∨ new = 0 then [17] else [])

/-- R126: stage 4 for one engine: a RUNNING one is slewed, and another is sent 0. -/
def Txn.slewEngine (x : Txn) (k step period : Nat) : Txn :=
  let dwell := x.st.policy.reversalDwell
  match x.st.engine? k with
  | none => x
  | some e =>
    let running : Bool := e.state == .running
    match x.read .engines k (if running then e.slewReads else []) with
    | (y, false) => y
    | (y, true) =>
      y.modEngine k (if running then e.slewWords (e.slew step period dwell).sent else [12]) fun e =>
        e.slew step period dwell

/-- R125, R126: stage 4, with the step that the tow mass gives. -/
def Txn.slewAll (x : Txn) (mass period : Nat) : Txn :=
  let step := slewStep x.st.policy.slewConstant mass
  x.forKeys (x.st.engines.map (·.number)) fun k y => y.slewEngine k step period

/-! ## Stage 5: the rudder channels (R137, R138) -/

/-- R137: the shaft thrust that a channel stands in. -/
def State.shaftThrust (s : State) (shaft : Nat) : Nat :=
  match s.engine? shaft with
  | none => 0
  | some e => if e.state = .running ∧ e.header.damaged = false then e.sent.natAbs * e.rated / 1000 else 0

/-- R137: a channel that is RUNNING and undamaged. -/
def Rudder.steers (r : Rudder) : Bool := r.state == .running && !r.header.damaged

/-- R137: a channel's term of the flank demand. -/
def State.flankTerm (s : State) (r : Rudder) : Nat := r.live.natAbs * s.shaftThrust r.shaft / Config.fullRudder

/-- R137: D, the flank demand. -/
def State.flankDemand (s : State) : Nat := ((s.rudders.filter Rudder.steers).map s.flankTerm).sum

/-- R137: the allowed angle of a channel that is counted. -/
def allowedAngle (live : Int) (limit demand : Nat) : Int := if demand ≤ limit then live else (live * limit).tdiv demand

/-- R138: the rudder step, in tenths. -/
def rudderStep (rate period : Nat) : Nat := max 1 (rate * period / 1000)

/-- R137, R138: the allowed and sent angles of a channel. -/
def Rudder.steer (r : Rudder) (limit demand period : Nat) : Rudder :=
  if r.state = .running then
    let allowed := allowedAngle r.live limit demand
    { r with allowed := allowed, sent := moveToward r.sent allowed (rudderStep r.rate period) }
  else { r with allowed := 0, sent := 0 }

/-- R137: stage 5's reads for the flank demand: every channel's state, and the live target of the RUNNING ones. -/
def Txn.readChannels (x : Txn) : Txn :=
  let y := x.readAll .rudders (x.st.rudders.map (·.channel)) [13]
  y.readAll .rudders ((y.st.rudders.filter fun r => r.state == .running).map (·.channel)) [9]

/-- R137, R138, R140: stage 5 for one channel. The flank demand is that of the channels undamaged by now: one found
damaged is left out for those after it, and the ones before it stand. -/
def Txn.steerChannel (x : Txn) (l : Limits) (k period : Nat) : Txn :=
  match x.read .rudders k (if (x.st.rudder? k).any Rudder.steers then [6, 11] else []) with
  | (y, false) => y
  | (y, true) =>
    let demand := y.st.flankDemand
    y.modRudder k [10, 11] fun r => r.steer l.flank demand period

/-- R137, R138, R140: stage 5. DESIGN CHOICE (log 37): every channel's state and the live target of the RUNNING ones are
read first, and then the channels are taken in ascending channel order, which decides the channels taken before one
that is found damaged while they are taken. -/
def Txn.steerAll (x : Txn) (l : Limits) (period : Nat) : Txn :=
  x.readChannels.forKeys (x.st.rudders.map (·.channel)) fun k y => y.steerChannel l k period

/-! ## Stage 6: results (R128) -/

/-- R128: some record that is RUNNING and undamaged has an allowed value different from its live target. -/
def State.limited (s : State) : Bool :=
  (s.engines.any fun e => e.state == .running && !e.header.damaged && e.allowed != e.live) ||
    s.rudders.any fun r => r.steers && r.allowed != r.live

/-- R128: the sent order that the output set carries for an engine. -/
def Engine.carried (e : Engine) : Int := if e.state = .running ∧ e.header.damaged = false then e.sent else 0

/-- R128: the sent angle that the output set carries for a channel. -/
def Rudder.carried (r : Rudder) : Int := if r.steers then r.sent else 0

/-- R128: the cycle output set. -/
def State.outputSet (s : State) : OutputSet :=
  { cycleCount := s.status.cycleCount, stepNumber := s.status.stepNumber,
    orders := s.engines.map fun e => (e.number, e.carried), angles := s.rudders.map fun r => (r.channel, r.carried) }

/-- R8, R128: the tow status figures that the computation writes. -/
def TowStatus.computed (u : TowStatus) (sums : Sums) (l : Limits) (mass : Nat) (limiting : Bool) : TowStatus :=
  { u with
    cycleCount := (u.cycleCount + 1) % 4294967296, faceSum := sums.face, longSum := sums.long, breastSum := sums.breast,
    limitAhead := l.ahead, limitAstern := l.astern, limitFlank := l.flank, limitBow := l.bow, towMass := mass,
    limiting := limiting }

/-- R128: stage 6. -/
def Txn.writeResults (x : Txn) (sums : Sums) (l : Limits) (mass : Nat) : Txn :=
  let limiting := x.st.limited
  let y := x.modStatus fun u => u.computed sums l mass limiting
  (y.raiseIf (limiting && !x.st.status.limiting) .limit).on fun s =>
    { s with link := { s.link with latest := some s.outputSet, fresh := true } }

/-! ## The computation (R119) -/

/-- R119: stages 0 to 6. -/
def Txn.computeCycle (x : Txn) : Txn :=
  let period := x.st.openedPeriod
  let a := x.handover
  let b := a.readCouplings
  let sums := b.st.sums
  let c := b.readEngines
  let l := c.st.limits sums
  let d := c.distribute l
  let m := d.towMass
  let e := m.1.slewAll m.2 period
  let f := e.steerAll l period
  f.writeResults sums l m.2

/-- CYCLE_COMPUTATION (R119). -/
def execCycleComputation (s : State) : Host.Outcome State Fault Refusal :=
  .next (s.transact .coordination Txn.computeCycle)

end Sys2Proof.Machine
end

