-- ==== Sys2Proof/Machine/Fuel.lean ====
section
/-! DEFINITION. The Fuel Accountant's transaction (R154 to R157, R170): conversion of readings and their posting. -/
namespace Sys2Proof.Machine

/-! ## Conversion (R155, R156) -/

/-- R155: the pulse difference; a count below the baseline is a wrap. -/
def pulseDifference (count baseline : Nat) : Nat := (count + 65536 - baseline) % 65536

/-- R156: the temperature of a conversion, in tenths of a °C. -/
def conversionTemperature (reading last : Option Int) : Int :=
  match reading with
  | some t => max (-200) (min t 800)
  | none => last.getD 150

/-- R156: the last temperature after a conversion. -/
def lastTemperatureAfter (reading last : Option Int) : Option Int :=
  match reading with
  | some t => some (max (-200) (min t 800))
  | none => last

/-- R156, steps 1 to 3: the volume in 10⁻⁹ ml, for `d` pulses of `k` µl, expansion factor `beta` and temperature `t`. -/
def convertedVolume (d k beta : Nat) (t : Int) (residual : Nat) : Int :=
  let v : Int := (d * k : Nat)
  v * 1000000 - v * beta * (t - 150) + residual

/-- R156, step 4: the millilitres posted. -/
def postedAmount (volume : Int) : Nat := (volume / 1000000000).toNat

/-- R156, step 5: the new residual. -/
def newResidual (volume : Int) : Nat := (volume % 1000000000).toNat

/-- R156: the meter factor that the context was admitted with. -/
def Parameters.meterFactor : Parameters → Nat
  | .factor k => k
  | .engine _ => 0
  | .rudder _ _ => 0
  | .gauge _ => 0

/-! ## Posting (R157, R170) -/

/-- R157: a reading of a damaged engine goes unposted. -/
def Txn.unpostedReading (x : Txn) (d : Nat) : Txn :=
  x.modStatus fun u =>
    { u with unpostedReadings := saturate u.unpostedReadings 1, unpostedPulses := saturate u.unpostedPulses d }

/-- R157: posts a METER reading as a draw of its engine; the answer says whether the new residual stands. -/
def Txn.postMeter (x : Txn) (key amount d : Nat) : Txn × Bool :=
  match x.read .engines key (wide 18) with
  | (y, false) => (y.unpostedReading d, false)
  | (y, true) =>
    if amount = 0 then (y, true)
    else
      let z := y.modEngine key (wide 18) fun e => { e with consumed := e.consumed + amount }
      match (z.st.engine? key).bind (·.supply) with
      | none => (z, true)
      | some t => (z.drawFor key t amount, true)

/-- R154: hands a conversion to the block that posts it. -/
def Txn.postConversion (x : Txn) (c : Context) (amount d : Nat) (running : Bool) : Txn × Bool :=
  match c.kind with
  | .meter => x.postMeter c.key amount d
  | .pump => x.postPump c.key amount d running
  | .engine => (x, false)
  | .rudder => (x, false)
  | .gauge => (x, false)

/-- R155, R156: converts one reading and posts it. A reading that finds no baseline sets it and posts nothing
(log 13). -/
def Txn.convert (x : Txn) (r : Reading) : Txn :=
  match x.st.context? r.address with
  | none => x
  | some c =>
    let y := x.modContext r.address fun c =>
      { c with baseline := some r.count, lastTemperature := lastTemperatureAfter r.temperature c.lastTemperature }
    match c.baseline with
    | none => y
    | some b =>
      let d := pulseDifference r.count b
      let volume := convertedVolume d c.parameters.meterFactor x.st.policy.expansion
        (conversionTemperature r.temperature c.lastTemperature) c.residual
      let posted := y.postConversion c (postedAmount volume) d r.running
      if posted.2 then posted.1.modContext r.address fun c => { c with residual := newResidual volume } else posted.1

/-- R154: takes every reading in the list, in order. -/
def Txn.convertAll (x : Txn) : Txn :=
  x.st.readings.foldl Txn.convert (x.on fun s => { s with readings := [] })

/-- FUEL_CONVERSION (R154). -/
def execFuelConversion (s : State) : Host.Outcome State Fault Refusal := .next (s.transact .fuel Txn.convertAll)

end Sys2Proof.Machine
end

