-- ==== Sys2Proof/Machine/Link.lean ====
section
/-! DEFINITION. The commands of the Machinery-Link Controller (Chapter 6): the cycle timer, CYCLE START, the slots and
their replies, and the posting of results. -/
namespace Sys2Proof.Machine

/-- Changes the Machinery-Link Controller. -/
def State.modLink (s : State) (f : MachineryLink → MachineryLink) : State := { s with link := f s.link }

/-! ## The cycle (R99, R100) -/

/-- R99: an expiry that finds the previous cycle not ended is an overrun. -/
def State.countOverrun (s : State) : State :=
  if s.link.cycle.isSome then { s with status := { s.status with overruns := saturate s.status.overruns 1 } } else s

/-- R119: the expiry is handed to the Coordination Unit, unless its previous transaction waits; the period is that of
the timer run that has expired. -/
def State.handExpiry (s : State) : State :=
  if s.arbiter.coordination then s
  else State.ask { s with openedPeriod := s.link.timer.period / 1000 } .coordination

/-- R99: the cycle timer expires and restarts with the policy value in force. -/
def State.cycleExpiry (s : State) : State :=
  s.countOverrun.handExpiry.modLink fun l =>
    { l with timer := { start := s.clock, period := s.policy.machineryCycle * 1000 } }

/-- CYCLE_TIMER_EXPIRY (R99). -/
def execCycleTimerExpiry (s : State) : Host.Outcome State Fault Refusal := .next s.cycleExpiry

/-- R95, R190: the bytes of a frame that the part sends on the machinery link, from its own address 32. -/
def LineFrame.onLink (f : LineFrame) : List Byte := f.bytes Config.linkOwnAddress

/-- R100, section 12.2: the CYCLE START frame of an output set. -/
def OutputSet.startFrame (o : OutputSet) : LineFrame :=
  { dest := Config.broadcast, kind := 0x40, payload := beBytes 4 o.cycleCount ++ [byte o.stepNumber] }

/-- R99, R100: CYCLE START goes out when the previous cycle has ended and a set has been written since. -/
def State.cycleStart (s : State) : State :=
  match s.link.cycle, s.link.fresh, s.link.latest with
  | none, true, some o =>
    s.modLink fun l =>
      { l with cycle := some { copy := o, slots := l.contexts.map (·.address) }, fresh := false,
               sent := [o.startFrame.onLink] }
  | _, _, _ => s

/-- CYCLE_START (R100). -/
def execCycleStart (s : State) : Host.Outcome State Fault Refusal := .next (settle s.cycleStart)

/-! ## Slots (R100, R103, R104, R106) -/

/-- R100: the cycle in progress and the context whose slot has come. -/
def State.slot (s : State) : Option (Cycle × Context) :=
  match s.link.cycle with
  | none => none
  | some c =>
    if s.link.exchange.isSome then none
    else
      match c.slots with
      | [] => none
      | a :: _ => (s.context? a).map fun k => (c, k)

/-- R101: the frame of a slot goes out and its exchange begins. -/
def State.beginSlot (s : State) (c : Cycle) (k : Context) (kind : Nat) (payload : List Byte) : State :=
  s.modLink fun l =>
    { l with cycle := some { c with slots := c.slots.drop 1 },
             exchange := some { address := k.address, held := k.state, stale := false },
             sent := [LineFrame.onLink { dest := k.address, kind := kind, payload := payload }] }

/-- R106: what an OUTPUT carries. A figure that the copy does not have is 0. -/
def State.outputPayload (s : State) (c : Cycle) (k : Context) : List Byte :=
  let figure (l : List (Nat × Int)) : Int := ((l.find? (·.1 == k.key)).map (·.2)).getD 0
  match k.kind with
  | .engine => intBytes 2 (figure c.copy.orders)
  | .rudder => intBytes 2 (figure c.copy.angles)
  | .pump => [flagByte (((s.transfer? k.key).map (·.pumpRun)).getD false)]
  | .meter => []
  | .gauge => []

/-- R103: what a PARAMETERS frame carries: the parameter copy, and for an engine the reversal dwell of the policy. -/
def State.parametersPayload (s : State) (p : Parameters) : List Byte :=
  match p with
  | .engine rated => beBytes 2 rated ++ beBytes 2 s.policy.reversalDwell
  | .rudder limit rate => beBytes 2 limit ++ beBytes 2 rate
  | .factor k => beBytes 4 k
  | .gauge capacity => beBytes 4 capacity

/-- R106: an OUTPUT to a context in EXCHANGE. -/
def State.sendOutput (s : State) : State :=
  match s.slot with
  | none => s
  | some (c, k) => if k.state = .exchange then s.beginSlot c k 0x46 (s.outputPayload c k) else s

/-- OUTPUT (R106). -/
def execOutput (s : State) : Host.Outcome State Fault Refusal := .next (settle s.sendOutput)

/-- R103: an admission that begins from OFFLINE restarts the retry timer. -/
def State.beginAdmission (s : State) (k : Context) : State :=
  if k.state = .offline then
    s.modLink fun l => { l with contexts := update (·.address == k.address) (fun d => { d with retry := some s.clock }) l.contexts }
  else s

/-- R100, R103: PARAMETERS to a context in PARAMETERIZE, or in OFFLINE with its retry timer due. -/
def State.sendParameters (s : State) : State :=
  match s.slot with
  | none => s
  | some (c, k) =>
    if k.state = .parameterize ∨ (k.state = .offline ∧ k.retryDue s.clock = true) then
      (s.beginSlot c k 0x41 (s.parametersPayload k.parameters)).beginAdmission k
    else s

/-- PARAMETERS (R103). -/
def execParameters (s : State) : Host.Outcome State Fault Refusal := .next (settle s.sendParameters)

/-- R104: CONFIGURATION to a context in CONFIGURE. -/
def State.sendConfiguration (s : State) : State :=
  match s.slot with
  | none => s
  | some (c, k) => if k.state = .configure then s.beginSlot c k 0x44 [byte k.kind.code, 1] else s

/-- CONFIGURATION (R104). -/
def execConfiguration (s : State) : Host.Outcome State Fault Refusal := .next (settle s.sendConfiguration)

/-! ## Replies (R101, R102, R107, R192) -/

/-- R101, R190: the checks of a reply that do not depend on its contents. -/
def linkFramed (r : LineReply) (called kind length : Nat) : Bool :=
  LineReply.framed r Config.linkReplyTimeoutUs Config.linkOwnAddress called kind length

/-- R102: the exchange ends with an outcome, which joins the results. -/
def State.endSlot (s : State) (outcome : LinkExchange → SlotOutcome) : State :=
  match s.link.exchange with
  | none => s
  | some e =>
    s.modLink fun l =>
      { l with exchange := none,
               results := l.results ++ [{ address := e.address, held := e.held, outcome := outcome e, stale := e.stale }] }

/-- R192: a flag byte of an INPUT. -/
def inputFlag (b : Byte) : Option Bool := if b = 0 then some false else if b = 1 then some true else none

/-- R192: the temperature field, 0x8000 for no reading. -/
def temperatureOf (bs : List Byte) : Option Int := if bs = [0x80, 0x00] then none else some (beInt bs)

/-- R107, R192: the values of an INPUT of a kind; figures out of range are taken as the nearer end. -/
def inputValues (kind : StationKind) (payload : List Byte) : Option InputValues :=
  match kind, payload with
  | .engine, [h, l, a] => (inputFlag a).map fun alarm => .engine (max (-1000) (min (beInt [h, l]) 1000)) alarm
  | .rudder, [h, l] => some (.rudder (max (-900) (min (beInt [h, l]) 900)))
  | .meter, [h, l, th, tl] => some (.meter (beNat [h, l]) (temperatureOf [th, tl]))
  | .pump, [h, l, th, tl, r] => (inputFlag r).map fun running => .pump (beNat [h, l]) (temperatureOf [th, tl]) running
  | .gauge, [a, b, c, d] => some (.gauge (min (beNat [a, b, c, d]) 400000))
  | _, _ => none

/-- Section 12.2: the payload length of an INPUT, by kind. -/
def inputLength : StationKind → Nat
  | .engine => 3
  | .rudder => 2
  | .meter => 4
  | .pump => 5
  | .gauge => 4

/-- R107: the outcome of an exchange that an INPUT answers. -/
def State.inputOutcome (s : State) (r : LineReply) (e : LinkExchange) : SlotOutcome :=
  match s.context? e.address with
  | none => .miss
  | some c =>
    if e.held = .exchange ∧ linkFramed r e.address 0x47 (inputLength c.kind) = true then
      match inputValues c.kind r.payload with
      | none => .miss
      | some v => .input v
    else .miss

/-- INPUT (R107). -/
def execInput (r : LineReply) (s : State) : Host.Outcome State Fault Refusal := .next (settle (s.endSlot (s.inputOutcome r)))

/-- R103: the slot was that of a PARAMETERS frame. -/
def LinkExchange.parametersSlot (e : LinkExchange) : Bool := e.held == .offline || e.held == .parameterize

/-- R103: the outcome of an exchange that PARAM OK answers. -/
def paramOkOutcome (r : LineReply) (e : LinkExchange) : SlotOutcome :=
  if e.parametersSlot && linkFramed r e.address 0x42 0 then .paramOk else .miss

/-- PARAM_OK (R103). -/
def execParamOk (r : LineReply) (s : State) : Host.Outcome State Fault Refusal := .next (settle (s.endSlot (paramOkOutcome r)))

/-- R103: the outcome of an exchange that PARAM FAULT answers. -/
def paramFaultOutcome (r : LineReply) (e : LinkExchange) : SlotOutcome :=
  if e.parametersSlot && linkFramed r e.address 0x43 0 then .paramFault else .miss

/-- PARAM_FAULT (R103). -/
def execParamFault (r : LineReply) (s : State) : Host.Outcome State Fault Refusal :=
  .next (settle (s.endSlot (paramFaultOutcome r)))

/-- R104, R192: the outcome of an exchange that CONFIGURATION REPLY answers: any kind code and channel count is good. -/
def configurationOutcome (r : LineReply) (e : LinkExchange) : SlotOutcome :=
  if e.held = .configure ∧ linkFramed r e.address 0x45 2 = true then
    match r.payload with
    | [kind, channels] => .configuration kind.toNat channels.toNat
    | _ => .miss
  else .miss

/-- CONFIGURATION_REPLY (R104). -/
def execConfigurationReply (r : LineReply) (s : State) : Host.Outcome State Fault Refusal :=
  .next (settle (s.endSlot (configurationOutcome r)))

/-- MACHINERY_REPLY_TIMEOUT (R101). -/
def execMachineryReplyTimeout (s : State) : Host.Outcome State Fault Refusal := .next (settle (s.endSlot fun _ => .miss))

/-! ## Posting (R102 to R104, R107, R108, R130) -/

/-- R103, R104, R108: a context goes OFFLINE after a miss; one that is OFFLINE stays so. -/
def Txn.contextMissed (x : Txn) (c : Context) : Txn := if c.state = .offline then x else x.enterContext c.address .offline

/-- R103, R104: a station is refused: REJECTED, with STATION. -/
def Txn.contextRejected (x : Txn) (c : Context) : Txn := (x.enterContext c.address .rejected).raise .station

/-- R104: a station enters EXCHANGE. -/
def Txn.contextAdmitted (x : Txn) (c : Context) : Txn :=
  (x.enterContext c.address .exchange).modContext c.address fun c =>
    { c with misses := 0, baseline := none, lastTemperature := none }

/-- R108: a missed INPUT. -/
def Txn.inputMissed (x : Txn) (c : Context) : Txn :=
  if c.misses < 2 then x.modContext c.address fun c => { c with misses := c.misses + 1 }
  else ((x.enterContext c.address .offline).modContext c.address fun c => { c with misses := 0 }).raise .station

/-- R107, R130, R161: the values of a good INPUT are written into an undamaged serving record. -/
def Txn.writeInput (x : Txn) (key : Nat) (v : InputValues) : Txn :=
  match v with
  | .engine d alarm =>
    match x.read .engines key [14] with
    | (y, false) => y
    | (y, true) =>
      match y.st.engine? key with
      | none => y
      | some e =>
        (y.modEngine key [13, 14] fun e => { e with delivered := some d, alarm := alarm }).raiseIf (alarm && !e.alarm)
          .station
  | .rudder f => if x.st.sound .rudders key then x.modRudder key [12] fun r => { r with feedback := some f } else x
  | .gauge l => if x.st.sound .tanks key then x.modTank key [15] fun t => { t with gauged := some l } else x
  | .meter _ _ => x
  | .pump _ _ _ => x

/-- R107: the reading of a METER or PUMP station for the Fuel Accountant. -/
def InputValues.reading (v : InputValues) (address : Nat) : List Reading :=
  match v with
  | .meter n t => [{ address := address, count := n, temperature := t, running := false }]
  | .pump n t r => [{ address := address, count := n, temperature := t, running := r }]
  | .engine _ _ => []
  | .rudder _ => []
  | .gauge _ => []

/-- R102: applies a result to the context that it belongs to. -/
def Txn.applyOutcome (x : Txn) (c : Context) (o : SlotOutcome) : Txn × List Reading :=
  match o with
  | .paramOk => (x.enterContext c.address .configure, [])
  | .paramFault => (x.contextRejected c, [])
  | .configuration kind channels =>
    (if kind = c.kind.code ∧ channels = 1 then x.contextAdmitted c else x.contextRejected c, [])
  | .input v =>
    ((x.modContext c.address fun c => { c with misses := 0 }).writeInput c.key v, v.reading c.address)
  | .miss => (if c.state = .exchange then x.inputMissed c else x.contextMissed c, [])

/-- R102: a result whose context has been removed or has moved since its slot, or that is stale, is discarded. -/
def Txn.applyResult (x : Txn) (r : SlotResult) : Txn × List Reading :=
  match x.st.context? r.address with
  | none => (x, [])
  | some c => if c.state = r.held ∧ r.stale = false then x.applyOutcome c r.outcome else (x, [])

/-- R102: applies the results in list order, and gathers the readings in that order. -/
def Txn.applyResults (x : Txn) : List SlotResult → Txn × List Reading
  | [] => (x, [])
  | r :: rs =>
    let a := x.applyResult r
    let b := a.1.applyResults rs
    (b.1, a.2 ++ b.2)

/-- R154: readings join the list while it holds fewer than 12. -/
def joinReadings (held new : List Reading) : List Reading := held ++ new.take (Config.readingPlaces - held.length)

/-- R102: the posting transaction. -/
def Txn.postResults (x : Txn) : Txn :=
  let a := (x.on fun s => s.modLink fun l => { l with results := [] }).applyResults x.st.link.results
  a.1.on fun s => { s with readings := joinReadings s.readings a.2 }

/-- MACHINERY_POSTING (R102). -/
def execMachineryPosting (s : State) : Host.Outcome State Fault Refusal := .next (s.transact .machinery Txn.postResults)

end Sys2Proof.Machine
end

