-- ==== Sys2Proof/Machine/Patrol.lean ====
section
/-! DEFINITION. The Patrol (R15, R16), the disturbance of store bits (R11), and the two resets (R19, R188). -/
namespace Sys2Proof.Machine

/-! ## Resets -/

/-- R19, R188: everything stands as after power-on reset. The commands still to come are no part of the part. -/
def State.resetPart (s : State) : State := { State.reset with pending := s.pending }

/-- POWER_ON_RESET (R19). -/
def execPowerOnReset (s : State) : Host.Outcome State Fault Refusal := .next s.resetPart
/-- RESET_PIN (R188). -/
def execResetPin (s : State) : Host.Outcome State Fault Refusal := .next s.resetPart

/-! ## Disturbance (R11) -/

/-- R11: a bit of a word goes bad; a bit that is bad already stays bad (log 7). -/
def Header.strike (h : Header) (word bit : Nat) : Header :=
  if h.bad.contains (word, bit) then h else { h with bad := h.bad ++ [(word, bit)] }

/-- R11: a bit of a store word of a record goes bad; nothing happens where there is no such bit. -/
def State.strike (s : State) (t : Tbl) (key word bit : Nat) : State :=
  if (wordsOf t).contains word && decide (bit < Config.wordBits) then s.modHeader t key fun h => h.strike word bit
  else s

/-- BIT_ERROR (R11). -/
def execBitError (t : Tbl) (key word bit : Nat) (s : State) : Host.Outcome State Fault Refusal :=
  .next (s.strike t key word bit)

/-! ## The Patrol -/

/-- R16: the order of the tables in the Patrol's round. -/
def roundIndex : Tbl → Nat
  | .barges => 0
  | .couplings => 1
  | .engines => 2
  | .rudders => 3
  | .tanks => 4
  | .transfers => 5

/-- R16: a record in the round: its table, its place in that table's order and its key. -/
structure Stop where
  table : Tbl
  place : Nat
  key : Nat
deriving DecidableEq, Repr

/-- R16: the undamaged records of the store in the order of the round. A barge's place is its place in tow order;
the place of a record of a key-ordered table is its key (log 10). -/
def State.round (s : State) : List Stop :=
  let barges := s.barges.zipIdx.filterMap fun p =>
    if p.1.header.damaged then none else some { table := .barges, place := p.2 + 1, key := p.1.hull }
  let others (t : Tbl) (l : List (Nat × Header)) : List Stop := l.filterMap fun p =>
    if p.2.damaged then none else some { table := t, place := p.1, key := p.1 }
  barges ++ others .couplings (s.couplings.map fun r => (r.number, r.header)) ++
    others .engines (s.engines.map fun r => (r.number, r.header)) ++
    others .rudders (s.rudders.map fun r => (r.channel, r.header)) ++
    others .tanks (s.tanks.map fun r => (r.number, r.header)) ++
    others .transfers (s.transfers.map fun r => (r.number, r.header))

/-- R16: the record comes after the patrol position in the round. -/
def Stop.after (p : Stop) (position : Option (Tbl × Nat)) : Bool :=
  match position with
  | none => true
  | some (t, place) =>
    decide (roundIndex t < roundIndex p.table) || (t == p.table && decide (place < p.place))

/-- R16: the record that the Patrol visits next, wrapping after the last transfer. -/
def State.nextStop (s : State) : Option Stop :=
  match s.round.find? (·.after s.patrol.position) with
  | some p => some p
  | none => s.round.head?

/-- R15: the reads of a visit: every word is read once, those behind a word with two bad bits too, so the words with
one bad bit are read first and the others after them. -/
def Txn.readEvery (x : Txn) (t : Tbl) (key : Nat) (words : List Nat) : Txn × Bool :=
  match x.st.header? t key with
  | none => (x, false)
  | some h =>
    let corrected (w : Nat) : Bool := h.check w == .corrected
    (x.read t key (words.filter corrected)).1.read t key (words.filter fun w => !corrected w)

/-- R15: a visit: every store word is read, corrected words are written back, and nothing is written into a record that
the visit finds damaged. -/
def Txn.visit (x : Txn) : Txn :=
  match x.st.nextStop with
  | none => x
  | some p =>
    let read := x.readEvery p.table p.key (wordsOf p.table)
    let y := if read.2 then read.1.on fun s => s.modHeader p.table p.key fun h => h.renew (wordsOf p.table) else read.1
    y.on fun s => { s with patrol := { s.patrol with position := some (p.table, p.place) } }

/-- R15: the interval timer restarts, and the Patrol asks for the store unless it waits already. -/
def State.patrolExpiry (s : State) : State :=
  State.ask { s with patrol := { s.patrol with start := s.clock } } .patrol

/-- PATROL_TIMER_EXPIRY (R15). -/
def execPatrolTimerExpiry (s : State) : Host.Outcome State Fault Refusal := .next s.patrolExpiry

/-- PATROL_VISIT (R16). -/
def execPatrolVisit (s : State) : Host.Outcome State Fault Refusal := .next (s.transact .patrol Txn.visit)

end Sys2Proof.Machine
end

