-- ==== Sys2Proof/Machine/TowLine.lean ====
section
/-! DEFINITION. The commands of the Tow-Line Controller (Chapter 4): its calls, the replies and misses, deliveries, its
transactions and the change of line rate. -/
namespace Sys2Proof.Machine

/-! ## The exchange (R53, R54) -/

/-- R53: the reply timeout of a line rate, in µs. -/
def replyTimeout (rate : Nat) : Nat :=
  match rate with
  | 1536 => 1000
  | 768 => 2000
  | 384 => 4000
  | _ => 8000

/-- R53, R54, R190: the checks of a reply that do not depend on its contents. -/
def State.towFramed (s : State) (r : LineReply) (called kind length : Nat) : Bool :=
  LineReply.framed r (replyTimeout s.tow.lineRate) Config.towOwnAddress called kind length

/-- Changes the Tow-Line Controller. -/
def State.modTow (s : State) (f : TowLine → TowLine) : State := { s with tow := f s.tow }

/-- The Controller passes to a phase. -/
def State.towPhase (s : State) (p : TowPhase) : State := s.modTow fun t => { t with phase := p }

/-- R57: the exchange has ended and nothing follows it. -/
def State.towIdle (s : State) : State := s.modTow fun t => { t with phase := .ready, discard := false }

/-- R54, R190: the bytes of a frame that the part sends on the tow line, from its own address 127. -/
def LineFrame.onTow (f : LineFrame) : List Byte := f.bytes Config.towOwnAddress

/-- The Controller sends a frame and takes up a phase. -/
def State.towSend (s : State) (p : TowPhase) (frame : LineFrame) : State :=
  s.modTow fun t => { t with phase := p, discard := false, sent := [frame.onTow] }

/-- R57: the Controller is ready for its next exchange. -/
def State.towReady (s : State) : Bool := s.tow.phase == .ready && s.tow.faults == [] && s.tow.rateChange.isNone

/-! ## The polling cycle (R57, R58, R64, R67) -/

/-- R57, item 1: a sweep runs and the last exchange was a node visit. -/
def TowLine.betweenVisits (t : TowLine) : Bool := t.sweep.isSome && t.visitLast

/-- R57: the address of the node to visit next; none when a newcomer slot is next. -/
def TowLine.visitNext (t : TowLine) : Option Nat :=
  if t.betweenVisits then none
  else
    match t.nodes.find? fun n => decide (t.round < n.address) with
    | some n => some n.address
    | none => if t.sweep.isSome then t.nodes.head?.map (·.address) else none

/-- R128: a figure of an output set, 0 where it has none. -/
def figureOf (l : List (Nat × Int)) (key : Nat) : Int := ((l.find? (·.1 == key)).map (·.2)).getD 0

/-- R58: the bow order that a STATUS CALL to a node carries. -/
def State.bowOrder (s : State) (n : Node) : Int :=
  if s.isBowNode n then
    match s.link.latest with
    | none => 0
    | some o => figureOf o.orders 5
  else 0

/-- R58: a visit begins. -/
def State.statusCall (s : State) : State :=
  if s.towReady then
    match s.tow.visitNext with
    | none => s
    | some a =>
      let order := ((s.node? a).map s.bowOrder).getD 0
      (s.towSend (.statusCall a) { dest := a, kind := 0x10, payload := intBytes 2 order }).modTow fun t =>
        { t with round := a, visitLast := true }
  else s

/-- STATUS_CALL (R58). -/
def execStatusCall (s : State) : Host.Outcome State Fault Refusal := .next s.statusCall

/-- R64: the rotation of node addresses, from the pointer on. -/
def rotation (pointer : Nat) : List Nat :=
  let all := (List.range Config.lastNodeAddress).map (· + 1)
  all.filter (pointer ≤ ·) ++ all.filter (· < pointer)

/-- R64: how many listed addresses a newcomer slot passes over. -/
def TowLine.passedOver (t : TowLine) : Nat :=
  ((rotation t.pointer).takeWhile fun a => t.nodes.any (·.address == a)).length

/-- R64: the address that a newcomer slot calls. -/
def TowLine.newcomer (t : TowLine) : Nat := ((rotation t.pointer)[t.passedOver]?).getD t.pointer

/-- R64: 126 is followed by 1. -/
def nextAddress (a : Nat) : Nat := if a = Config.lastNodeAddress then 1 else a + 1

/-- R67: how far the pointer has to go to come back to the mark. -/
def toMark (pointer mark : Nat) : Nat :=
  if pointer < mark then mark - pointer else Config.lastNodeAddress - (pointer - mark)

/-- R67: the sweep ends at the slot that brings the pointer back to the mark. -/
def TowLine.sweptTo (t : TowLine) : Option Nat :=
  match t.sweep with
  | none => none
  | some mark => if toMark t.pointer mark ≤ t.passedOver + 1 then none else some mark

/-- R57, R64, R67: a newcomer slot begins. -/
def State.presenceCall (s : State) : State :=
  if s.towReady && s.tow.visitNext.isNone then
    let a := s.tow.newcomer
    (s.towSend (.presence a) { dest := a, kind := 0x16, payload := [] }).modTow fun t =>
      { t with pointer := nextAddress a, sweep := s.tow.sweptTo, visitLast := false,
               round := if s.tow.betweenVisits then t.round else 0 }
  else s

/-- PRESENCE_CALL (R64). -/
def execPresenceCall (s : State) : Host.Outcome State Fault Refusal := .next s.presenceCall

/-! ## Misses (R53, R59, R62) -/

/-- Changes a node of the list. -/
def State.modNode (s : State) (a : Nat) (f : Node → Node) : State :=
  s.modTow fun t => { t with nodes := update (·.address == a) f t.nodes }

/-- R59: a STATUS CALL missed. -/
def State.statusMiss (s : State) (a : Nat) : State :=
  match s.node? a with
  | none => s.towIdle
  | some n =>
    if n.misses < 2 then (s.modNode a fun n => { n with missing := true, misses := n.misses + 1 }).towIdle
    else (s.towPhase (.dropping a)).ask .towLine

/-- R62: 1 is added to the failure count of a slot that still holds the command sent. -/
def Slot.failed (c : Slot) (k : Nat) (carried : List (Nat × Nat)) : Slot :=
  if carried.contains (k, c.stamp) then { c with failures := c.failures + 1 } else c

/-- R62: 1 is added to each slot that still holds the command that was sent. -/
def Node.failed (n : Node) (carried : List (Nat × Nat)) : Node :=
  { n with slots := n.slots.zipIdx.map fun p => p.1.map fun c => c.failed (p.2 + 1) carried }

/-- R62: a delivery fails. -/
def State.deliveryFailed (s : State) (a : Nat) (carried : List (Nat × Nat)) : State :=
  match s.node? a with
  | none => s.towIdle
  | some _ => (s.modNode a fun n => n.failed carried).endDelivery a false []

/-- R53: the exchange under way ends in a miss; outside an exchange nothing is awaited. -/
def State.towMiss (s : State) : State :=
  match s.tow.phase with
  | .statusCall a => if s.tow.discard then s.towIdle else s.statusMiss a
  | .enquiry a carried => if s.tow.discard then s.towIdle else s.deliveryFailed a carried
  | .commanding a carried => if s.tow.discard then s.towIdle else s.deliveryFailed a carried
  | .presence _ => s.towIdle
  | .ready => s
  | .posting _ _ _ => s
  | .dropping _ => s
  | .enquiryDue _ => s
  | .commandDue _ => s
  | .delivering _ _ => s
  | .faulting => s

/-- TOW_REPLY_TIMEOUT (R53). -/
def execTowReplyTimeout (s : State) : Host.Outcome State Fault Refusal := .next (settle s.towMiss)

/-! ## The STATUS REPLY (R59, R191) -/

/-- R191: a flag byte. -/
def flagOf (b : Byte) : Option Bool := if b = 0 then some false else if b = 1 then some true else none

/-- R59, R191: the readings of `n` winches, with the rest of the payload. -/
def readWinches : Nat → List Byte → Option (List (Nat × Bool) × List Byte)
  | 0, bs => some ([], bs)
  | n + 1, h :: l :: seated :: bs =>
    let tension := beNat [h, l]
    match flagOf seated, readWinches n bs with
    | some b, some (rs, rest) => if tension ≤ 4095 then some ((tension, b) :: rs, rest) else none
    | _, _ => none
  | _ + 1, _ => none

/-- R59, R191: a STATUS REPLY's contents for an entry: its readings, and for a BOW node its delivered order, taken
within -1000..+1000, and its alarm flag. -/
def Node.statusContents (n : Node) (payload : List Byte) : Option (List (Nat × Bool) × Option (Int × Bool)) :=
  match payload with
  | [] => none
  | c :: bs =>
    if c.toNat = n.winches then
      match readWinches n.winches bs, n.bow with
      | some (rs, []), false => some (rs, none)
      | some (rs, [h, l, alarm]), true =>
        (flagOf alarm).map fun a => (rs, some (max (-1000) (min (beInt [h, l]) 1000), a))
      | _, _ => none
    else none

/-- R190: the payload length of a STATUS REPLY of an entry. -/
def Node.statusLength (n : Node) : Nat := (if n.bow then 4 else 1) + 3 * n.winches

/-- R59: a STATUS REPLY is judged. -/
def State.statusReply (s : State) (r : LineReply) : State :=
  match s.tow.phase with
  | .statusCall a =>
    if s.tow.discard then s.towIdle
    else
      match s.node? a with
      | none => s.towIdle
      | some n =>
        if s.towFramed r a 0x11 n.statusLength then
          match n.statusContents r.payload with
          | none => s.towMiss
          | some (rs, bow) =>
            ((s.modNode a fun n => { n with missing := false, misses := 0 }).towPhase (.posting a rs bow)).ask .towLine
        else s.towMiss
  | _ => s.towMiss

/-- STATUS_REPLY (R59). -/
def execStatusReply (r : LineReply) (s : State) : Host.Outcome State Fault Refusal := .next (settle (s.statusReply r))

/-! ## Posting (R60, R144, R145) -/

/-- R60: posts the reading of winch `k` to the couplings it serves, in number order. -/
def Txn.postWinch (x : Txn) (m : Member) (k : Nat) (reading : Nat × Bool) : Txn :=
  x.forKeys (x.st.tendedByWinch m k) fun c y => y.postReading c reading.1 reading.2

/-- R60: posts the readings of winches `k`, `k + 1`, … in order. -/
def Txn.postWinches (x : Txn) (m : Member) (k : Nat) : List (Nat × Bool) → Txn
  | [] => x
  | r :: rs => (x.postWinch m k r).postWinches m (k + 1) rs

/-- R144: what engine 5's state does when a node of a kind has answered at the bow barge. Every row of the table writes
the state, that of REJECTED to REJECTED too (log 38), and the entry to REJECTED raises NODE. -/
def Txn.bowAnswered (x : Txn) (bow : Bool) : Txn :=
  if bow then x.enterBow .running
  else
    let y := x.readBow
    match y.st.engine? 5 with
    | none => y
    | some e => (y.setBow .rejected).raiseIf (e.state != .rejected) .node

/-- R60, R145: the bow node's report is written into engine 5; NODE is raised when the alarm passes to set. -/
def Txn.postBow (x : Txn) (report : Int × Bool) : Txn :=
  match x.read .engines 5 [14] with
  | (y, false) => y
  | (y, true) =>
    match y.st.engine? 5 with
    | none => y
    | some e =>
      (y.modEngine 5 [13, 14] fun e => { e with delivered := some report.1, alarm := report.2 }).raiseIf
        (report.2 && !e.alarm) .node

/-- R60: what a posting transaction writes for a member. -/
def Txn.postMember (x : Txn) (m : Member) (n : Node) (readings : List (Nat × Bool)) (bow : Option (Int × Bool)) : Txn :=
  let y := x.postWinches m 1 readings
  if (y.st.bowBarge?.map Member.barge) = some m then
    let z := y.bowAnswered n.bow
    match bow with
    | none => z
    | some report => z.postBow report
  else y

/-- R60, R69: the posting transaction; the visit goes on with a delivery. -/
def Txn.postingWork (a : Nat) (readings : List (Nat × Bool)) (bow : Option (Int × Bool)) (x : Txn) : Txn :=
  match x.st.node? a with
  | none => x.modTow fun t => { t with phase := .ready }
  | some n =>
    (match x.st.bound a with
      | none => x
      | some m => x.postMember m n readings bow).modTow fun t => { t with phase := .enquiryDue a }

/-- R60: the posting transaction, at its grant. -/
def State.posting (s : State) : State :=
  match s.tow.phase with
  | .posting a readings bow => s.transact .towLine (Txn.postingWork a readings bow)
  | _ => s

/-- POSTING_TRANSACTION (R60). -/
def execPostingTransaction (s : State) : Host.Outcome State Fault Refusal := .next s.posting

/-! ## Delivery (R62, R63) -/

/-- R62: the winches whose slots hold commands, with the stamps of the commands. -/
def Node.held (n : Node) : List (Nat × Nat) :=
  n.slots.zipIdx.filterMap fun p => p.1.map fun c => (p.2 + 1, c.stamp)

/-- Section 12.2: the byte of READY ENQUIRY: bit k-1 for winch k. -/
def Node.heldBits (n : Node) : Byte := byte ((n.held.map fun p => 2 ^ (p.1 - 1)).sum)

/-- Section 12.2: the payload of COMMAND. -/
def Node.commandPayload (n : Node) : List Byte :=
  let commands := n.slots.zipIdx.filterMap fun p => p.1.map fun c =>
    byte (p.2 + 1) :: byte c.command.code :: beBytes 2 c.command.target
  byte commands.length :: commands.flatten

/-- R62: READY ENQUIRY names the slots that hold commands. -/
def State.readyEnquiry (s : State) : State :=
  match s.tow.phase with
  | .enquiryDue a =>
    match s.node? a with
    | none => s
    | some n =>
      if n.holds then s.towSend (.enquiry a n.held) { dest := a, kind := 0x12, payload := [n.heldBits] } else s
  | _ => s

/-- READY_ENQUIRY (R62). -/
def execReadyEnquiry (s : State) : Host.Outcome State Fault Refusal := .next (settle s.readyEnquiry)

/-- R62: COMMAND carries every held slot's command as it stands. -/
def State.sendCommand (s : State) : State :=
  match s.tow.phase with
  | .commandDue a =>
    match s.node? a with
    | none => s
    | some n =>
      if n.holds then s.towSend (.commanding a n.held) { dest := a, kind := 0x15, payload := n.commandPayload } else s
  | _ => s

/-- COMMAND (R62). -/
def execCommand (s : State) : Host.Outcome State Fault Refusal := .next (settle s.sendCommand)

/-- R62: a slot is emptied when it still holds the command that was taken. -/
def takenSlot (k : Nat) (carried : List (Nat × Nat)) (o : Option Slot) : Option Slot :=
  match o with
  | none => none
  | some c => if carried.contains (k, c.stamp) then none else some c

/-- R62: the slots whose commands were taken are emptied. -/
def Node.taken (n : Node) (carried : List (Nat × Nat)) : Node :=
  { n with slots := n.slots.zipIdx.map fun p => takenSlot (p.2 + 1) carried p.1 }

/-- R62: an ACCEPT is judged. -/
def State.acceptReply (s : State) (r : LineReply) : State :=
  match s.tow.phase with
  | .enquiry a _ =>
    if s.tow.discard then s.towIdle
    else if s.towFramed r a 0x13 0 then s.towPhase (.commandDue a)
    else s.towMiss
  | .commanding a carried =>
    if s.tow.discard then s.towIdle
    else if s.towFramed r a 0x13 0 then
      (s.modNode a fun n => n.taken carried).endDelivery a true (carried.map (·.1))
    else s.towMiss
  | _ => s.towMiss

/-- ACCEPT (R62). -/
def execAccept (r : LineReply) (s : State) : Host.Outcome State Fault Refusal := .next (settle (s.acceptReply r))

/-- R62: a DEFER fails a delivery as a miss does, at the READY ENQUIRY and at the COMMAND; elsewhere it is no
admitted answer. -/
def State.deferReply (s : State) (_ : LineReply) : State := s.towMiss

/-- DEFER (R62). -/
def execDefer (r : LineReply) (s : State) : Host.Outcome State Fault Refusal := .next (settle (s.deferReply r))

/-- R63: the winches of a node whose slots have reached 3 failures. -/
def Node.thirdFailures (n : Node) : List Nat :=
  n.slots.zipIdx.filterMap fun p => match p.1 with
    | none => none
    | some c => if 3 ≤ c.failures then some (p.2 + 1) else none

/-- R63: a slot that has reached 3 failures is emptied. -/
def Node.faulted (n : Node) : Node :=
  { n with slots := n.slots.map fun o => match o with
      | none => none
      | some c => if 3 ≤ c.failures then none else some c }

/-- R61, R63: sets the winch fault flag of the couplings that winch `k` of a member tends. -/
def Txn.faultWinch (x : Txn) (m : Member) (k : Nat) : Txn :=
  (x.forKeys (x.st.tendedByWinch m k) fun c y => y.setWinchFault c).touch

/-- R63: clears the winch fault flag of the couplings that winch `k` of a member tends. -/
def Txn.clearWinch (x : Txn) (m : Member) (k : Nat) : Txn :=
  (x.forKeys (x.st.tendedByWinch m k) fun c y => y.clearWinchFault c).touch

/-- R63, R69: the delivery transaction. -/
def Txn.deliveryWork (a : Nat) (accepted : List Nat) (x : Txn) : Txn :=
  let idle := x.modTow fun t => { t with phase := .ready }
  match x.st.node? a with
  | none => idle
  | some n =>
    let y := idle.modTow fun t => { t with nodes := update (·.address == a) Node.faulted t.nodes }
    match x.st.bound a with
    | none => y
    | some m =>
      let z := y.forKeys n.thirdFailures fun k w => w.faultWinch m k
      z.forKeys accepted fun k w => w.clearWinch m k

/-- R63: the delivery transaction, at its grant. -/
def State.delivery (s : State) : State :=
  match s.tow.phase with
  | .delivering a accepted => s.transact .towLine (Txn.deliveryWork a accepted)
  | _ => s

/-- DELIVERY_TRANSACTION (R63). -/
def execDeliveryTransaction (s : State) : Host.Outcome State Fault Refusal := .next s.delivery

/-- R61: the transaction that sets the winch fault flags owed for winches beyond their node's count, whatever has
become of the node since. -/
def Txn.faultWork (x : Txn) : Txn :=
  let y := x.modTow fun t => { t with phase := .ready, faults := [] }
  x.st.tow.faults.foldl (fun z f => z.faultWinch f.member f.winch) y

/-- R61: that transaction, at its grant. -/
def State.faulting (s : State) : State :=
  if s.tow.phase = .faulting then s.transact .towLine Txn.faultWork else s

/-- WINCH_FAULT_TRANSACTION (R61). -/
def execWinchFaultTransaction (s : State) : Host.Outcome State Fault Refusal := .next s.faulting

/-! ## Discovery and dropping (R65, R66, R68) -/

/-- R65, R191: the node kind and winch count of a PRESENCE REPLY. -/
def presenceContents (payload : List Byte) : Option (Bool × Nat) :=
  match payload with
  | [kind, count] =>
    if (kind = 1 ∨ kind = 2) ∧ 1 ≤ count.toNat ∧ count.toNat ≤ 4 then some (kind == 2, count.toNat) else none
  | _ => none

/-- R65: an entry as it is created. -/
def newNode (a : Nat) (bow : Bool) (winches : Nat) : Node :=
  { address := a, bow := bow, winches := winches, missing := false, misses := 0, slots := List.replicate winches none }

/-- R65, R66: a node that has answered is entered, or turned away when the list is full. -/
def State.enterNode (s : State) (n : Node) : State :=
  if s.tow.nodes.length < Config.nodePlaces then
    s.modTow fun t => { t with nodes := insertByKey (·.address) n t.nodes }
  else
    State.raise { s with status := { s.status with turnedAway := saturate s.status.turnedAway 1 } } .node

/-- R65: a PRESENCE REPLY is judged. -/
def State.presenceReply (s : State) (r : LineReply) : State :=
  match s.tow.phase with
  | .presence a =>
    if s.tow.discard then s.towIdle
    else if s.towFramed r a 0x17 2 then
      match presenceContents r.payload with
      | none => s.towMiss
      | some (bow, winches) => (s.enterNode (newNode a bow winches)).towIdle
    else s.towMiss
  | _ => s.towMiss

/-- PRESENCE_REPLY (R65). -/
def execPresenceReply (r : LineReply) (s : State) : Host.Outcome State Fault Refusal :=
  .next (settle (s.presenceReply r))

/-- R68, R69: the drop transaction. -/
def Txn.dropWork (a : Nat) (x : Txn) : Txn :=
  let y := x.modTow fun t => { t with phase := .ready }
  match x.st.node? a with
  | none => y
  | some _ => y.dropNode a

/-- R68: the drop transaction, at its grant. -/
def State.dropping (s : State) : State :=
  match s.tow.phase with
  | .dropping a => s.transact .towLine (Txn.dropWork a)
  | _ => s

/-- DROP_TRANSACTION (R68). -/
def execDropTransaction (s : State) : Host.Outcome State Fault Refusal := .next s.dropping

/-! ## The line rate (R71) -/

/-- R71: the two LINE RATE frames go out at the old rate, and the new rate is taken. -/
def State.announceRate (s : State) : State :=
  match s.tow.phase, s.tow.rateChange with
  | .ready, some rate =>
    let frame : LineFrame := { dest := Config.broadcast, kind := 0x18, payload := beBytes 2 rate }
    s.modTow fun t => { t with lineRate := rate, rateChange := none, sent := [frame.onTow, frame.onTow] }
  | _, _ => s

/-- LINE_RATE (R71). -/
def execLineRate (s : State) : Host.Outcome State Fault Refusal := .next (settle s.announceRate)

end Sys2Proof.Machine
end

