-- ==== Sys2Proof/Machine/Dispatch.lean ====
section
/-! DEFINITION. The meaning of every command: one arm per row of the table, each one call of a meaning. -/
namespace Sys2Proof.Machine

def exec (i : Instr) (s : State) : Host.Outcome State Fault Refusal :=
  match i with
  | .powerOnReset => Sys2Proof.Machine.execPowerOnReset s
  | .resetPin => Sys2Proof.Machine.execResetPin s
  | .bitError t key word bit => Sys2Proof.Machine.execBitError t key word bit s
  | .statusByte n => Sys2Proof.Machine.execStatusByte n s
  | .request bs => Sys2Proof.Machine.execRequest bs s
  | .fetch n => Sys2Proof.Machine.execFetch n s
  | .look => Sys2Proof.Machine.execLook s
  | .lookNext => Sys2Proof.Machine.execLookNext s
  | .enrol => Sys2Proof.Machine.execEnrol s
  | .amend => Sys2Proof.Machine.execAmend s
  | .retire => Sys2Proof.Machine.execRetire s
  | .restore => Sys2Proof.Machine.execRestore s
  | .stepOrders => Sys2Proof.Machine.execStepOrders s
  | .breakTow => Sys2Proof.Machine.execBreakTow s
  | .remake => Sys2Proof.Machine.execRemake s
  | .sweep => Sys2Proof.Machine.execSweep s
  | .transferGo => Sys2Proof.Machine.execTransferGo s
  | .stopAtGap => Sys2Proof.Machine.execStopAtGap s
  | .continueTransfer => Sys2Proof.Machine.execContinueTransfer s
  | .confirm => Sys2Proof.Machine.execConfirm s
  | .abortTransfer => Sys2Proof.Machine.execAbortTransfer s
  | .receive => Sys2Proof.Machine.execReceive s
  | .sound => Sys2Proof.Machine.execSound s
  | .notices => Sys2Proof.Machine.execNotices s
  | .acknowledge => Sys2Proof.Machine.execAcknowledge s
  | .mask => Sys2Proof.Machine.execMask s
  | .endOfNotice => Sys2Proof.Machine.execEndOfNotice s
  | .resetLinks => Sys2Proof.Machine.execResetLinks s
  | .clearStore => Sys2Proof.Machine.execClearStore s
  | .silenceTimerExpiry => Sys2Proof.Machine.execSilenceTimerExpiry s
  | .consoleSilence => Sys2Proof.Machine.execConsoleSilence s
  | .holdExpiry => Sys2Proof.Machine.execHoldExpiry s
  | .patrolTimerExpiry => Sys2Proof.Machine.execPatrolTimerExpiry s
  | .patrolVisit => Sys2Proof.Machine.execPatrolVisit s
  | .statusCall => Sys2Proof.Machine.execStatusCall s
  | .statusReply r => Sys2Proof.Machine.execStatusReply r s
  | .towReplyTimeout => Sys2Proof.Machine.execTowReplyTimeout s
  | .postingTransaction => Sys2Proof.Machine.execPostingTransaction s
  | .readyEnquiry => Sys2Proof.Machine.execReadyEnquiry s
  | .command => Sys2Proof.Machine.execCommand s
  | .accept r => Sys2Proof.Machine.execAccept r s
  | .defer r => Sys2Proof.Machine.execDefer r s
  | .deliveryTransaction => Sys2Proof.Machine.execDeliveryTransaction s
  | .winchFaultTransaction => Sys2Proof.Machine.execWinchFaultTransaction s
  | .presenceCall => Sys2Proof.Machine.execPresenceCall s
  | .presenceReply r => Sys2Proof.Machine.execPresenceReply r s
  | .dropTransaction => Sys2Proof.Machine.execDropTransaction s
  | .lineRate => Sys2Proof.Machine.execLineRate s
  | .cycleTimerExpiry => Sys2Proof.Machine.execCycleTimerExpiry s
  | .cycleComputation => Sys2Proof.Machine.execCycleComputation s
  | .cycleStart => Sys2Proof.Machine.execCycleStart s
  | .output => Sys2Proof.Machine.execOutput s
  | .parameters => Sys2Proof.Machine.execParameters s
  | .configuration => Sys2Proof.Machine.execConfiguration s
  | .input r => Sys2Proof.Machine.execInput r s
  | .paramOk r => Sys2Proof.Machine.execParamOk r s
  | .paramFault r => Sys2Proof.Machine.execParamFault r s
  | .configurationReply r => Sys2Proof.Machine.execConfigurationReply r s
  | .machineryReplyTimeout => Sys2Proof.Machine.execMachineryReplyTimeout s
  | .machineryPosting => Sys2Proof.Machine.execMachineryPosting s
  | .fuelConversion => Sys2Proof.Machine.execFuelConversion s
  | .unknownRequestCode => Sys2Proof.Machine.execUnknownRequestCode s

end Sys2Proof.Machine
end

