-- ==== Sys2Proof/Machine/Step.lean ====
section
/-! DEFINITION. One step: the command at the front of the queue is taken, or the clock ticks (log 2). -/
namespace Sys2Proof.Machine

/-- The command of a timer that has run for its time. -/
def dueAt (clock start period : Nat) (c : Instr) : List Instr := if start + period ≤ clock then [c] else []

/-- R15, R33, R36, R99: the expiries of the part's timers that are due. -/
def State.due (s : State) : List Instr :=
  (match s.console.silence with
    | none => []
    | some t => dueAt s.clock t.start t.period .silenceTimerExpiry) ++
  (match s.notices.hold with
    | none => []
    | some t => dueAt s.clock t Config.holdUs .holdExpiry) ++
  dueAt s.clock s.patrol.start Config.patrolIntervalUs .patrolTimerExpiry ++
  dueAt s.clock s.link.timer.start s.link.timer.period .cycleTimerExpiry

/-- Log 2: with no command waiting, 1 µs passes, and the expiries of timers that are then due join the queue. -/
def State.tick (s : State) : State :=
  let t := { s with clock := s.clock + 1 }
  { t with pending := t.due }

/-- One step: the front command runs on the state with the queue's rest; an empty queue lets the clock tick. -/
def step (s : State) : Host.Outcome State Fault Refusal :=
  match s.pending with
  | [] => .next s.tick
  | c :: rest => exec c { s with pending := rest }

/-- The state with the command that a word spells at the front of its queue; unchanged when the word spells none. -/
def State.withFetchWord (s : State) (nbits w : Nat) : State :=
  match decodeTableWord nbits w with
  | none => s
  | some c => { s with pending := c :: s.pending }

end Sys2Proof.Machine
end

