-- ==== Sys2Proof/Safety.lean ====
section
/-! DEFINITION. What claims about the part are stated in: when a request is taken, what its end leaves, and the laws
that every step keeps. -/
namespace Sys2Proof.Machine

/-! ## The terms of single commands -/

/-- R11: no word of the record holds a bad bit, unless it is damaged. -/
def Header.errorFree (h : Header) : Bool := h.damaged || h.bad == []

/-- R11: no word of an undamaged record holds a bad bit, so no read finds a new error. Damaged records stand with the
bad bits that made them so (R12). -/
def State.errorFree (s : State) : Bool :=
  (s.barges.all (·.header.errorFree)) && (s.couplings.all (·.header.errorFree)) &&
    (s.engines.all (·.header.errorFree)) && (s.rudders.all (·.header.errorFree)) &&
    (s.tanks.all (·.header.errorFree)) && s.transfers.all (·.header.errorFree)

/-- R23: the store is granted to the Console Port for the request `q`, with `qs` behind it. -/
abbrev State.serves (s : State) (q : Request) (qs : List Request) : Prop :=
  s.granted .console = true ∧ s.console.askedSilence = false ∧ s.console.requests = q :: qs

/-! ### Bytes of requests and responses (R188, R189, section 12.1) -/

/-- R188, R189: the signed figure that 1, 2, 4 or 8 bytes carry in two's complement, most significant byte first. -/
def signedFigure : List Byte → Int
  | [a] => a.toInt
  | [a, b] => (a ++ b).toInt
  | [a, b, c, d] => (a ++ b ++ c ++ d).toInt
  | [a, b, c, d, e, f, g, h] => (a ++ b ++ c ++ d ++ e ++ f ++ g ++ h).toInt
  | _ => 0

/-- R189: the bytes after the table code are items, each a field number, a length of 1, 2, 4 or 8, and a value of that
many bytes; `raw` holds the field numbers and the values. -/
abbrev Request.holdsItems (q : Request) (raw : List (Byte × List Byte)) : Prop :=
  (∀ p ∈ raw, p.2.length ∈ [1, 2, 4, 8]) ∧ q.body = raw.flatMap fun p => p.1 :: byte p.2.length :: p.2

/-- R189: a response item: field number, length, and the value most significant byte first, at its fixed length or in
the shortest of 1, 2, 4 and 8 bytes that holds it. -/
def ResponseItem.frame (i : ResponseItem) : List Byte :=
  let holds (w : Nat) : Bool := decide (-(2 ^ (8 * w - 1) : Int) ≤ i.value ∧ i.value < 2 ^ (8 * w - 1))
  let width : Nat := i.width.getD (([1, 2, 4].find? holds).getD 8)
  byte i.field :: byte width :: (List.range width).map fun k => BitVec.ofInt 8 (i.value / 256 ^ (width - 1 - k))

/-- R23, section 12.1: a response as bytes: 0x5A, the number of bytes that follow, tag, request code, result code, and
then the field of BAD_FIELD or the items. -/
def Response.frame (r : Response) : List Byte :=
  let code : Byte := match r.result with
    | .done => 0x00
    | .doneClamped => 0x01
    | .noRecord => 0x10
    | .duplicate => 0x11
    | .full => 0x12
    | .inUse => 0x13
    | .wrongState => 0x14
    | .badField _ => 0x15
    | .addressInUse => 0x16
    | .damaged => 0x17
    | .badRequest => 0x1F
  let rest : List Byte := match r.result with
    | .badField f => [byte f]
    | _ => r.items.flatMap ResponseItem.frame
  [0x5A, byte (rest.length + 3), r.tag, r.code, code] ++ rest

/-- R26, R189: the request carries this code, this table code and these items, each read from its frame. -/
abbrev Request.carries (q : Request) (code table : Byte) (items : List Item) : Prop :=
  q.code = code ∧ q.table = table ∧ q.items? = some items

/-- R23: the end of a request transaction that has left the records as in `after`: the request leaves, its response
joins, and the blocks ask for what they want next. -/
def State.answered (s : State) (q : Request) (qs : List Request) (r : Result) (items : List ResponseItem)
    (after : State) : State :=
  settle { after with
    arbiter := s.arbiter.grant .console
    console := { after.console with
      requests := qs
      responses := after.console.responses ++ [{ tag := q.tag, code := q.code, result := r, items := items }] } }

/-- R9, R10: the end of another requester's transaction that has left the records as in `after`. -/
def State.ended (s : State) (r : Requester) (after : State) : State :=
  settle { after with arbiter := s.arbiter.grant r }

/-- R23, section 12.1: the request code of each request command. -/
def requestCodeOf : Instr → Option Byte
  | .look => some 0x01
  | .lookNext => some 0x02
  | .enrol => some 0x03
  | .amend => some 0x04
  | .retire => some 0x05
  | .restore => some 0x06
  | .stepOrders => some 0x10
  | .breakTow => some 0x11
  | .remake => some 0x12
  | .sweep => some 0x13
  | .transferGo => some 0x20
  | .stopAtGap => some 0x21
  | .continueTransfer => some 0x22
  | .confirm => some 0x23
  | .abortTransfer => some 0x24
  | .receive => some 0x25
  | .sound => some 0x26
  | .notices => some 0x30
  | .acknowledge => some 0x31
  | .mask => some 0x32
  | .endOfNotice => some 0x33
  | .resetLinks => some 0x40
  | .clearStore => some 0x41
  | .powerOnReset => none
  | .resetPin => none
  | .bitError _ _ _ _ => none
  | .statusByte _ => none
  | .request _ => none
  | .fetch _ => none
  | .silenceTimerExpiry => none
  | .consoleSilence => none
  | .holdExpiry => none
  | .patrolTimerExpiry => none
  | .patrolVisit => none
  | .statusCall => none
  | .statusReply _ => none
  | .towReplyTimeout => none
  | .postingTransaction => none
  | .readyEnquiry => none
  | .command => none
  | .accept _ => none
  | .defer _ => none
  | .deliveryTransaction => none
  | .winchFaultTransaction => none
  | .presenceCall => none
  | .presenceReply _ => none
  | .dropTransaction => none
  | .lineRate => none
  | .cycleTimerExpiry => none
  | .cycleComputation => none
  | .cycleStart => none
  | .output => none
  | .parameters => none
  | .configuration => none
  | .input _ => none
  | .paramOk _ => none
  | .paramFault _ => none
  | .configurationReply _ => none
  | .machineryReplyTimeout => none
  | .machineryPosting => none
  | .fuelConversion => none
  | .unknownRequestCode => none

/-- R83: a coupling after tend order RELEASE. -/
def Coupling.givenRelease (c : Coupling) : Coupling :=
  match c.state with
  | .settling => { c with state := .releasing, tendOrder := .release, debounce := none, slackTimer := none }
  | .made => { c with state := .releasing, tendOrder := .release, debounce := none, slackTimer := none }
  | .slack => { c with state := .releasing, tendOrder := .release, debounce := none, slackTimer := none }
  | .strained => { c with state := .releasing, tendOrder := .release, debounce := none, slackTimer := none }
  | .overload => { c with state := .releasing, tendOrder := .release, debounce := none, slackTimer := none }
  | .releasing => c
  | .lost => { c with tendOrder := .release }
  | .unlashed => if c.tendOrder = .make then { c with tendOrder := .none } else c

/-- R84: a coupling after tend order MAKE, given when the clock stood at `clock`. -/
def Coupling.givenMake (c : Coupling) (clock : Nat) : Coupling :=
  let followed : Coupling :=
    if c.seated = some true then { c with state := .settling, tendOrder := .make, debounce := some clock }
    else { c with state := .unlashed, tendOrder := .make }
  match c.state with
  | .unlashed => followed
  | .lost => followed
  | .releasing => followed
  | .settling => { c with tendOrder := .make }
  | .slack => c
  | .made => c
  | .strained => c
  | .overload => c

/-- R98: a station context as it is created: OFFLINE, with no miss, no baseline, residual 0 and its retry timer due. -/
def Context.created (address : Nat) (kind : StationKind) (key : Nat) (p : Parameters) : Context :=
  { address := address, kind := kind, key := key, state := .offline, misses := 0, baseline := none, residual := 0,
    lastTemperature := none, retry := none, parameters := p }

/-- R98, R100, R102: the machinery link without the context at an address: its results and its slot have gone with it,
and the result of an exchange under way with it is to be discarded. -/
def MachineryLink.without (l : MachineryLink) (address : Nat) : MachineryLink :=
  { l with
    contexts := l.contexts.filter (·.address != address)
    results := l.results.filter (·.address != address)
    exchange := l.exchange.map fun e => { e with stale := e.stale || e.address == address }
    cycle := l.cycle.map fun c => { c with slots := c.slots.filter (· != address) } }

/-- R105: the state of a context after its admission restarts. -/
def ContextState.restarted : ContextState → ContextState
  | .exchange => .parameterize
  | .configure => .parameterize
  | .parameterize => .parameterize
  | .offline => .offline
  | .rejected => .offline

/-- R105: the machinery link after a parameter field of the record behind the context `c` is given. -/
def MachineryLink.restarted (l : MachineryLink) (c : Context) (p : Parameters) (clock : Nat) : MachineryLink :=
  let begun : Bool := c.state == .exchange || c.state == .configure
  let kept : Bool := c.state == .parameterize || c.state == .offline
  let outdated (address : Nat) (held : ContextState) : Bool :=
    kept && address == c.address && (held == .parameterize || held == .offline)
  { l with
    contexts := update (·.address == c.address) (fun d => { d with
      state := c.state.restarted, parameters := p, retry := if begun then some clock else d.retry }) l.contexts
    results := l.results.map fun r => { r with stale := r.stale || outdated r.address r.held }
    exchange := l.exchange.map fun e => { e with stale := e.stale || outdated e.address e.held } }

/-- R109: a rudder channel, damaged or not, whose state is written; its word is renewed (R11, log 3). -/
def Rudder.inState (r : Rudder) (new : UnitState) : Rudder := Rudder.renew { r with state := new } [13]

/-- R105, R109: a rudder channel after its servo's admission restarts from a state. -/
def Rudder.restarted (r : Rudder) (held : ContextState) : Rudder :=
  match held with
  | .exchange => { r with allowed := 0, sent := 0, feedback := none, state := .admitting }
  | .configure => { r with state := .admitting }
  | .parameterize => r
  | .offline => r
  | .rejected => { r with state := .offline }

/-- R129, R145, R109: an engine that leaves RUNNING, damaged or not; the words written are renewed (R11, log 3). -/
def Engine.stopped (e : Engine) (new : UnitState) : Engine :=
  Engine.renew { e with allowed := 0, sent := 0, delivered := none, alarm := false, zeroTime := 0, state := new }
    [11, 12, 13, 14, 15, 17]

/-- R109, R144: an engine, damaged or not, whose state is written; its word is renewed (R11, log 3). -/
def Engine.inState (e : Engine) (new : UnitState) : Engine := Engine.renew { e with state := new } [15]

/-- R105, R109: an engine after its governor's admission restarts from a state. -/
def Engine.restarted (e : Engine) (held : ContextState) : Engine :=
  match held with
  | .exchange => e.stopped .admitting
  | .configure => { e with state := .admitting }
  | .parameterize => e
  | .offline => e
  | .rejected => { e with state := .offline }

/-- R105, R109, R140: the state that a rewritten engine or channel takes from its context's state before the restart. -/
def ContextState.unitRestarted : ContextState → UnitState
  | .exchange => .admitting
  | .configure => .admitting
  | .parameterize => .admitting
  | .offline => .offline
  | .rejected => .offline

/-- R105, R109: the machinery link and the reading list after a parameter field of the record behind the context `c` is
given. A meter or a pump that leaves EXCHANGE loses its baseline and the readings handed over. -/
def State.readmitted (s : State) (c : Context) (p : Parameters) : State :=
  let l := s.link.restarted c p s.clock
  if c.state = .exchange ∧ (c.kind = .meter ∨ c.kind = .pump) then
    { s with
      link := { l with
        contexts := update (·.address == c.address) (fun d => { d with baseline := none, lastTemperature := none })
          l.contexts }
      readings := s.readings.filter (·.address != c.address) }
  else { s with link := l }

/-- R98, R154: the machinery link and the reading list without the context at an address. -/
def State.withoutContext (s : State) (address : Nat) : State :=
  { s with link := s.link.without address, readings := s.readings.filter (·.address != address) }

/-- R98: a context of a kind serves a record: it stands at the address, alone, and names the record. -/
abbrev State.servedBy (s : State) (c : Context) (kind : StationKind) (key : Nat) : Prop :=
  (s.link.contexts.map (·.address)).Nodup ∧ s.context? c.address = some c ∧ c.kind = kind ∧ c.key = key

/-- R56, R69, R144: the end of a transaction that leaves the state `s` and has changed the member that an address is
bound to. A node listed there has its slots emptied, and a delivery under way with it acts on nothing any longer; engine
5, where it is REJECTED and no listed node of kind WINCH is bound to its bow barge, is OFFLINE. -/
def State.reboundAt (s : State) (address : Nat) : State :=
  let kept {α : Type} (a : Nat) (l : List α) : List α := if a = address then [] else l
  let winchAtBow : Bool := match s.bowBarge? with
    | none => false
    | some h => s.tow.nodes.any fun n => !n.bow && s.bound n.address == some (.barge h)
  if s.tow.nodes.any (·.address == address) then
    { s with
      tow := { s.tow with
        nodes := update (·.address == address) (fun n => { n with slots := n.slots.map fun _ => none }) s.tow.nodes
        phase := match s.tow.phase with
          | .enquiry a carried => .enquiry a (kept a carried)
          | .commanding a carried => .commanding a (kept a carried)
          | .delivering a accepted => .delivering a (kept a accepted)
          | .ready => .ready
          | .statusCall a => .statusCall a
          | .posting a r b => .posting a r b
          | .dropping a => .dropping a
          | .enquiryDue a => .enquiryDue a
          | .commandDue a => .commandDue a
          | .faulting => .faulting
          | .presence a => .presence a }
      engines := if winchAtBow then s.engines
        else update (fun e => e.number == 5 && e.state == .rejected) (·.inState .offline) s.engines }
  else s

/-- R152, R153: a tank after a draw: it gives what it holds, the rest is shortfall, and its low flag is evaluated. -/
def Tank.afterDraw (t : Tank) (amount : Nat) : Tank :=
  { t with
    content := t.content - amount, drawn := t.drawn + amount, shortfall := t.shortfall + (amount - t.content)
    low := decide (t.content - amount < t.lowMark * 1000) }

/-- R153: the notices after a debit of `amount`: FUEL when the low flag passes to set, and once more when a tank that
held something runs dry of it. -/
def NoticeUnit.afterDebit (n : NoticeUnit) (before after : Tank) (amount : Nat) : NoticeUnit :=
  let first := if after.low && !before.low then n.raise .fuel else n
  if 0 < before.content ∧ before.content < amount then first.raise .fuel else first

/-- R61: the state after a command is written into slot `k` of a node, with failure count 0. -/
def State.placed (s : State) (n : Node) (k : Nat) (command : WinchCommand) : State :=
  let slot : Slot := { command := command, stamp := s.tow.stamps, failures := 0 }
  { s with tow := { s.tow with
    nodes := update (·.address == n.address) (fun d => { d with slots := d.slots.set (k - 1) (some slot) }) s.tow.nodes
    stamps := s.tow.stamps + 1 } }

/-- R6, R7: the policy fields whose AMEND meets no further condition: number, range, and the field written. -/
def policyFields : List (Nat × Nat × Nat × (Policy → Nat → Policy)) :=
  [(1, 100, 5000, fun p v => { p with boatMass := v }), (2, 100, 4000, fun p v => { p with aheadFactor := v }),
    (3, 100, 1000, fun p v => { p with asternFactor := v }), (4, 100, 2000, fun p v => { p with flankFactor := v }),
    (5, 1000, 1000000, fun p v => { p with slewConstant := v }),
    (6, 0, 10000, fun p v => { p with reversalDwell := v }),
    (7, 10, 100, fun p v => { p with machineryCycle := v }), (8, 0, 300, fun p v => { p with breakLimit := v }),
    (9, 0, 300, fun p v => { p with slackLimit := v }), (10, 500, 30000, fun p v => { p with slackTime := v }),
    (11, 500, 950, fun p v => { p with strainLimit := v }), (12, 50, 500, fun p v => { p with makeUpTension := v }),
    (13, 100, 5000, fun p v => { p with debounceTime := v }), (17, 0, 200, fun p v => { p with expansion := v }),
    (18, 0, 5000, fun p v => { p with overfillMargin := v })]

/-! ## What LOOK returns, field by field (R28, section 12.1) -/

/-- R4, R28: one item for each field that is present, in the order listed. -/
def present (fields : List (Nat × Option Int)) : List ResponseItem :=
  fields.filterMap fun f => f.2.map fun v => { field := f.1, value := v, width := none }

/-- R188: a flag is carried as 1 for yes and 0 for no. -/
def yesNo (b : Bool) : Option Int := some (if b then 1 else 0)

/-- A figure that every record holds. -/
def count (n : Nat) : Option Int := some n

/-- An optional figure. -/
def figure (o : Option Nat) : Option Int := o.map fun n => (n : Int)

/-- Section 12.1: the code of a value, its place in the row of codes that begins with `first`. -/
def codeFrom {α : Type} [BEq α] (first : Nat) (row : List α) (a : α) : Option Int := some (first + row.idxOf a : Nat)

/-- Section 12.1: BOAT is 0, otherwise the hull number. -/
def memberCode : Member → Int
  | .boat => 0
  | .barge h => h

/-- Section 12.1: the codes of an engine's and a rudder channel's state. -/
def unitCode (u : UnitState) : Option Int := codeFrom 0 [.offline, .admitting, .running, .rejected] u

/-- R39, R40. -/
def State.bargeShown (s : State) (b : Barge) : List ResponseItem :=
  let place : Nat := (s.barges.map (·.hull)).idxOf b.hull + 1
  let string : Nat := (s.strings.filter (· < place)).length + 1
  present [(1, count b.hull), (2, count string), (3, count (place - s.entry (string - 1))), (4, count b.laden),
    (5, count b.draft), (6, figure b.node), (7, yesNo b.bowFitted), (8, yesNo b.header.damaged)]

/-- R73. -/
def Coupling.shown (c : Coupling) : List ResponseItem :=
  let winch : Option (Member × Nat) := match c.tending with | .hand => none | .winch m k => some (m, k)
  present [(1, count c.number), (2, codeFrom 1 [.face, .long, .breast] c.kind), (3, some (memberCode c.endA)),
    (4, count c.endB), (5, yesNo winch.isSome), (6, winch.map fun w => memberCode w.1), (7, figure (winch.map (·.2))),
    (8, count c.rated), (9, if winch.isSome then codeFrom 0 [.none, .make, .release] c.tendOrder else none),
    (10, if winch.isSome then none else yesNo c.declaredMade),
    (11, codeFrom 0 [.unlashed, .settling, .made, .slack, .strained, .overload, .lost, .releasing] c.state),
    (12, figure c.tension), (13, c.seated.bind yesNo), (14, yesNo c.winchFault), (15, yesNo c.crossing),
    (16, yesNo c.header.damaged)]

/-- R112. -/
def Engine.shown (e : Engine) : List ResponseItem :=
  let main (n : Nat) : Option Int := if e.number = 5 then none else count n
  present [(1, count e.number), (2, figure e.station), (3, figure e.bowBarge), (4, count e.rated),
    (5, figure e.meter), (6, figure e.meterFactor), (7, figure e.supply), (8, e.staged), (9, e.next), (10, e.live),
    (11, e.allowed), (12, e.sent), (13, e.delivered), (14, yesNo e.alarm), (15, unitCode e.state),
    (16, codeFrom 0 [.none, .ahead, .astern] e.lastDirection), (17, count e.zeroTime), (18, main e.consumed),
    (19, main e.undebited), (20, yesNo e.header.damaged)]

/-- R134. -/
def Rudder.shown (r : Rudder) : List ResponseItem :=
  present [(1, count r.channel), (2, codeFrom 1 [.steering, .flanking] r.kind), (3, count r.shaft),
    (4, count r.station), (5, count r.limit), (6, count r.rate), (7, r.staged), (8, r.next), (9, r.live),
    (10, r.allowed), (11, r.sent), (12, r.feedback), (13, unitCode r.state), (14, yesNo r.header.damaged)]

/-- R148. -/
def Tank.shown (t : Tank) : List ResponseItem :=
  present [(1, count t.number), (2, codeFrom 1 [.storage, .day] t.kind), (3, count t.capacity), (4, count t.lowMark),
    (5, figure t.gauge), (6, count t.content), (7, count t.opening), (8, count t.received),
    (9, count t.transferredIn), (10, count t.transferredOut), (11, count t.drawn), (12, t.adjustments),
    (13, count t.shortfall), (14, yesNo t.low), (15, figure t.gauged), (16, yesNo t.header.damaged)]

/-- R165. -/
def Transfer.shown (t : Transfer) : List ResponseItem :=
  let figures (code : Nat) (reason ending cause : Option Int) : List (Nat × Option Int) :=
    [(14, count code), (15, reason), (16, ending), (17, yesNo t.gapRequest),
      (18, if t.pendingAbort then some 2 else none), (19, cause)]
  present ([(1, count t.number), (2, count t.pump), (3, count t.factor), (4, count t.source), (5, count t.destination),
    (6, count t.batchVolume), (7, codeFrom 1 [.single, .counted, .opened] t.mode), (8, figure t.batchCount),
    (9, count t.interval), (10, count t.batchesDone), (11, count t.batchMoved), (12, count t.totalMoved),
    (13, count t.heldVolume)] ++ (match t.state with
      | .idle => figures 0 none none none
      | .running => figures 1 none none none
      | .stopping c => figures 2 none none
        (codeFrom 1 [.batchEnd, .checkpoint, .sourceLow, .destFull, .tankDamaged, .aborted] c)
      | .held r => figures 3
        (codeFrom 1 [.gapRequest, .checkpoint, .sourceLow, .destFull, .pumpLost, .tankDamaged] r) none none
      | .ended r => figures 4 none (codeFrom 1 [.complete, .aborted] r) none) ++
    [(20, figure t.mark), (21, yesNo t.header.damaged)])

/-- R28: what LOOK returns of a record of a store table. -/
def State.shown (s : State) (t : Tbl) (key : Nat) : List ResponseItem :=
  match t with
  | .barges => ((s.barge? key).map s.bargeShown).getD []
  | .couplings => ((s.coupling? key).map Coupling.shown).getD []
  | .engines => ((s.engine? key).map Engine.shown).getD []
  | .rudders => ((s.rudder? key).map Rudder.shown).getD []
  | .tanks => ((s.tank? key).map Tank.shown).getD []
  | .transfers => ((s.transfer? key).map Transfer.shown).getD []

/-- R6, section 12.1. -/
def Policy.shown (p : Policy) : List ResponseItem :=
  present [(1, count p.boatMass), (2, count p.aheadFactor), (3, count p.asternFactor), (4, count p.flankFactor),
    (5, count p.slewConstant), (6, count p.reversalDwell), (7, count p.machineryCycle), (8, count p.breakLimit),
    (9, count p.slackLimit), (10, count p.slackTime), (11, count p.strainLimit), (12, count p.makeUpTension),
    (13, count p.debounceTime), (14, count p.towLineRate), (15, count p.boatNode), (16, count p.consoleSilence),
    (17, count p.expansion), (18, count p.overfillMargin)]

/-- R179. -/
def Lockage.shown (l : Lockage) : List ResponseItem :=
  present [(1, codeFrom 0 [.whole, .breaking, .split, .remaking] l.phase), (2, figure l.breaks[0]?),
    (3, figure l.breaks[1]?), (4, figure l.breaks[2]?),
    (5, match l.boatCut with | .none => some 0 | .cut k => count k | .conflict => some 15), (6, count l.remaining)]

/-- R8, section 12.1. -/
def TowStatus.shown (u : TowStatus) : List ResponseItem :=
  present [(1, count u.cycleCount), (2, count u.stepNumber), (3, yesNo u.stepWaiting), (4, count u.superseded),
    (5, count u.overruns), (6, count u.corrected), (7, count u.damagedEvents), (8, count u.unpostedReadings),
    (9, count u.unpostedPulses), (10, count u.silenceEvents), (11, count u.turnedAway), (12, count u.faceSum),
    (13, count u.longSum), (14, count u.breastSum), (15, count u.limitAhead), (16, count u.limitAstern),
    (17, count u.limitFlank), (18, count u.limitBow), (19, count u.towMass), (20, yesNo u.limiting)]

/-- R55, R56, R188: a node-list entry. Its command slots are 4-byte items, one for each winch. -/
def State.nodeShown (s : State) (n : Node) : List ResponseItem :=
  let slot (command : Option Slot) : Int := match command with
    | none => 0
    | some c => (match c.command with
      | .heave t => 1 * 16777216 + t * 256
      | .ease t => 2 * 16777216 + t * 256
      | .payOut => 3 * 16777216
      | .hold => 4 * 16777216
      | .stop => 5 * 16777216 : Nat) + (c.failures : Int)
  present [(1, count n.address),
      (2, if n.bow then some 3 else if s.bound n.address = some .boat then some 2 else some 1), (3, count n.winches),
      (4, if n.missing then some 2 else some 1), (5, count n.misses)] ++
    (n.slots.zipIdx.map fun p => { field := 6 + p.2, value := slot p.1, width := some 4 }) ++
    present [(10, (s.bound n.address).map memberCode)]

/-- R97. -/
def Context.shown (c : Context) : List ResponseItem :=
  let metered (v : Option Int) : Option Int := if c.kind = .meter ∨ c.kind = .pump then v else none
  present [(1, count c.address), (2, codeFrom 1 [.engine, .rudder, .meter, .pump, .gauge] c.kind),
    (3, match c.kind with
      | .engine => some 4
      | .rudder => some 5
      | .meter => some 4
      | .pump => some 7
      | .gauge => some 6),
    (4, count c.key), (5, codeFrom 0 [.offline, .parameterize, .configure, .exchange, .rejected] c.state),
    (6, count c.misses), (7, metered (figure c.baseline)), (8, metered (count c.residual)),
    (9, metered c.lastTemperature)]

/-! ## The Patrol's round -/

/-- R16: the place of a table in the Patrol's round. -/
def turnOf : Tbl → Nat
  | .barges => 0
  | .couplings => 1
  | .engines => 2
  | .rudders => 3
  | .tanks => 4
  | .transfers => 5

/-- R16: the undamaged records in the order of the round, as table, place and key. A barge's place is its place in tow
order, and the place in another table is the key (log 10). -/
def State.soundRound (s : State) : List (Tbl × Nat × Nat) :=
  let round : List ((Tbl × Nat × Nat) × Header) :=
    (s.barges.zipIdx.map fun p => ((.barges, p.2 + 1, p.1.hull), p.1.header)) ++
      (s.couplings.map fun r => ((.couplings, r.number, r.number), r.header)) ++
      (s.engines.map fun r => ((.engines, r.number, r.number), r.header)) ++
      (s.rudders.map fun r => ((.rudders, r.channel, r.channel), r.header)) ++
      (s.tanks.map fun r => ((.tanks, r.number, r.number), r.header)) ++
      (s.transfers.map fun r => ((.transfers, r.number, r.number), r.header))
  (round.filter fun p => !p.2.damaged).map (·.1)

/-- R16: the undamaged records that come after the patrol position in the round. -/
def State.soundBehind (s : State) : List (Tbl × Nat × Nat) :=
  s.soundRound.filter fun p => match s.patrol.position with
    | none => true
    | some (t, place) => decide (turnOf t < turnOf p.1 ∨ t = p.1 ∧ place < p.2.1)

/-! ## Couplings -/

/-- R89, R92: a coupling after the loss of its node: its readings absent, and LOST unless it was UNLASHED. Into a
damaged one that is written at the first loss alone, which renews the words (R11, log 3). -/
def Coupling.nodeLost (c : Coupling) : Coupling :=
  if c.header.damaged then
    if c.dropSeen then c
    else Coupling.renew { c with state := .lost, tension := none, seated := none, dropSeen := true } [11, 12, 13]
  else if c.state = .unlashed ∨ c.state = .lost then { c with tension := none, seated := none }
  else { c with state := .lost, tension := none, seated := none, debounce := none, slackTimer := none }

/-- R80, R81: what a reading of tension `t` makes of a coupling in the MADE group, with the command that goes with the
entry to a state. Written for a phase in which no HEAVE is suppressed. -/
def Coupling.tensioned (c : Coupling) (p : Policy) (clock t : Nat) : Coupling × Option WinchCommand :=
  let strain : Nat := c.rated * p.strainLimit / 1000
  let slackFor (ms : Nat) : Bool := c.slackTimer.any fun start => decide (ms * 1000 ≤ clock - start)
  if c.rated ≤ t then
    ({ c with state := .overload, slackTimer := none }, if c.state = .overload then none else some (.ease strain))
  else if strain ≤ t then ({ c with state := .strained, slackTimer := none }, none)
  else if t < c.rated * p.slackLimit / 1000 then
    if c.state = .slack then (c, none)
    else if slackFor p.slackTime then
      ({ c with state := .slack, slackTimer := none }, some (.heave (c.rated * p.makeUpTension / 1000)))
    else ({ c with state := .made, slackTimer := some (c.slackTimer.getD clock) }, none)
  else ({ c with state := .made, slackTimer := none }, none)

/-- R79: the table of a reading, row by row: the coupling after a reading of tension `t` and of the seated level, with
the command placed for its winch. Written for a phase in which no HEAVE is suppressed. -/
def Coupling.posted (c : Coupling) (p : Policy) (clock t : Nat) (seated : Bool) : Coupling × Option WinchCommand :=
  let read : Coupling := { c with tension := some t, seated := some seated }
  let heave : WinchCommand := .heave (c.rated * p.makeUpTension / 1000)
  let settling : Coupling := { read with state := .settling, debounce := some clock }
  let loose (o : TendOrder) : Coupling := { read with state := .unlashed, tendOrder := o, debounce := none }
  let madeGroup : Coupling × Option WinchCommand :=
    if seated then read.tensioned p clock t
    else ({ read with state := .lost, debounce := none, slackTimer := none }, some .stop)
  match c.state with
  | .unlashed => (if seated then settling else read, none)
  | .settling =>
    if !seated then (loose c.tendOrder, none)
    else if c.debounce.any fun start => decide (p.debounceTime * 1000 ≤ clock - start) then
      Coupling.tensioned { read with
        state := .made, tendOrder := if c.tendOrder = .make then .none else c.tendOrder, debounce := none,
        slackTimer := none } p clock t
    else (read, none)
  | .made => madeGroup
  | .slack => madeGroup
  | .strained => madeGroup
  | .overload => madeGroup
  | .lost =>
    match c.tendOrder with
    | .none => (if seated then settling else read, none)
    | .release => if seated then ({ read with state := .releasing }, some .payOut) else (loose .none, none)
    | .make => (if seated then settling else { read with state := .unlashed }, some heave)
  | .releasing => (if seated then read else loose .none, none)

/-- R82: the coupling enters LOST, SLACK or OVERLOAD. -/
def Coupling.entersAlarm (before after : Coupling) : Bool :=
  before.state != after.state && (after.state == .lost || after.state == .slack || after.state == .overload)

/-- R186: some FACE coupling that presents MADE, SLACK or STRAINED holds the boat to the cut. -/
abbrev State.holdsTo (s : State) (k : Nat) : Prop :=
  ∃ c ∈ s.couplings, c.kind = .face ∧ c.header.damaged = false ∧
    (c.state = .made ∨ c.state = .slack ∨ c.state = .strained) ∧ s.cut? c.endB = some k

/-- R186: the boat cut is the one that the FACE couplings decide. -/
abbrev State.boatCutDecided (s : State) : Prop :=
  match s.lockage.boatCut with
  | .none => ∀ k, ¬s.holdsTo k
  | .cut k => s.holdsTo k ∧ ∀ j, s.holdsTo j → j = k
  | .conflict => ∃ j k, s.holdsTo j ∧ s.holdsTo k ∧ j ≠ k

/-- R186: the notices of `before`, raised `times` times for the phase and once more where the boat cut has passed to
CONFLICT. -/
def State.lockageNotices (before after : State) (times : Nat) : NoticeUnit :=
  let entered : Bool := after.lockage.boatCut == .conflict && before.lockage.boatCut != .conflict
  (List.replicate (if entered then times + 1 else times) Cause.lockage).foldl NoticeUnit.raise before.notices

/-! ## Laws that every step keeps -/

/-- R22, R23: the queues hold at most four, and a request waits for the store only with room for its response. -/
def State.portLaw (s : State) : Bool :=
  decide (s.console.requests.length ≤ Config.queuePlaces) && decide (s.console.responses.length ≤ Config.queuePlaces) &&
    (!(s.arbiter.console && !s.console.askedSilence) ||
      (s.console.requests != [] && decide (s.console.responses.length < Config.queuePlaces)))

/-- R41: each entry of the string boundary table is at least the one before it and at most 8 above it. -/
def boundaries : Nat → List Nat → Bool
  | _, [] => true
  | before, n :: ns => decide (before ≤ n) && decide (n - before ≤ Config.stringLength) && boundaries n ns

/-- R40, R41: the law of the barge table and the string boundary table. -/
def State.rosterLaw (s : State) : Bool :=
  decide (s.strings.length = Config.stringCount) && boundaries 0 s.strings &&
    s.strings.getLast? == some s.barges.length && decide (s.barges.length ≤ Config.bargeSlots) &&
    decide (s.barges.map (·.hull)).Nodup &&
    (s.barges.zipIdx.all fun p => p.1.string == s.stringAt (p.2 + 1))

/-- R4, R47: a node address is not 0, no two barges name the same one, and none names the boat node address. -/
def State.nodeLaw (s : State) : Bool :=
  decide (s.barges.filterMap (·.node)).Nodup &&
    s.barges.all fun b => b.node != some 0 && b.node != some s.policy.boatNode

/-- R181: ranks are strictly ascending, each above `before` and at most 7. -/
def ascendingRanks : Nat → List Nat → Bool
  | _, [] => true
  | before, n :: ns => decide (before < n) && decide (n ≤ 7) && ascendingRanks n ns

/-- R112: the fields that apply to the engine's number are present, and the others absent. -/
def Engine.shaped (e : Engine) : Bool :=
  if e.number == 5 then
    e.station.isNone && e.bowBarge.isSome && e.meter.isNone && e.meterFactor.isNone && e.supply.isNone
  else e.station.isSome && e.bowBarge.isNone && e.meterFactor.isSome == e.meter.isSome && e.supply.isSome

/-- R1, R112: keys are unique within a table, and engine records hold the fields that apply to them. -/
def State.recordLaw (s : State) : Bool :=
  decide (s.barges.map (·.hull)).Nodup && decide (s.couplings.map (·.number)).Nodup &&
    decide (s.engines.map (·.number)).Nodup && decide (s.rudders.map (·.channel)).Nodup &&
    decide (s.tanks.map (·.number)).Nodup && decide (s.transfers.map (·.number)).Nodup && s.engines.all Engine.shaped

/-- R179: the law of the lockage record. -/
def State.lockageLaw (s : State) : Bool :=
  let l := s.lockage
  ((l.phase == .whole) == (l.breaks == [])) && ascendingRanks 0 l.breaks && decide (l.breaks.length ≤ 3) &&
    (l.phase != .whole ||
      (l.boatCut == .none && l.remaining == 0 && s.couplings.all fun c => c.header.damaged || !c.crossing)) &&
    (l.phase != .split || l.remaining == 0)

/-- R112, R129: an order lies within -1000..+1000. -/
def orderInRange (o : Int) : Bool := decide (-1000 ≤ o) && decide (o ≤ 1000)

/-- R112, R129: the orders of every engine lie within -1000..+1000. -/
def State.orderLaw (s : State) : Bool :=
  s.engines.all fun e =>
    orderInRange e.staged && orderInRange e.next && orderInRange e.live && orderInRange e.allowed && orderInRange e.sent

/-- R126: the thrust that a main engine is sent in one direction, in kN. -/
def Engine.sentThrust (e : Engine) (ahead : Bool) : Nat :=
  if e.number != 5 && (if ahead then decide (0 < e.sent) else decide (e.sent < 0)) then
    e.sent.natAbs * e.rated / 1000
  else 0

/-- R126, R131: the main engines are sent no more thrust ahead than L_ahead and no more astern than L_astern, and a
damaged engine is sent none. -/
def State.thrustLaw (s : State) : Bool :=
  (s.engines.all fun e => !e.header.damaged || e.sent == 0) &&
    decide ((s.engines.map (·.sentThrust true)).sum ≤ s.status.limitAhead) &&
    decide ((s.engines.map (·.sentThrust false)).sum ≤ s.status.limitAstern)

/-- R152: the content of a tank is explained by its terms. -/
def Tank.balanced (t : Tank) : Bool :=
  (t.content : Int) ==
    (t.opening + t.received + t.transferredIn : Int) - t.transferredOut - t.drawn + t.adjustments + t.shortfall

/-- R152: every undamaged tank is balanced. -/
def State.tankLaw (s : State) : Bool := s.tanks.all fun t => t.header.damaged || t.balanced

/-- R167: a pump is commanded to run only while its transfer is RUNNING. -/
def State.pumpLaw (s : State) : Bool := s.transfers.all fun t => !t.pumpRun || t.state == .running

end Sys2Proof.Machine

/-- R54, R101, R190: the reply starts within `timeout` µs, carries `length` payload bytes, is sent to the part's
address `own` from the address called, and its check bytes are right for a frame of this kind. -/
abbrev Sys2Proof.LineReply.good (r : Sys2Proof.LineReply) (timeout own called kind length : Nat) : Prop :=
  r.delay ≤ timeout ∧ r.payload.length = length ∧ r.dest = Sys2Proof.byte own ∧ r.source = Sys2Proof.byte called ∧
    r.check = Sys2Proof.Machine.crc16 (Sys2Proof.Machine.frameHead r.dest r.source kind r.payload)
end

