-- ==== Sys2Proof/WellFormed.lean ====
section
/-! DEFINITION. Which terms of `Instr` are commands of the part.

Every command has a meaning in every state; these checks say which operands a real event can have. -/
namespace Sys2Proof

/-- R190: byte 4 of a frame is one byte, so a reply carries at most 255 payload bytes. -/
def LineReply.wf (r : LineReply) : Bool := r.payload.length ≤ 255

/-- The operands of the command are those of an event the manual gives.
* BIT_ERROR (R11) strikes one of the 39 bits of a word that records of the table have.
* STATUS_BYTE (R20) ends at or before the eighth clock.
* REQUEST (R20) is no FETCH: its first byte is not 0xC3.
* a reply's payload length is one byte. -/
def Instr.wf : Instr → Bool
  | .bitError t _ w b => (Machine.wordsOf t).contains w && decide (b < Config.wordBits)
  | .statusByte n => n ≤ 8
  | .request bs => bs.head? != some 0xC3
  | .statusReply r => r.wf
  | .accept r => r.wf
  | .defer r => r.wf
  | .presenceReply r => r.wf
  | .input r => r.wf
  | .paramOk r => r.wf
  | .paramFault r => r.wf
  | .configurationReply r => r.wf
  | .powerOnReset => true
  | .resetPin => true
  | .fetch _ => true
  | .look => true
  | .lookNext => true
  | .enrol => true
  | .amend => true
  | .retire => true
  | .restore => true
  | .stepOrders => true
  | .breakTow => true
  | .remake => true
  | .sweep => true
  | .transferGo => true
  | .stopAtGap => true
  | .continueTransfer => true
  | .confirm => true
  | .abortTransfer => true
  | .receive => true
  | .sound => true
  | .notices => true
  | .acknowledge => true
  | .mask => true
  | .endOfNotice => true
  | .resetLinks => true
  | .clearStore => true
  | .silenceTimerExpiry => true
  | .consoleSilence => true
  | .holdExpiry => true
  | .patrolTimerExpiry => true
  | .patrolVisit => true
  | .statusCall => true
  | .towReplyTimeout => true
  | .postingTransaction => true
  | .readyEnquiry => true
  | .command => true
  | .deliveryTransaction => true
  | .winchFaultTransaction => true
  | .presenceCall => true
  | .dropTransaction => true
  | .lineRate => true
  | .cycleTimerExpiry => true
  | .cycleComputation => true
  | .cycleStart => true
  | .output => true
  | .parameters => true
  | .configuration => true
  | .machineryReplyTimeout => true
  | .machineryPosting => true
  | .fuelConversion => true
  | .unknownRequestCode => true

end Sys2Proof
end

