-- ==== Sys2Proof/Certificates/Slice0/Obligations.lean ====
section
/-! DEFINITION. The statements for the provers. A request's frame is described by `Request.carries`, its grant by
`State.serves`, and the end of its transaction by `State.answered`; other transactions end by `State.ended`. -/
open Sys2Proof Sys2Proof.Machine

/-! ## The machine -/

/-- A step runs the command at the front of the queue on the state with the queue's rest. With an empty queue 1 µs
passes, and the expiries of the timers that are then due join the queue (the model's choice, log 2). -/
def Obligations.StepRunsTheFrontCommand : Prop :=
  (∀ (c : Instr) (rest : List Instr) (s : State),
    step { s with pending := c :: rest } = exec c { s with pending := rest }) ∧
  ∀ s : State, step { s with pending := [] } = .next { s with
    clock := s.clock + 1
    pending :=
      (match s.console.silence with
        | none => []
        | some t => if t.start + t.period ≤ s.clock + 1 then [.silenceTimerExpiry] else []) ++
      (match s.notices.hold with
        | none => []
        | some t => if t + 50 ≤ s.clock + 1 then [.holdExpiry] else []) ++
      (if s.patrol.start + 2000 ≤ s.clock + 1 then [.patrolTimerExpiry] else []) ++
      (if s.link.timer.start + s.link.timer.period ≤ s.clock + 1 then [.cycleTimerExpiry] else []) }

/-- R19, R188: the two resets leave the same state, whatever stood before: that of reset. That every command is taken
in every state, with a next state, is the model's choice (log 1, 32), and so is that no command touches the commands
still waiting, the resets included (log 1). -/
def Obligations.CommandsLeaveTheQueueAlone : Prop :=
  (∀ (c : Instr) (s : State), ∃ t, exec c s = .next t ∧ t.pending = s.pending) ∧
  ∀ s : State, exec .powerOnReset s = .next { State.reset with pending := s.pending } ∧
    exec .resetPin s = .next { State.reset with pending := s.pending }

/-- R10: while somebody waits somebody is picked, the requester picked waits, the Patrol is picked only when nobody
else waits, and a grant to another requester brings the pointer nearer to one of the five that waits, whoever asks
meanwhile. -/
def Obligations.ArbiterServesInTurn : Prop :=
  (∀ (a : Arbiter) (r : Requester), a.waits r = true → ∃ g, a.pick = some g) ∧
  (∀ (a : Arbiter) (g : Requester), a.pick = some g → a.waits g = true) ∧
  (∀ (a : Arbiter) (r : Requester), a.pick = some .patrol → a.waits r = true → r = .patrol) ∧
  ∀ (a : Arbiter) (r g : Requester), r ≠ .patrol → a.waits r = true → a.pick = some g → g ≠ r →
    (a.grant g).waits r = true ∧ (ring (a.grant g).pointer).idxOf r < (ring a.pointer).idxOf r

/-- R19: after power-on reset and the reset pin the store, the arbiter, the Patrol, the policy and the tow status
stand as stated, whatever stood before. -/
def Obligations.ResetStandsAsStated : Prop :=
  ∀ s : State, ∃ t, exec .powerOnReset s = .next t ∧ exec .resetPin s = .next t ∧
    t.barges = [] ∧ t.strings = [0, 0, 0, 0, 0, 0] ∧ t.couplings = [] ∧ t.engines = [] ∧ t.rudders = [] ∧
    t.tanks = [] ∧ t.transfers = [] ∧
    (∀ r, t.arbiter.waits r = false) ∧ t.arbiter.pointer = .console ∧
    t.patrol.position = none ∧ t.patrol.start = t.clock ∧
    t.policy =
      { boatMass := 1200, aheadFactor := 1500, asternFactor := 800, flankFactor := 1000, slewConstant := 100000,
        reversalDwell := 3000, machineryCycle := 20, breakLimit := 150, slackLimit := 50, slackTime := 5000,
        strainLimit := 800, makeUpTension := 150, debounceTime := 2000, towLineRate := 1536, boatNode := 0,
        consoleSilence := 0, expansion := 83, overfillMargin := 200 } ∧
    t.status =
      { cycleCount := 0, stepNumber := 0, stepWaiting := false, superseded := 0, overruns := 0, corrected := 0,
        damagedEvents := 0, unpostedReadings := 0, unpostedPulses := 0, silenceEvents := 0, turnedAway := 0,
        faceSum := 0, longSum := 0, breastSum := 0, limitAhead := 0, limitAstern := 0, limitFlank := 0,
        limitBow := 0, towMass := 0, limiting := false }

/-! ## Store words -/

/-- R11: a disturbance of a bit makes the bit bad and changes nothing else. That a bit already bad stays bad is the
model's choice (log 7). -/
def Obligations.BitErrorStrikesOneBit : Prop :=
  ∀ (t : Tbl) (key word bit : Nat) (s : State), (Instr.bitError t key word bit).wf = true →
    exec (.bitError t key word bit) s = .next (s.modHeader t key fun h =>
      if (word, bit) ∈ h.bad then h else { h with bad := h.bad ++ [(word, bit)] })

/-- R11, R12: a read of a word of an undamaged record delivers a word with no bad bit and changes nothing; corrects
and counts one with one bad bit, at each read anew; and finds the record damaged at two: flag, damaged events and
STORE. What follows is the table's: nothing for a barge; a coupling's timers stop and its winch is to HOLD (R92); an
engine's and a rudder channel's allowed and sent values are written 0, which renews their words (R131, R140); each
undamaged RUNNING transfer that names a tank passes to STOPPING with TANK_DAMAGED, its pump stopped, and TRANSFER, and
any other transfer is left as it stands (R176; stated where no undamaged transfer holds a bad bit); a transfer's pump is stopped
(R177). Which word holds a field is the model's choice (log 3). -/
def Obligations.ReadsCheckWords : Prop :=
  ∀ (x : Txn) (t : Tbl) (key word : Nat) (h : Header),
    x.st.header? t key = some h → h.damaged = false →
    ((∀ b, (word, b) ∉ h.bad) → x.read t key [word] = (x, true)) ∧
    (∀ b, (h.bad.filter fun p => p.1 == word) = [(word, b)] →
      x.read t key [word] =
        ({ x with
            st := { x.st with status := { x.st.status with corrected := min 65535 (x.st.status.corrected + 1) } } },
          true)) ∧
    (∀ b c, (h.bad.filter fun p => p.1 == word) = [(word, b), (word, c)] →
      let found : State := State.raise { x.st with
        status := { x.st.status with damagedEvents := min 65535 (x.st.status.damagedEvents + 1) } } .store
      let hurt (h : Header) : Header := { h with damaged := true }
      let rewritten (words : List Nat) (h : Header) : Header :=
        { damaged := true, bad := h.bad.filter fun p => !words.contains p.1 }
      (t = .barges → x.read t key [word] =
        ({ x with st := { found with
            barges := update (·.hull == key) (fun r => { r with header := hurt r.header }) x.st.barges } }, false)) ∧
      (∀ c, t = .couplings → x.st.coupling? key = some c → x.read t key [word] =
        ({ st := { found with couplings := update (·.number == key) (fun r => { r with
              debounce := none, slackTimer := none, dropSeen := false, header := hurt r.header }) x.st.couplings }
           commands := x.commands ++ (match c.tending with | .hand => [] | .winch m k => [(m, k, .hold)])
           touched := true }, false)) ∧
      (t = .engines → x.read t key [word] =
        ({ x with st := { found with engines := update (·.number == key) (fun r => { r with
            allowed := 0, sent := 0, header := rewritten [11, 12] r.header }) x.st.engines } }, false)) ∧
      (t = .rudders → x.read t key [word] =
        ({ x with st := { found with rudders := update (·.channel == key) (fun r => { r with
            allowed := 0, sent := 0, header := rewritten [10, 11] r.header }) x.st.rudders } }, false)) ∧
      (t = .tanks → x.st.recordLaw = true → (∀ tr ∈ x.st.transfers, tr.header.errorFree = true) →
        let stops (tr : Transfer) : Bool :=
          (tr.source == key || tr.destination == key) && !tr.header.damaged && tr.state == .running
        x.read t key [word] = ({ x with st := { found with
            tanks := update (·.number == key) (fun r => { r with header := hurt r.header }) x.st.tanks
            transfers := update stops
              (fun tr => { tr with state := .stopping .tankDamaged, pumpRun := false, quiet := 0 }) x.st.transfers
            notices := (x.st.transfers.filter stops).foldl (fun n _ => n.raise .transfer) found.notices } }, false)) ∧
      (t = .transfers → x.read t key [word] =
        ({ x with st := { found with transfers := update (·.number == key) (fun r => { r with
            pumpRun := false, header := hurt r.header }) x.st.transfers } }, false)))

/-! ## The Console Port -/

/-- R20, R21: a transaction of eight clocks shifts out free request slots, responses waiting, the notice line and the
overrun flag, and clears that flag; one that ends earlier shifts out no byte and clears nothing. -/
def Obligations.StatusByteShowsFourFigures : Prop :=
  ∀ s : State,
    exec (.statusByte 8) s = .next { s with console := { s.console with
      overrun := false
      spiOut := [byte ((4 - s.console.requests.length) * 32 + s.console.responses.length * 4 +
        (if s.notices.line then 2 else 0) + (if s.console.overrun then 1 else 0))] } } ∧
    ∀ n, n < 8 → exec (.statusByte n) s = .next { s with console := { s.console with spiOut := [] } }

/-- R22: a complete REQUEST joins the tail of a queue that holds fewer than four and restarts the silence timer;
with four held it is discarded and sets the overrun flag. Its contents are not examined. A REQUEST cut short, or
too short to hold a tag, a code and a table code, only clears the overrun flag that was shown (R20, R189). -/
def Obligations.RequestJoinsTheQueue : Prop :=
  ∀ s : State,
    let figures : Byte := byte ((4 - s.console.requests.length) * 32 + s.console.responses.length * 4 +
      (if s.notices.line then 2 else 0) + (if s.console.overrun then 1 else 0))
    let shown (filled : Nat) : State := { s with console := { s.console with
      overrun := false, spiOut := figures :: List.replicate filled 0 } }
    (∀ (tag code table : Byte) (body rest : List Byte) (n : Byte), n.toNat = body.length + 3 →
      let frame : List Byte := 0xA5 :: n :: tag :: code :: table :: (body ++ rest)
      let held := shown (body.length + rest.length + 5)
      (s.console.requests.length < 4 →
        exec (.request frame) s = .next (settle { held with console := { held.console with
          requests := s.console.requests ++ [{ tag := tag, code := code, table := table, body := body }]
          silence := if s.policy.consoleSilence = 0 then s.console.silence
            else some { start := s.clock, period := s.policy.consoleSilence * 1000000 } } })) ∧
      (4 ≤ s.console.requests.length →
        exec (.request frame) s = .next (settle { held with console := { held.console with overrun := true } }))) ∧
    ∀ (n : Byte) (short : List Byte), (n.toNat < 3 ∨ short.length < n.toNat) →
      exec (.request (0xA5 :: n :: short)) s = .next (shown (short.length + 2))

/-- R24: a FETCH shifts out the head response, which leaves the queue when its last byte has been shifted out and
stays whole otherwise; with no response it shifts out EMPTY. It restarts the silence timer in both cases. R23, R189: the
response's bytes are 0x5A, the number of bytes that follow, tag, request code, result code by the table of R23, and then
the one field byte of BAD_FIELD or the items, each a field number, a length and the value in two's complement, most
significant byte first, in the shortest of 1, 2, 4 and 8 bytes where it has no fixed length (`Response.frame`). R20 and
R24 give no byte for the FETCH byte itself and for the clocks after the response's last byte: the fill byte 0 there is
the model's choice (log 23). -/
def Obligations.FetchShiftsOutTheHeadResponse : Prop :=
  ∀ (s : State) (n : Nat),
    let figures : Byte := byte ((4 - s.console.requests.length) * 32 + s.console.responses.length * 4 +
      (if s.notices.line then 2 else 0) + (if s.console.overrun then 1 else 0))
    let shown (bytes : List Byte) (left : List Response) : State := settle { s with console := { s.console with
      overrun := false
      spiOut := figures :: 0 :: (bytes.take n ++ List.replicate (n - bytes.length) 0)
      responses := left
      silence := if s.policy.consoleSilence = 0 then s.console.silence
        else some { start := s.clock, period := s.policy.consoleSilence * 1000000 } } }
    (∀ r rs, s.console.responses = r :: rs →
      exec (.fetch n) s = .next (shown r.frame (if r.frame.length ≤ n then rs else r :: rs))) ∧
    (s.console.responses = [] → exec (.fetch n) s = .next (shown [0x5A, 1, 0xFF] []))

/-- R23: whatever a request transaction does, at its end its request has left the request queue, one response with
its tag and its code has joined the response queue, and the pointer has passed the Console Port (R10). -/
def Obligations.RequestsLeaveAndResponsesJoin : Prop :=
  ∀ (c : Instr) (code : Byte) (s : State) (q : Request) (qs : List Request),
    requestCodeOf c = some code → s.serves q qs → q.code = code →
    ∃ t result items, exec c s = .next t ∧ t.console.requests = qs ∧
      t.console.responses =
        s.console.responses ++ [{ tag := q.tag, code := q.code, result := result, items := items }] ∧
      t.arbiter.pointer = .towLine

/-- R189: the bytes after a request's table code are items when each is a field number, a length of 1, 2, 4 or 8 and a
value of that many bytes, and they fill the frame; the items are then the field numbers with the values read as signed
figures, most significant byte first, a value shorter than 8 bytes sign-extended. R26, R27: a request of an unknown
code, one whose bytes are no such items (a length other than these, or a value running past the end), and one that gives
a field number twice are refused with BAD_REQUEST and write nothing. -/
def Obligations.IllFormedRequestsWriteNothing : Prop :=
  (∀ (q : Request) (raw : List (Byte × List Byte)), q.holdsItems raw →
    q.items? = some (raw.map fun p => { field := p.1.toNat, value := signedFigure p.2 })) ∧
  (∀ (s : State) (q : Request) (qs : List Request), s.serves q qs →
    (∀ c, requestCodeOf c ≠ some q.code) →
    exec .unknownRequestCode s = .next (s.answered q qs .badRequest [] s)) ∧
  ∀ (c : Instr) (code : Byte) (s : State) (q : Request) (qs : List Request),
    requestCodeOf c = some code → s.serves q qs → q.code = code →
    (∀ raw, q.holdsItems raw → ¬(raw.map (·.1)).Nodup) →
    exec c s = .next (s.answered q qs .badRequest [] s)

/-! ## Requests on records -/

/-- R28, R29: LOOK of an enrolled, undamaged record returns its present fields and changes nothing, a damaged one ends
DAMAGED and an unknown key NO_RECORD. LOOK returns the boundary table, the policy, the lockage and the tow status record
by table code alone, and a listed node or a context by its address. LOOK NEXT finds the first record of a key-ordered
table whose key is greater than the one given, and the barge that follows the one given in tow order, or the first at
0: it returns the record, ends DAMAGED with the key alone for a damaged one, and NO_RECORD where none follows or the
hull is not enrolled. A key beyond the table's greatest is refused. The items are those that the tables of fields list
(R39, R41, R73, R112, R134, R148, R165, R6, R179, R55, R97 and section 12.1), in ascending number with absent fields
omitted and values in the codes of section 12.1 (R4, R188): `State.shown` and its like spell them out. -/
def Obligations.LookReturnsTheRecord : Prop :=
  (∀ (s : State) (q : Request) (qs : List Request) (table : Byte) (t : Tbl) (k : Nat),
    s.serves q qs → q.carries 0x01 table [⟨1, k⟩] → storeTable table.toNat = some t → s.errorFree = true →
    (∀ h, s.header? t k = some h → h.damaged = false →
      exec .look s = .next (s.answered q qs .done (s.shown t k) s)) ∧
    (∀ h, s.header? t k = some h → h.damaged = true →
      exec .look s = .next (s.answered q qs .damaged [] s)) ∧
    (s.header? t k = none → exec .look s = .next (s.answered q qs .noRecord [] s))) ∧
  (∀ (s : State) (q : Request) (qs : List Request), s.serves q qs →
    (q.carries 0x01 2 [] →
      exec .look s = .next (s.answered q qs .done ([1, 2, 3, 4, 5, 6].map fun k => item k (s.entry k : Nat)) s)) ∧
    (q.carries 0x01 8 [] → exec .look s = .next (s.answered q qs .done (s.policy.shown) s)) ∧
    (q.carries 0x01 9 [] → exec .look s = .next (s.answered q qs .done (s.lockage.shown) s)) ∧
    (q.carries 0x01 10 [] → exec .look s = .next (s.answered q qs .done (s.status.shown) s)) ∧
    ∀ k : Nat,
      (q.carries 0x01 11 [⟨1, k⟩] → exec .look s = .next (match s.node? k with
        | some n => s.answered q qs .done (s.nodeShown n) s
        | none => s.answered q qs .noRecord [] s)) ∧
      (q.carries 0x01 12 [⟨1, k⟩] → exec .look s = .next (match s.context? k with
        | some c => s.answered q qs .done (c.shown) s
        | none => s.answered q qs .noRecord [] s)) ∧
      (q.carries 0x02 11 [⟨1, k⟩] → exec .lookNext s = .next (if 126 < k then s.answered q qs (.badField 1) [] s
        else match s.tow.nodes.find? (fun n => decide (k < n.address)) with
          | some n => s.answered q qs .done (s.nodeShown n) s
          | none => s.answered q qs .noRecord [] s)) ∧
      (q.carries 0x02 12 [⟨1, k⟩] → exec .lookNext s = .next (if 31 < k then s.answered q qs (.badField 1) [] s
        else match s.link.contexts.find? (fun c => decide (k < c.address)) with
          | some c => s.answered q qs .done (c.shown) s
          | none => s.answered q qs .noRecord [] s))) ∧
  ∀ (s : State) (q : Request) (qs : List Request) (table : Byte) (t : Tbl) (v : Nat),
    s.serves q qs → q.carries 0x02 table [⟨1, v⟩] → storeTable table.toNat = some t → s.errorFree = true →
    let walk (follows : Option Nat) : Prop :=
      (follows = none → exec .lookNext s = .next (s.answered q qs .noRecord [] s)) ∧
      ∀ k, follows = some k →
        (s.sound t k = true → exec .lookNext s = .next (s.answered q qs .done (s.shown t k) s)) ∧
        ∀ h, s.header? t k = some h → h.damaged = true →
          exec .lookNext s = .next (s.answered q qs .damaged [item 1 k] s)
    (greatestKey table.toNat < v → exec .lookNext s = .next (s.answered q qs (.badField 1) [] s)) ∧
    (v ≤ greatestKey table.toNat → t ≠ .barges → walk ((s.keys t).find? fun k => decide (v < k))) ∧
    (t = .barges → v = 0 → walk (s.barges.map (·.hull)).head?) ∧
    (t = .barges → 1 ≤ v → v ≤ 65535 →
      (v ∉ s.barges.map (·.hull) → walk none) ∧
      ∀ before after, s.barges.map (·.hull) = before ++ v :: after → v ∉ before → walk after.head?)

/-- R42, R43: an ENROL of a barge, with a rank or without one and with a node address or without one, enters it at that
rank of its string, or at the tail where none is given or a greater one, which is clamped (DONE_CLAMPED): every barge at
its place or later moves one place later, and entries s to 6 of the boundary table gain 1. A hull that is enrolled is a
DUPLICATE; a table of 48 barges, and then a string of 8, is FULL; a coupling that names a barge of the string at or after
the rank makes it IN_USE; a node address that another barge or the boat holds is in use (R47), in this order, the order of
the items; and outside WHOLE the ENROL is refused with WRONG_STATE (R48). A node listed at the address that it takes has
its slots emptied (R56); which word of a damaged engine 5 that rebinding renews (R11, R144) is the model's choice
(log 3). R98, R135: an ENROL of a rudder channel, whose station address no record names, enters the record OFFLINE with
every angle 0, and creates its context at its place in address order; an address that a record names is in use, and an
enrolled channel a duplicate. R113: the same of a main engine, supplied by a DAY tank, with a meter or without one, its
staged order clamped. R142: an ENROL of engine 5 enters it OFFLINE, without a context, and is refused where its bow
barge is not an enrolled, undamaged barge fitted for it. R149: an ENROL of a tank starts its account at the opening, low
below the low mark, and a low mark that is not below the capacity is refused. R166: an ENROL of a transfer between two
enrolled tanks enters it IDLE with every figure 0, and a destination that is the source is refused. -/
def Obligations.EnrolInsertsABarge : Prop :=
  (∀ (s : State) (q : Request) (qs : List Request) (hull string laden draft : Nat) (fitted : Bool)
      (rank node : Option Nat),
    s.serves q qs →
    q.carries 0x03 1 ([⟨1, hull⟩, ⟨2, string⟩, ⟨4, laden⟩, ⟨5, draft⟩, ⟨7, if fitted then 1 else 0⟩] ++
      (match rank with | none => [] | some r => [⟨3, r⟩]) ++ (match node with | none => [] | some a => [⟨6, a⟩])) →
    1 ≤ hull → hull ≤ 65535 → 1 ≤ string → string ≤ 6 → laden ≤ 4000 → draft ≤ 600 →
    (∀ r, rank = some r → 1 ≤ r ∧ r ≤ 8) → (∀ a, node = some a → a ≤ 126) → s.rosterLaw = true →
    (s.errorFree = true ∨ ∀ n ∈ s.tow.nodes, node ≠ some n.address) →
    let held : Nat := (s.barges.filter (·.string == string)).length
    let wanted : Nat := rank.getD (held + 1)
    let stands : Nat := min wanted (held + 1)
    let refused (r : Result) : Prop := exec .enrol s = .next (s.answered q qs r [] s)
    let named : Prop := ∃ d ∈ s.barges, d.string = string ∧ stands ≤ (s.rank? d.hull).getD 0 ∧
      ∃ c ∈ s.couplings, c.names d.hull = true
    let taken : Prop := ∃ a, node = some a ∧ a ≠ 0 ∧ ((∃ d ∈ s.barges, d.node = some a) ∨ s.policy.boatNode = a)
    let new : Barge :=
      { hull := hull, string := string, node := if node = some 0 then none else node, laden := laden, draft := draft,
        bowFitted := fitted, header := { damaged := false, bad := [] } }
    let place := s.entry (string - 1) + stands - 1
    let entered : State := { s with
      barges := s.barges.take place ++ new :: s.barges.drop place
      strings := s.strings.take (string - 1) ++ (s.strings.drop (string - 1)).map (· + 1) }
    (hull ∈ s.barges.map (·.hull) → refused .duplicate) ∧
    (hull ∉ s.barges.map (·.hull) →
      (48 ≤ s.barges.length → refused .full) ∧
      (s.barges.length < 48 → 8 ≤ held → refused .full) ∧
      (s.barges.length < 48 → held < 8 →
        (named → refused .inUse) ∧
        (¬named → taken → refused .addressInUse) ∧
        (¬named → ¬taken → s.lockage.phase ≠ .whole → refused .wrongState) ∧
        (¬named → ¬taken → s.lockage.phase = .whole →
          exec .enrol s = .next (s.answered q qs (if held + 1 < wanted then .doneClamped else .done) []
            (match new.node with | none => entered | some a => entered.reboundAt a)))))) ∧
  (∀ (s : State) (q : Request) (qs : List Request) (k shaft a limit rate : Nat) (flanking : Bool),
    s.serves q qs →
    q.carries 0x03 5 [⟨1, k⟩, ⟨2, if flanking then 2 else 1⟩, ⟨3, shaft⟩, ⟨4, a⟩, ⟨5, limit⟩, ⟨6, rate⟩] →
    1 ≤ k → k ≤ 8 → 1 ≤ shaft → shaft ≤ 4 → 1 ≤ a → a ≤ 31 → 100 ≤ limit → limit ≤ 450 → 10 ≤ rate → rate ≤ 150 →
    (k ∈ s.rudders.map (·.channel) → exec .enrol s = .next (s.answered q qs .duplicate [] s)) ∧
    (k ∉ s.rudders.map (·.channel) → a ∈ s.namedAddresses.map (·.address) →
      exec .enrol s = .next (s.answered q qs .addressInUse [] s)) ∧
    (k ∉ s.rudders.map (·.channel) → a ∉ s.namedAddresses.map (·.address) →
      exec .enrol s = .next (s.answered q qs .done [] { s with
        rudders := insertByKey (·.channel)
          { channel := k, kind := if flanking then .flanking else .steering, shaft := shaft, station := a,
            limit := limit, rate := rate, staged := 0, next := 0, live := 0, allowed := 0, sent := 0,
            feedback := none, state := .offline, header := { damaged := false, bad := [] } } s.rudders
        link := { s.link with
          contexts := insertByKey (·.address) (Context.created a .rudder k (.rudder limit rate))
            s.link.contexts } }))) ∧
  (∀ (s : State) (q : Request) (qs : List Request) (k a rated supply : Nat) (meter : Option (Nat × Nat)) (v : Int),
    s.serves q qs →
    q.carries 0x03 4 ([⟨1, k⟩, ⟨2, a⟩, ⟨4, rated⟩, ⟨7, supply⟩] ++
      (match meter with | none => [] | some m => [⟨5, m.1⟩, ⟨6, m.2⟩]) ++ [⟨8, v⟩]) →
    1 ≤ k → k ≤ 4 → 1 ≤ a → a ≤ 31 → 50 ≤ rated → rated ≤ 600 → (∃ t ∈ s.tanks, t.number = supply ∧ t.kind = .day) →
    (∀ m, meter = some m → 1 ≤ m.1 ∧ m.1 ≤ 31 ∧ 100 ≤ m.2 ∧ m.2 ≤ 100000) →
    let taken (address : Nat) : Prop := address ∈ s.namedAddresses.map (·.address)
    let governed := insertByKey (·.address) (Context.created a .engine k (.engine rated)) s.link.contexts
    (k ∈ s.engines.map (·.number) → exec .enrol s = .next (s.answered q qs .duplicate [] s)) ∧
    (k ∉ s.engines.map (·.number) → (taken a ∨ ∃ m, meter = some m ∧ (taken m.1 ∨ m.1 = a)) →
      exec .enrol s = .next (s.answered q qs .addressInUse [] s)) ∧
    (k ∉ s.engines.map (·.number) → ¬taken a → (∀ m, meter = some m → ¬taken m.1 ∧ m.1 ≠ a) →
      exec .enrol s = .next (s.answered q qs (if -1000 ≤ v ∧ v ≤ 1000 then .done else .doneClamped) [] { s with
        engines := insertByKey (·.number)
          { number := k, station := some a, bowBarge := none, meter := meter.map (·.1), supply := some supply,
            rated := rated, meterFactor := meter.map (·.2), staged := max (-1000) (min v 1000), next := 0, live := 0,
            allowed := 0, sent := 0, delivered := none, alarm := false, state := .offline, lastDirection := .none,
            zeroTime := 0, consumed := 0, undebited := 0, header := { damaged := false, bad := [] } } s.engines
        link := { s.link with contexts := match meter with
          | none => governed
          | some m => insertByKey (·.address) (Context.created m.1 .meter k (.factor m.2)) governed } }))) ∧
  (∀ (s : State) (q : Request) (qs : List Request) (hull rated : Nat), s.serves q qs → s.errorFree = true →
    q.carries 0x03 4 [⟨1, 5⟩, ⟨3, hull⟩, ⟨4, rated⟩] → 50 ≤ rated → rated ≤ 600 →
    let fits : Prop := ∃ b, s.barge? hull = some b ∧ b.header.damaged = false ∧ b.bowFitted = true
    (¬fits → exec .enrol s = .next (s.answered q qs (.badField 3) [] s)) ∧
    (fits → 5 ∈ s.engines.map (·.number) → exec .enrol s = .next (s.answered q qs .duplicate [] s)) ∧
    (fits → 5 ∉ s.engines.map (·.number) → exec .enrol s = .next (s.answered q qs .done [] { s with
      engines := insertByKey (·.number)
        { number := 5, station := none, bowBarge := some hull, meter := none, supply := none, rated := rated,
          meterFactor := none, staged := 0, next := 0, live := 0, allowed := 0, sent := 0, delivered := none,
          alarm := false, state := .offline, lastDirection := .none, zeroTime := 0, consumed := 0, undebited := 0,
          header := { damaged := false, bad := [] } } s.engines }))) ∧
  (∀ (s : State) (q : Request) (qs : List Request) (k capacity lowMark opening : Nat) (gauge : Option Nat) (day : Bool),
    s.serves q qs →
    q.carries 0x03 6 ([⟨1, k⟩, ⟨2, if day then 2 else 1⟩, ⟨3, capacity⟩, ⟨4, lowMark⟩, ⟨7, opening⟩] ++
      (match gauge with | none => [] | some a => [⟨5, a⟩])) →
    1 ≤ k → k ≤ 12 → 100 ≤ capacity → capacity ≤ 400000 → opening ≤ capacity * 1000 →
    (∀ a, gauge = some a → 1 ≤ a ∧ a ≤ 31) →
    let taken : Prop := ∃ a, gauge = some a ∧ a ∈ s.namedAddresses.map (·.address)
    (capacity ≤ lowMark → exec .enrol s = .next (s.answered q qs (.badField 4) [] s)) ∧
    (lowMark < capacity → k ∈ s.tanks.map (·.number) → exec .enrol s = .next (s.answered q qs .duplicate [] s)) ∧
    (lowMark < capacity → k ∉ s.tanks.map (·.number) → taken →
      exec .enrol s = .next (s.answered q qs .addressInUse [] s)) ∧
    (lowMark < capacity → k ∉ s.tanks.map (·.number) → ¬taken →
      exec .enrol s = .next (s.answered q qs .done [] { s with
      tanks := insertByKey (·.number)
        { number := k, kind := if day then .day else .storage, gauge := gauge, capacity := capacity, lowMark := lowMark,
          content := opening, opening := opening, received := 0, transferredIn := 0, transferredOut := 0, drawn := 0,
          adjustments := 0, shortfall := 0, low := decide (opening < lowMark * 1000), gauged := none,
          header := { damaged := false, bad := [] } } s.tanks
      link := { s.link with contexts := match gauge with
        | none => s.link.contexts
        | some a => insertByKey (·.address) (Context.created a .gauge k (.gauge capacity)) s.link.contexts } }))) ∧
  ∀ (s : State) (q : Request) (qs : List Request) (k a factor source destination volume interval batches : Nat)
      (mode : TransferMode), s.serves q qs →
    q.carries 0x03 7 ([⟨1, k⟩, ⟨2, a⟩, ⟨3, factor⟩, ⟨4, source⟩, ⟨5, destination⟩, ⟨6, volume⟩, ⟨7, mode.code⟩,
      ⟨9, interval⟩] ++ (if mode = .counted then [⟨8, batches⟩] else [])) →
    1 ≤ k → k ≤ 2 → 1 ≤ a → a ≤ 31 → 100 ≤ factor → factor ≤ 100000 → source ∈ s.tanks.map (·.number) →
    destination ∈ s.tanks.map (·.number) → 10 ≤ volume → volume ≤ 20000 →
    interval = 0 ∨ (100 ≤ interval ∧ interval ≤ 100000) → 1 ≤ batches → batches ≤ 1000 →
    (source = destination → exec .enrol s = .next (s.answered q qs (.badField 5) [] s)) ∧
    (source ≠ destination → k ∈ s.transfers.map (·.number) →
      exec .enrol s = .next (s.answered q qs .duplicate [] s)) ∧
    (source ≠ destination → k ∉ s.transfers.map (·.number) → a ∈ s.namedAddresses.map (·.address) →
      exec .enrol s = .next (s.answered q qs .addressInUse [] s)) ∧
    (source ≠ destination → k ∉ s.transfers.map (·.number) → a ∉ s.namedAddresses.map (·.address) →
      exec .enrol s = .next (s.answered q qs .done [] { s with
        transfers := insertByKey (·.number)
          { number := k, pump := a, source := source, destination := destination, factor := factor,
            batchVolume := volume, mode := mode, batchCount := if mode = .counted then some batches else none,
            interval := interval, batchesDone := 0, batchMoved := 0, totalMoved := 0, heldVolume := 0, state := .idle,
            gapRequest := false, pendingAbort := false, mark := none, header := { damaged := false, bad := [] },
            pumpRun := false, quiet := 0 } s.transfers
        link := { s.link with
          contexts := insertByKey (·.address) (Context.created a .pump k (.factor factor)) s.link.contexts } }))

/-- R73, R74: an ENROL of a FACE, LONG or BREAST coupling, HAND or tended by a winch of an end, names end A where that is
no enrolled barge, end B where that is none or is end A, kind where the ends do not satisfy its adjacency (FACE: end A is
BOAT; LONG: one string, ranks differing by 1; BREAST: one rank, strings differing by 1), and tending member where that is
neither end, in this order; a table of 128 couplings is FULL. R5: otherwise it takes the lowest free number in 1..128,
returns it, and starts the record UNLASHED with nothing read, whichever winch other couplings name. In WHOLE its crossing
flag is clear. R187, R180, R183, R186: outside WHOLE the flag is that of its ends, and the completion test and then the
boat cut follow: nothing left ends BREAKING in SPLIT and REMAKING in WHOLE, with LOCKAGE. R86, R187: one that gives tend
order MAKE or declare MADE is refused whole with WRONG_STATE where it would cross in BREAKING or SPLIT. R73, R84, R87,
R88: in WHOLE a declare given is a HAND coupling's state and is refused of a winch-tended one, MAKE stands in the new
record with HEAVE to make-up tension in the slot of a listed winch, and NONE and RELEASE leave it as it is. A barge's rank
is its count among the barges of its string in tow order (R40). -/
def Obligations.EnrolTakesTheLowestCouplingNumber : Prop :=
  ∀ (s : State) (q : Request) (qs : List Request) (kind : CouplingKind) (endA : Member) (endB : Nat) (tending : Tending)
      (rated : Nat) (orders : List Item),
    s.serves q qs →
    q.carries 0x03 3 ([⟨2, match kind with | .face => 1 | .long => 2 | .breast => 3⟩, ⟨3, memberCode endA⟩, ⟨4, endB⟩,
      ⟨8, rated⟩] ++ (match tending with
      | .hand => [⟨5, 0⟩]
      | .winch m k => [⟨5, 1⟩, ⟨6, memberCode m⟩, ⟨7, k⟩]) ++ orders) →
    (match tending with
      | .hand => orders ∈ ([[], [⟨10, 0⟩], [⟨10, 1⟩]] : List (List Item))
      | .winch _ _ => orders ∈ ([[], [⟨9, 0⟩], [⟨9, 1⟩], [⟨9, 2⟩], [⟨10, 0⟩]] : List (List Item))) →
    1 ≤ endB → endB ≤ 65535 → 10 ≤ rated → rated ≤ 2000 → (∀ h, endA = .barge h → 1 ≤ h ∧ h ≤ 65535) →
    (∀ m k, tending = .winch m k → 1 ≤ k ∧ k ≤ 4 ∧ ∀ h, m = .barge h → 1 ≤ h ∧ h ≤ 65535) →
    (kind = .face ∨ s.rosterLaw = true) → s.errorFree = true → s.recordLaw = true →
    let refused (r : Result) : Prop := exec .enrol s = .next (s.answered q qs r [] s)
    let stands (h string rank : Nat) : Prop := ∃ i b, s.barges[i]? = some b ∧ b.hull = h ∧ b.string = string ∧
      rank = ((s.barges.take (i + 1)).filter (·.string == string)).length
    let apart (x y : Nat) : Prop := x = y + 1 ∨ y = x + 1
    let adjacent : Prop := match kind with
      | .face => endA = .boat
      | .long => ∃ h g x y, endA = .barge h ∧ stands h g x ∧ stands endB g y ∧ apart x y
      | .breast => ∃ h f g x, endA = .barge h ∧ stands h f x ∧ stands endB g x ∧ apart f g
    let fitA : Prop := ∀ h, endA = .barge h → h ∈ s.barges.map (·.hull)
    let fitB : Prop := endB ∈ s.barges.map (·.hull) ∧ endA ≠ .barge endB
    let tended : Prop := ∀ m k, tending = .winch m k → m = endA ∨ m = .barge endB
    let locked : Prop := s.lockage.phase = .breaking ∨ s.lockage.phase = .split
    let made : Prop := orders = [⟨9, 1⟩] ∨ orders = [⟨10, 1⟩]
    (¬fitA → refused (.badField 3)) ∧
    (fitA → ¬fitB → refused (.badField 4)) ∧
    (fitA → fitB → ¬adjacent → refused (.badField 2)) ∧
    (fitA → fitB → adjacent → ¬tended → refused (.badField 6)) ∧
    (fitA → fitB → adjacent → tended →
      (128 ≤ s.couplings.length → refused .full) ∧
      (s.couplings.length < 128 → locked → s.endsCross endA endB = true → made → refused .wrongState) ∧
      (s.couplings.length < 128 → tending ≠ .hand → orders = [⟨10, 0⟩] → refused .wrongState) ∧
      ∀ n, s.couplings.length < 128 → 1 ≤ n → n ≤ 128 → n ∉ s.couplings.map (·.number) →
        (∀ m, 1 ≤ m → m < n → m ∈ s.couplings.map (·.number)) →
        let new (crossing : Bool) : Coupling :=
          { number := n, kind := kind, endA := endA, endB := endB, tending := tending, rated := rated,
            tendOrder := .none, declaredMade := false, state := .unlashed, tension := none, seated := none,
            winchFault := false, crossing := crossing, header := { damaged := false, bad := [] }, debounce := none,
            slackTimer := none, dropSeen := false }
        let entered (c : Coupling) : State := { s with couplings := insertByKey (·.number) c s.couplings }
        let done (t : State) : Prop := exec .enrol s = .next (s.answered q qs .done [item 1 n] t)
        (s.lockage.phase = .whole →
          (orders = [] ∨ orders = [⟨9, 0⟩] ∨ orders = [⟨9, 2⟩] → done (entered (new false))) ∧
          (tending = .hand → ∀ m : Bool, orders = [⟨10, if m then 1 else 0⟩] →
            done (entered { new false with declaredMade := m, state := if m then .made else .unlashed })) ∧
          (∀ m k, tending = .winch m k → orders = [⟨9, 1⟩] →
            let t := entered { new false with tendOrder := .make }
            (s.nodeOf m = none → done t) ∧
            ∀ d, s.nodeOf m = some d → k ≤ d.winches →
              done (t.placed d k (.heave (rated * s.policy.makeUpTension / 1000))))) ∧
        (orders = [] →
          let t := entered (new (s.endsCross endA endB))
          (locked →
            let left := if s.lockage.phase = .split then 0
              else (t.couplings.filter fun d => t.crossing d && d.presents != .unlashed).length
            let ends : Bool := s.lockage.phase == .breaking && left == 0
            ∃ cut, let u : State := { t with lockage := { s.lockage with
                phase := if ends then .split else s.lockage.phase, boatCut := cut, remaining := left } }
              u.boatCutDecided ∧ done { u with notices := s.lockageNotices u (if ends then 1 else 0) }) ∧
          (s.lockage.phase = .remaking →
            let left := (t.couplings.filter fun d => t.crossing d && !d.presents.inMadeGroup).length
            if left = 0 then
              done { t with
                couplings := t.couplings.map fun d => if d.header.damaged then d else { d with crossing := false }
                lockage := { phase := .whole, breaks := [], boatCut := .none, remaining := 0 }
                notices := s.notices.raise .lockage }
            else
              ∃ cut, let u : State := { t with lockage := { s.lockage with boatCut := cut, remaining := left } }
                u.boatCutDecided ∧ done { u with notices := s.lockageNotices u 0 })))

/-- R3, R114, R116: an AMEND of a main engine's staged order writes it, clamped into -1000..+1000; a clamped value ends
the request DONE_CLAMPED. Nothing else changes. R98, R105, R109, R135: an AMEND of a rudder channel's rate, at sent
angle 0, writes it and restarts its servo's admission; the rate held restarts none and takes a REJECTED servo to
OFFLINE. An AMEND of its station address to one that no record names and no context holds removes the old context and
creates the new one, and the channel is OFFLINE. Either is refused while the sent angle is not 0. R114: a main engine's
new rated thrust restarts its governor's admission, and is refused while the sent order is not 0. R158: a supply tank
that changes takes what the engine holds undebited. R143, R145: engine 5 takes its bow barge and its rated thrust at
sent order 0 alone, and a new bow barge leaves it OFFLINE. R46: laden mass, draft and bow fitted of a barge are
written, but for bow fitted no of the barge that engine 5 names. R45: a barge moves to the tail of another string,
which must have room, in WHOLE, and only while no coupling names it or a barge behind it. R47, R90: a node address that
is free is taken while no coupling that the barge tends is lashed and engine 5 is not RUNNING at it, and their readings
become absent (stated where neither address is listed); that the state held decides for a damaged engine 5 too is read
from R47 and R144 (log 19). R150, R153: a tank's capacity restarts its gauge's admission, and its low mark gives the low
flag, with FUEL. R166: a transfer at rest takes a batch volume and a meter factor, which restarts its pump's admission;
a change of either is refused otherwise. -/
def Obligations.AmendStagesAnOrder : Prop :=
  (∀ (s : State) (q : Request) (qs : List Request) (k : Nat) (v : Int),
    s.serves q qs → q.carries 0x04 4 [⟨1, k⟩, ⟨8, v⟩] → s.errorFree = true → s.recordLaw = true → k ≠ 5 →
    s.sound .engines k = true →
    exec .amend s = .next (s.answered q qs (if -1000 ≤ v ∧ v ≤ 1000 then .done else .doneClamped) [] { s with
      engines := update (·.number == k) (fun e => { e with staged := max (-1000) (min v 1000) }) s.engines })) ∧
  (∀ (s : State) (q : Request) (qs : List Request) (r : Rudder) (c : Context) (v : Nat),
    s.serves q qs → s.errorFree = true → s.recordLaw = true → s.rudder? r.channel = some r →
    r.header.damaged = false → r.station = c.address → s.servedBy c .rudder r.channel →
    let write (new : Rudder) (l : MachineryLink) : State :=
      { s with rudders := update (·.channel == r.channel) (fun _ => new) s.rudders, link := l }
    (q.carries 0x04 5 [⟨1, r.channel⟩, ⟨6, v⟩] → 10 ≤ v → v ≤ 150 →
      (v ≠ r.rate → r.sent ≠ 0 → exec .amend s = .next (s.answered q qs .wrongState [] s)) ∧
      (v ≠ r.rate → r.sent = 0 → exec .amend s = .next (s.answered q qs .done []
        (write ({ r with rate := v }.restarted c.state) (s.link.restarted c (.rudder r.limit v) s.clock)))) ∧
      (v = r.rate → exec .amend s = .next (s.answered q qs .done [] (if c.state = .rejected then
          write { r with state := .offline } { s.link with
            contexts := update (·.address == r.station) (fun d => { d with state := .offline }) s.link.contexts }
        else s)))) ∧
    (q.carries 0x04 5 [⟨1, r.channel⟩, ⟨4, v⟩] → 1 ≤ v → v ≤ 31 → v ∉ s.namedAddresses.map (·.address) →
      s.context? v = none →
      (r.sent ≠ 0 → exec .amend s = .next (s.answered q qs .wrongState [] s)) ∧
      (r.sent = 0 →
        let left : Rudder := if c.state = .exchange then { r with allowed := 0, sent := 0, feedback := none } else r
        let link := s.link.without r.station
        let new := Context.created v .rudder r.channel (.rudder r.limit r.rate)
        exec .amend s = .next (s.answered q qs .done [] { write { left with station := v, state := .offline }
            { link with contexts := insertByKey (·.address) new link.contexts } with
          readings := s.readings.filter (·.address != r.station) })))) ∧
  (∀ (s : State) (q : Request) (qs : List Request) (e : Engine) (c : Context) (v : Nat),
    s.serves q qs → s.errorFree = true → s.recordLaw = true → s.engine? e.number = some e →
    e.header.damaged = false → e.number ≠ 5 → e.station = some c.address → s.servedBy c .engine e.number →
    (∀ a d, e.meter = some a → s.context? a = some d → d.state ≠ .rejected) →
    let put (new : Engine) : State := { s with engines := update (·.number == e.number) (fun _ => new) s.engines }
    (q.carries 0x04 4 [⟨1, e.number⟩, ⟨4, v⟩] → 50 ≤ v → v ≤ 600 →
      (v ≠ e.rated → e.sent ≠ 0 → exec .amend s = .next (s.answered q qs .wrongState [] s)) ∧
      (v ≠ e.rated → e.sent = 0 → exec .amend s = .next (s.answered q qs .done []
        ((put ({ e with rated := v }.restarted c.state)).readmitted c (.engine v)))) ∧
      (v = e.rated → e.sent = 0 → c.state ≠ .rejected → exec .amend s = .next (s.answered q qs .done [] s))) ∧
    (q.carries 0x04 4 [⟨1, e.number⟩, ⟨7, v⟩] → c.state ≠ .rejected →
      ((∀ t ∈ s.tanks, t.number = v → t.kind = .storage) →
        exec .amend s = .next (s.answered q qs (.badField 7) [] s)) ∧
      ∀ t, s.tank? v = some t → t.kind = .day →
        (e.supply = some v → exec .amend s = .next (s.answered q qs .done [] s)) ∧
        (e.supply ≠ some v → e.undebited = 0 ∨ t.header.damaged = true →
          exec .amend s = .next (s.answered q qs .done [] (put { e with supply := some v }))) ∧
        (e.supply ≠ some v → e.undebited ≠ 0 → t.header.damaged = false →
          exec .amend s = .next (s.answered q qs .done [] { put { e with supply := some v, undebited := 0 } with
            tanks := update (·.number == v) (fun _ => t.afterDraw e.undebited) s.tanks
            notices := s.notices.afterDebit t (t.afterDraw e.undebited) e.undebited })))) ∧
  (∀ (s : State) (q : Request) (qs : List Request) (e : Engine) (v : Nat),
    s.serves q qs → s.errorFree = true → s.recordLaw = true → s.engine? 5 = some e → e.header.damaged = false →
    let put (new : Engine) : State := { s with engines := update (·.number == 5) (fun _ => new) s.engines }
    (q.carries 0x04 4 [⟨1, 5⟩, ⟨4, v⟩] → 50 ≤ v → v ≤ 600 → exec .amend s = .next (if e.sent ≠ 0 then
        s.answered q qs .wrongState [] s else s.answered q qs .done [] (put { e with rated := v }))) ∧
    (q.carries 0x04 4 [⟨1, 5⟩, ⟨3, v⟩] →
      let fits : Prop := ∃ b, s.barge? v = some b ∧ b.header.damaged = false ∧ b.bowFitted = true
      (e.bowBarge ≠ some v → ¬fits → exec .amend s = .next (s.answered q qs (.badField 3) [] s)) ∧
      (e.bowBarge = some v ∨ fits → e.sent ≠ 0 → exec .amend s = .next (s.answered q qs .wrongState [] s)) ∧
      (e.bowBarge = some v → e.sent = 0 → exec .amend s = .next (s.answered q qs .done [] s)) ∧
      (e.bowBarge ≠ some v → fits → e.sent = 0 → exec .amend s = .next (s.answered q qs .done [] (put
        { (if e.state = .running then e.stopped .offline else e) with bowBarge := some v, state := .offline }))))) ∧
  (∀ (s : State) (q : Request) (qs : List Request) (b : Barge) (laden draft v : Nat) (fitted : Bool),
    s.serves q qs → s.errorFree = true → s.recordLaw = true → s.barge? b.hull = some b → b.header.damaged = false →
    (q.carries 0x04 1 [⟨1, b.hull⟩, ⟨4, laden⟩, ⟨5, draft⟩, ⟨7, if fitted then 1 else 0⟩] →
      laden ≤ 4000 → draft ≤ 600 → exec .amend s = .next (if fitted = false ∧ s.bowBarge? = some b.hull then
          s.answered q qs .inUse [] s
        else s.answered q qs .done [] { s with
          barges := update (·.hull == b.hull)
            (fun _ => { b with laden := laden, draft := draft, bowFitted := fitted }) s.barges })) ∧
    (q.carries 0x04 1 [⟨1, b.hull⟩, ⟨2, v⟩] → s.rosterLaw = true → 1 ≤ v → v ≤ 6 →
      (∀ d ∈ s.barges, d.hull ≠ b.hull → b.node = none ∨ d.node ≠ b.node) →
      let kept : Prop := ∃ d ∈ s.barges, d.string = b.string ∧
        (s.rank? b.hull).getD 0 ≤ (s.rank? d.hull).getD 0 ∧ ∃ c ∈ s.couplings, c.names d.hull = true
      (v = b.string → exec .amend s = .next (s.answered q qs .done [] s)) ∧
      (v ≠ b.string → kept → exec .amend s = .next (s.answered q qs .inUse [] s)) ∧
      (v ≠ b.string → ¬kept → s.stringCount v = 8 → exec .amend s = .next (s.answered q qs .full [] s)) ∧
      (v ≠ b.string → ¬kept → s.stringCount v < 8 → s.lockage.phase ≠ .whole →
        exec .amend s = .next (s.answered q qs .wrongState [] s)) ∧
      (v ≠ b.string → ¬kept → s.stringCount v < 8 → s.lockage.phase = .whole →
        let rest := s.barges.filter (·.hull != b.hull)
        let closed := s.strings.take (b.string - 1) ++ (s.strings.drop (b.string - 1)).map (· - 1)
        let place := (closed[v - 1]?).getD 0
        exec .amend s = .next (s.answered q qs .done [] { s with
          barges := rest.take place ++ { b with string := v } :: rest.drop place
          strings := closed.take (v - 1) ++ (closed.drop (v - 1)).map (· + 1) }))) ∧
    (q.carries 0x04 1 [⟨1, b.hull⟩, ⟨6, v⟩] → v ≤ 126 → b.node ≠ some 0 →
      let node : Option Nat := if v = 0 then none else some v
      let taken : Prop := v ≠ 0 ∧ ((∃ d ∈ s.barges, d.hull ≠ b.hull ∧ d.node = some v) ∨ s.policy.boatNode = v)
      let lashed : Prop := (∃ c ∈ s.couplings, c.tendedBy (.barge b.hull) = true ∧ c.presents ≠ .unlashed) ∨
        ∃ e, s.bowBarge? = some b.hull ∧ s.engine? 5 = some e ∧ e.state = .running
      (node = b.node → exec .amend s = .next (s.answered q qs .done [] s)) ∧
      (node ≠ b.node → taken → exec .amend s = .next (s.answered q qs .addressInUse [] s)) ∧
      (node ≠ b.node → ¬taken → lashed → exec .amend s = .next (s.answered q qs .wrongState [] s)) ∧
      (node ≠ b.node → ¬taken → ¬lashed → (∀ n ∈ s.tow.nodes, n.address ≠ v ∧ b.node ≠ some n.address) →
        exec .amend s = .next (s.answered q qs .done [] { s with
          barges := update (·.hull == b.hull) (fun _ => { b with node := node }) s.barges
          couplings := s.couplings.map fun c =>
            if c.tendedBy (.barge b.hull) then { c with tension := none, seated := none } else c })))) ∧
  (∀ (s : State) (q : Request) (qs : List Request) (t : Tank) (gauge : Option Context) (v : Nat),
    s.serves q qs → s.errorFree = true → s.recordLaw = true → s.tank? t.number = some t → t.header.damaged = false →
    t.gauge = gauge.map (·.address) → (∀ c, gauge = some c → s.servedBy c .gauge t.number) →
    let put (new : Tank) : State := { s with tanks := update (·.number == t.number) (fun _ => new) s.tanks }
    (q.carries 0x04 6 [⟨1, t.number⟩, ⟨3, v⟩] → 100 ≤ v → v ≤ 400000 →
      (v ≤ t.lowMark → exec .amend s = .next (s.answered q qs (.badField 4) [] s)) ∧
      (t.lowMark < v → v ≠ t.capacity → exec .amend s = .next (s.answered q qs .done [] (match gauge with
        | none => put { t with capacity := v }
        | some c => (put { t with
            capacity := v, gauged := if c.state = .exchange then none else t.gauged }).readmitted c (.gauge v))))) ∧
    (q.carries 0x04 6 [⟨1, t.number⟩, ⟨4, v⟩] → (∀ c, gauge = some c → c.state ≠ .rejected) →
      let low : Bool := decide (t.content < v * 1000)
      (t.capacity ≤ v → exec .amend s = .next (s.answered q qs (.badField 4) [] s)) ∧
      (v < t.capacity → v ≠ t.lowMark → exec .amend s = .next (s.answered q qs .done []
        { put { t with lowMark := v, low := low } with
          notices := if low && !t.low then s.notices.raise .fuel else s.notices })))) ∧
  ∀ (s : State) (q : Request) (qs : List Request) (tr : Transfer) (c : Context) (v : Nat),
    s.serves q qs → s.errorFree = true → s.recordLaw = true → s.transfer? tr.number = some tr →
    tr.header.damaged = false → tr.pump = c.address → s.servedBy c .pump tr.number → tr.source ≠ tr.destination →
    tr.batchCount.isSome = (tr.mode == .counted) → (tr.interval = 0 → tr.mark = none) →
    let put (new : Transfer) : State :=
      { s with transfers := update (·.number == tr.number) (fun _ => new) s.transfers }
    (q.carries 0x04 7 [⟨1, tr.number⟩, ⟨6, v⟩] → 10 ≤ v → v ≤ 20000 → c.state ≠ .rejected →
      exec .amend s = .next (if v ≠ tr.batchVolume ∧ tr.state.atRest = false then s.answered q qs .wrongState [] s
        else s.answered q qs .done [] (put { tr with batchVolume := v }))) ∧
    (q.carries 0x04 7 [⟨1, tr.number⟩, ⟨3, v⟩] → 100 ≤ v → v ≤ 100000 → v ≠ tr.factor →
      exec .amend s = .next (if tr.state.atRest = false then s.answered q qs .wrongState [] s
        else s.answered q qs .done [] ((put { tr with factor := v }).readmitted c (.factor v))))

/-- R84, R61: a tend order MAKE given to a winch-tended coupling in UNLASHED or LOST, with its node listed, is taken:
tend order MAKE, the state that follows the seated level held, and HEAVE to make-up tension in the winch's slot with
failure count 0. R83: RELEASE gives the coupling its row of the table, with PAY OUT unless it is UNLASHED under no MAKE.
R85: NONE over MAKE places HOLD, over RELEASE it is refused. R87, R88: a declare is a HAND coupling's state, and
UNLASHED writes a LOST winch-tended one off and is refused of it in any other state, whatever tending the request gives
(R31); that a coupling which becomes winch-tended may carry one is the model's choice (log 26).
R75: a rated load is written in every state, and end B and tending of a FACE coupling in UNLASHED alone; a change of
tending takes readings, winch fault and the orders of the other kind with it. Stated in WHOLE. -/
def Obligations.AmendMakesACoupling : Prop :=
  (∀ (s : State) (q : Request) (qs : List Request) (k w : Nat) (c : Coupling) (m : Member) (n : Node),
    s.serves q qs → q.carries 0x04 3 [⟨1, k⟩, ⟨9, 1⟩] → s.errorFree = true → s.recordLaw = true →
    s.lockage.phase = .whole → s.coupling? k = some c → c.header.damaged = false → c.tending = .winch m w →
    (c.state = .unlashed ∨ c.state = .lost) → s.nodeOf m = some n → w ≤ n.winches →
    let on : Bool := c.seated == some true
    let slot : Slot :=
      { command := .heave (c.rated * s.policy.makeUpTension / 1000), stamp := s.tow.stamps, failures := 0 }
    exec .amend s = .next (s.answered q qs .done [] { s with
      couplings := update (·.number == k) (fun d => { d with
        tendOrder := .make
        state := if on then .settling else .unlashed
        debounce := if on then some s.clock else d.debounce }) s.couplings
      tow := { s.tow with
        nodes := update (·.address == n.address) (fun d => { d with slots := d.slots.set (w - 1) (some slot) })
          s.tow.nodes
        stamps := s.tow.stamps + 1 } })) ∧
  ∀ (s : State) (q : Request) (qs : List Request) (c : Coupling) (v : Nat),
    s.serves q qs → s.errorFree = true → s.recordLaw = true → s.lockage.phase = .whole →
    s.coupling? c.number = some c → c.header.damaged = false →
    let put (new : Coupling) (t : State) : State :=
      { t with couplings := update (·.number == c.number) (fun _ => new) t.couplings }
    let done (t : State) : Prop := exec .amend s = .next (s.answered q qs .done [] t)
    let wrongState : Prop := exec .amend s = .next (s.answered q qs .wrongState [] s)
    let given (items : List Item) : Prop := q.carries 0x04 3 (⟨1, c.number⟩ :: items)
    let written (t : Tending) : Coupling :=
      let other : Bool := (t == .hand) != (c.tending == .hand)
      { c with
        tending := t, tension := none, seated := none, winchFault := false
        tendOrder := if other then .none else c.tendOrder
        declaredMade := c.declaredMade && !other }
    (given [⟨8, v⟩] → 10 ≤ v → v ≤ 2000 → done (put { c with rated := v } s)) ∧
    (∀ m w n, c.tending = .winch m w → s.nodeOf m = some n → w ≤ n.winches →
      (given [⟨9, 2⟩] → done (if c.state = .unlashed ∧ c.tendOrder ≠ .make then s
        else put c.givenRelease (s.placed n w .payOut))) ∧
      (given [⟨9, 0⟩] → match c.tendOrder with
        | .release => wrongState
        | .make => done (put { c with tendOrder := .none } (s.placed n w .hold))
        | .none => done s)) ∧
    (c.winchTended = true → given [⟨10, 0⟩] →
      if c.state = .lost then done (put { c with state := .unlashed, tendOrder := .none } s) else wrongState) ∧
    (c.winchTended = false → ∀ made : Bool, given [⟨10, if made then 1 else 0⟩] →
      done (put { c with declaredMade := made, state := if made then .made else .unlashed } s)) ∧
    (c.kind = .face → c.endA = .boat → (s.barge? c.endB).isSome = true →
      (c.tending = .hand → given [⟨4, v⟩] → 1 ≤ v → v ≤ 65535 →
        (s.barge? v = none → exec .amend s = .next (s.answered q qs (.badField 4) [] s)) ∧
        (v = c.endB → done s) ∧
        ((s.barge? v).isSome = true → v ≠ c.endB →
          if c.state = .unlashed then done (put { c with endB := v } s) else wrongState)) ∧
      (∀ declared : Bool,
        let declare : List Item := if declared then [⟨10, 0⟩] else []
        (∀ m w, c.tending = .winch m w → given (⟨5, 0⟩ :: declare) →
          if c.state = .unlashed ∧ declared = false then done (put (written .hand) s) else wrongState) ∧
        ∀ (m : Member) (w : Nat), m = .boat ∨ m = .barge c.endB → 1 ≤ w → w ≤ 4 → c.endB ≤ 65535 → 1 ≤ c.endB →
          given (⟨5, 1⟩ :: ⟨6, m.code⟩ :: ⟨7, w⟩ :: declare) →
          c.tending ≠ .winch m w →
          if c.state = .unlashed ∧ (c.winchTended = false ∨ declared = false) then
            done (put (written (.winch m w)) s)
          else wrongState) ∧
      (c.tending = .hand → given [⟨5, 1⟩, ⟨7, 1⟩] → exec .amend s = .next (s.answered q qs (.badField 6) [] s)))

/-- R44: a RETIRE of a barge that a coupling names, that is the bow barge, or of whose string a barge at a later rank is
named by a coupling, is refused with IN_USE, and then outside WHOLE with WRONG_STATE (R48). Any other, damaged or not, is
removed, and entries s to 6 of the boundary table lose 1; a node listed at its address is bound to no barge, with its
slots emptied (R56). Which word of a damaged engine 5 a rebinding renews (R11, R144) is the model's choice (log 3).
R98, R136: a RETIRE of an undamaged rudder channel is refused while its sent angle is not 0; at 0, and
of a damaged channel, it removes the record with its context, whose results, readings and slot go with it. R77: a
coupling in WHOLE is removed in UNLASHED or LOST, or damaged. R115, R143: an engine is removed, with its contexts, at
sent order 0, or damaged. R151: a tank that an engine or a transfer names is in use; else it is removed, with its
gauge's context, when its content is 0, or damaged. R166: a transfer is removed, with its pump's context, at rest with
nothing held, or damaged. -/
def Obligations.RetireRemovesABarge : Prop :=
  (∀ (s : State) (q : Request) (qs : List Request) (b : Barge),
    s.serves q qs → q.carries 0x05 1 [⟨1, b.hull⟩] → s.barge? b.hull = some b → s.rosterLaw = true →
    let refused (r : Result) : Prop := exec .retire s = .next (s.answered q qs r [] s)
    let named : Prop := s.bowBarge? = some b.hull ∨ (∃ c ∈ s.couplings, c.names b.hull = true) ∨
      ∃ d ∈ s.barges, d.string = b.string ∧ (s.rank? b.hull).getD 0 < (s.rank? d.hull).getD 0 ∧
        ∃ c ∈ s.couplings, c.names d.hull = true
    (named → refused .inUse) ∧
    (¬named → s.lockage.phase ≠ .whole → refused .wrongState) ∧
    (¬named → s.lockage.phase = .whole → (s.errorFree = true ∨ ∀ n ∈ s.tow.nodes, b.node ≠ some n.address) →
      s.nodeLaw = true →
      let left : State := { s with
        barges := s.barges.filter (·.hull != b.hull)
        strings := s.strings.take (b.string - 1) ++ (s.strings.drop (b.string - 1)).map (· - 1) }
      exec .retire s = .next (s.answered q qs .done []
        (match b.node with | none => left | some a => left.reboundAt a)))) ∧
  (∀ (s : State) (q : Request) (qs : List Request) (r : Rudder) (c : Context),
    s.serves q qs → q.carries 0x05 5 [⟨1, r.channel⟩] → s.errorFree = true → s.recordLaw = true →
    s.rudder? r.channel = some r → s.context? r.station = some c → c.kind = .rudder → c.key = r.channel →
    (r.header.damaged = false → r.sent ≠ 0 → exec .retire s = .next (s.answered q qs .wrongState [] s)) ∧
    (r.header.damaged = true ∨ r.sent = 0 → exec .retire s = .next (s.answered q qs .done [] { s with
      rudders := s.rudders.filter (·.channel != r.channel)
      link := s.link.without r.station
      readings := s.readings.filter (·.address != r.station) }))) ∧
  (∀ (s : State) (q : Request) (qs : List Request) (c : Coupling),
    s.serves q qs → q.carries 0x05 3 [⟨1, c.number⟩] → s.errorFree = true → s.coupling? c.number = some c →
    s.lockage.phase = .whole →
    exec .retire s = .next (if c.header.damaged = true ∨ c.state = .unlashed ∨ c.state = .lost then
        s.answered q qs .done [] { s with couplings := s.couplings.filter (·.number != c.number) }
      else s.answered q qs .wrongState [] s)) ∧
  (∀ (s : State) (q : Request) (qs : List Request) (e : Engine),
    s.serves q qs → q.carries 0x05 4 [⟨1, e.number⟩] → s.errorFree = true → s.recordLaw = true →
    s.engine? e.number = some e →
    let addresses := e.station.toList ++ e.meter.toList
    (∀ a ∈ addresses, ∃ c, s.context? a = some c ∧ (c.kind = .engine ∨ c.kind = .meter) ∧ c.key = e.number) →
    exec .retire s = .next (if e.header.damaged = true ∨ e.sent = 0 then
        s.answered q qs .done []
          (addresses.foldl State.withoutContext { s with engines := s.engines.filter (·.number != e.number) })
      else s.answered q qs .wrongState [] s)) ∧
  (∀ (s : State) (q : Request) (qs : List Request) (t : Tank),
    s.serves q qs → q.carries 0x05 6 [⟨1, t.number⟩] → s.errorFree = true → s.recordLaw = true →
    s.tank? t.number = some t →
    (∀ a, t.gauge = some a → ∃ c, s.context? a = some c ∧ c.kind = .gauge ∧ c.key = t.number) →
    let named : Prop := (∃ e ∈ s.engines, e.supply = some t.number) ∨
      ∃ tr ∈ s.transfers, tr.source = t.number ∨ tr.destination = t.number
    (named → exec .retire s = .next (s.answered q qs .inUse [] s)) ∧
    (¬named → exec .retire s = .next (if t.header.damaged = true ∨ t.content = 0 then
        s.answered q qs .done []
          (t.gauge.toList.foldl State.withoutContext { s with tanks := s.tanks.filter (·.number != t.number) })
      else s.answered q qs .wrongState [] s))) ∧
  ∀ (s : State) (q : Request) (qs : List Request) (tr : Transfer) (c : Context),
    s.serves q qs → q.carries 0x05 7 [⟨1, tr.number⟩] → s.errorFree = true → s.recordLaw = true →
    s.transfer? tr.number = some tr → s.context? tr.pump = some c → c.kind = .pump → c.key = tr.number →
    exec .retire s = .next (if tr.header.damaged = true ∨ (tr.state.atRest = true ∧ tr.heldVolume = 0) then
        s.answered q qs .done []
          (State.withoutContext { s with transfers := s.transfers.filter (·.number != tr.number) } tr.pump)
      else s.answered q qs .wrongState [] s)

/-- R17, R51: RESTORE of a damaged barge writes laden mass, draft and bow fitted afresh, clears the flag and every
word error, and keeps what the directory holds. That bow fitted may be given as no for the barge that engine 5 names is
the model's choice (log 42). R17, R105, R140: RESTORE of a damaged rudder channel writes kind, limit angle and rate,
starts the angles at 0 with no feedback, restarts its servo's admission, and takes the state that mirrors the servo's
context. R93: a coupling restarts UNLASHED in WHOLE with nothing read and no order. R132: a main engine restarts with
every order and figure 0 and the admissions of its governor and of its meter; R147: engine 5 restarts OFFLINE. R163: a
tank's account restarts at the opening and its gauge's admission with it; then the draw that an engine holds undebited
is taken from it, and (R176) the volume that a transfer holds is taken from its source and added to its destination.
R177: a transfer restarts IDLE with every figure 0, and its pump's admission. An undamaged record is refused. -/
def Obligations.RestoreRewritesABarge : Prop :=
  (∀ (s : State) (q : Request) (qs : List Request) (b : Barge) (laden draft : Nat) (fitted : Bool),
    s.serves q qs → q.carries 0x06 1 [⟨1, b.hull⟩, ⟨4, laden⟩, ⟨5, draft⟩, ⟨7, if fitted then 1 else 0⟩] →
    s.recordLaw = true → s.barge? b.hull = some b → laden ≤ 4000 → draft ≤ 600 →
    exec .restore s = .next (if b.header.damaged then
        s.answered q qs .done [] { s with
          barges := update (·.hull == b.hull) (fun _ => { b with
            laden := laden, draft := draft, bowFitted := fitted, header := { damaged := false, bad := [] } }) s.barges }
      else s.answered q qs .wrongState [] s)) ∧
  (∀ (s : State) (q : Request) (qs : List Request) (r : Rudder) (c : Context) (limit rate : Nat) (flanking : Bool),
    s.serves q qs →
    q.carries 0x06 5 [⟨1, r.channel⟩, ⟨2, if flanking then 2 else 1⟩, ⟨5, limit⟩, ⟨6, rate⟩] → s.recordLaw = true →
    s.rudder? r.channel = some r → r.station = c.address → s.servedBy c .rudder r.channel →
    100 ≤ limit → limit ≤ 450 → 10 ≤ rate → rate ≤ 150 →
    exec .restore s = .next (if r.header.damaged then
        s.answered q qs .done [] { s with
          rudders := update (·.channel == r.channel) (fun _ => { r with
            kind := if flanking then .flanking else .steering, limit := limit, rate := rate, staged := 0, next := 0
            live := 0, allowed := 0, sent := 0, feedback := none
            state := c.state.unitRestarted
            header := { damaged := false, bad := [] } }) s.rudders
          link := s.link.restarted c (.rudder limit rate) s.clock }
      else s.answered q qs .wrongState [] s)) ∧
  (∀ (s : State) (q : Request) (qs : List Request) (c : Coupling) (rated : Nat),
    s.serves q qs → q.carries 0x06 3 [⟨1, c.number⟩, ⟨8, rated⟩] → s.coupling? c.number = some c →
    10 ≤ rated → rated ≤ 2000 → s.lockage.phase = .whole →
    exec .restore s = .next (if c.header.damaged then
        s.answered q qs .done [] { s with couplings := update (·.number == c.number) (fun _ => { c with
          rated := rated, tendOrder := .none, declaredMade := false, state := .unlashed, tension := none, seated := none
          winchFault := false, crossing := false, header := { damaged := false, bad := [] }, debounce := none
          slackTimer := none, dropSeen := false }) s.couplings }
      else s.answered q qs .wrongState [] s)) ∧
  (∀ (s : State) (q : Request) (qs : List Request) (e : Engine) (governor meter : Option Context) (rated factor : Nat),
    s.serves q qs →
    q.carries 0x06 4 ([⟨1, e.number⟩, ⟨4, rated⟩] ++ (if meter.isSome then [⟨6, factor⟩] else [])) →
    s.recordLaw = true → s.engine? e.number = some e → 50 ≤ rated → rated ≤ 600 → 100 ≤ factor → factor ≤ 100000 →
    e.station = governor.map (·.address) → (∀ c, governor = some c → s.servedBy c .engine e.number) →
    e.meter = meter.map (·.address) → (∀ c, meter = some c → s.servedBy c .meter e.number) →
    let new : Engine := { e with
      rated := rated, meterFactor := meter.map fun _ => factor, staged := 0, next := 0, live := 0, allowed := 0
      sent := 0, delivered := none, alarm := false, lastDirection := .none, zeroTime := 0, consumed := 0, undebited := 0
      state := match governor with | none => .offline | some c => c.state.unitRestarted
      header := { damaged := false, bad := [] } }
    let written : State := { s with engines := update (·.number == e.number) (fun _ => new) s.engines }
    let governed : State := match governor with | none => written | some c => written.readmitted c (.engine rated)
    exec .restore s = .next (if e.header.damaged then
        s.answered q qs .done [] (match meter with
          | none => governed
          | some c => governed.readmitted c (.factor factor))
      else s.answered q qs .wrongState [] s)) ∧
  (∀ (s : State) (q : Request) (qs : List Request) (t : Tank) (gauge : Option Context) (capacity lowMark opening : Nat),
    s.serves q qs → q.carries 0x06 6 [⟨1, t.number⟩, ⟨3, capacity⟩, ⟨4, lowMark⟩, ⟨7, opening⟩] →
    s.errorFree = true → s.recordLaw = true → s.tank? t.number = some t → 100 ≤ capacity → capacity ≤ 400000 →
    lowMark < capacity → opening ≤ capacity * 1000 → t.gauge = gauge.map (·.address) →
    (∀ c, gauge = some c → s.servedBy c .gauge t.number) →
    let new : Tank := { t with
      capacity := capacity, lowMark := lowMark, content := opening, opening := opening, received := 0
      transferredIn := 0, transferredOut := 0, drawn := 0, adjustments := 0, shortfall := 0
      low := decide (opening < lowMark * 1000)
      gauged := none, header := { damaged := false, bad := [] } }
    let put (new : Tank) (s : State) : State :=
      { s with tanks := update (·.number == new.number) (fun _ => new) s.tanks }
    let restarted : State := put new (match gauge with | none => s | some c => s.readmitted c (.gauge capacity))
    let draws := s.engines.filter fun e => e.supply == some t.number && !e.header.damaged && e.undebited != 0
    let volumes := s.transfers.filter fun tr =>
      (tr.source == t.number || tr.destination == t.number) && !tr.header.damaged && tr.heldVolume != 0
    (t.header.damaged = false → exec .restore s = .next (s.answered q qs .wrongState [] s)) ∧
    (t.header.damaged = true → draws = [] → volumes = [] →
      exec .restore s = .next (s.answered q qs .done [] restarted)) ∧
    (∀ e, t.header.damaged = true → draws = [e] → volumes = [] →
      let after : Tank := new.afterDraw e.undebited
      exec .restore s = .next (s.answered q qs .done [] { put after restarted with
        engines := update (·.number == e.number) (fun e => { e with undebited := 0 }) s.engines
        notices := s.notices.afterDebit new after e.undebited })) ∧
    ∀ tr source destination, t.header.damaged = true → draws = [] → volumes = [tr] → tr.source ≠ tr.destination →
      restarted.tank? tr.source = some source → restarted.tank? tr.destination = some destination →
      exec .restore s = .next (s.answered q qs .done []
        (if source.header.damaged = true ∨ destination.header.damaged = true then restarted
        else
          let gives : Tank := { source.afterDraw tr.heldVolume with
            drawn := source.drawn, transferredOut := source.transferredOut + tr.heldVolume }
          let content := destination.content + tr.heldVolume
          let takes : Tank := { destination with
            content := content, transferredIn := destination.transferredIn + tr.heldVolume
            low := decide (content < destination.lowMark * 1000) }
          let first := s.notices.afterDebit source gives tr.heldVolume
          { put takes (put gives restarted) with
            transfers := update (·.number == tr.number) (fun tr => { tr with heldVolume := 0 }) s.transfers
            notices := if takes.low && !destination.low then first.raise .fuel else first }))) ∧
  ∀ (s : State) (q : Request) (qs : List Request) (tr : Transfer) (c : Context) (factor volume interval batches : Nat)
      (mode : TransferMode),
    s.serves q qs →
    q.carries 0x06 7 ([⟨1, tr.number⟩, ⟨3, factor⟩, ⟨6, volume⟩, ⟨7, mode.code⟩, ⟨9, interval⟩] ++
      (if mode = .counted then [⟨8, batches⟩] else [])) →
    s.errorFree = true → s.recordLaw = true → s.transfer? tr.number = some tr → tr.pump = c.address →
    s.servedBy c .pump tr.number →
    100 ≤ factor → factor ≤ 100000 → 10 ≤ volume → volume ≤ 20000 →
    interval = 0 ∨ (100 ≤ interval ∧ interval ≤ 100000) → 1 ≤ batches → batches ≤ 1000 →
    exec .restore s = .next (if tr.header.damaged then
        s.answered q qs .done [] (State.readmitted
          { s with transfers := update (·.number == tr.number) (fun _ => { tr with
              factor := factor, batchVolume := volume, mode := mode
              batchCount := if mode = .counted then some batches else none, interval := interval, batchesDone := 0
              batchMoved := 0, totalMoved := 0, heldVolume := 0, state := .idle, gapRequest := false
              pendingAbort := false, mark := none, header := { damaged := false, bad := [] }, pumpRun := false
              quiet := 0 }) s.transfers } c (.factor factor))
      else s.answered q qs .wrongState [] s)

/-! ## Orders, lockage and transfers -/

/-- R117: STEP copies the staged value of every undamaged engine and rudder channel to its next value, counts a
superseded step, advances the step number past 0, and sets step waiting. -/
def Obligations.StepCopiesStagedValues : Prop :=
  ∀ (s : State) (q : Request) (qs : List Request),
    s.serves q qs → q.carries 0x10 0 [] → s.errorFree = true → s.recordLaw = true →
    exec .stepOrders s = .next (s.answered q qs .done [] { s with
      engines := s.engines.map fun e => if e.header.damaged then e else { e with next := e.staged }
      rudders := s.rudders.map fun r => if r.header.damaged then r else { r with next := r.staged }
      status := { s.status with
        superseded := if s.status.stepWaiting then min 65535 (s.status.superseded + 1) else s.status.superseded
        stepNumber := if s.status.stepNumber = 255 then 1 else s.status.stepNumber + 1
        stepWaiting := true } })

/-- R40, R180: a barge's rank is its count among the barges of its string in tow order; its cut is the k for which the
rank lies in b(k-1) + 1 to b(k), with 0 before the break ranks held and 8 after them; a coupling's ends cross when end A
is a barge of another cut than end B. R181: a BREAK with no item, or with field 3 or 4 but not every field below it, is
refused with BAD_REQUEST. In every phase but REMAKING the first rank that lies outside 1..7, is not greater than the rank
before it, or is not below the rank of some barge is refused with BAD_FIELD naming its field, ahead of the phase; in
REMAKING a list that is not the ranks held is refused naming the first field at which it differs. In BREAKING and SPLIT a
BREAK is refused with WRONG_STATE, and so is one that meets an undamaged main engine sent more than the break limit.
R182, R183, R185, R186, R83: a BREAK of one to three ranks taken in WHOLE writes the ranks and gives every undamaged
coupling the crossing flag of its ends; one taken in REMAKING keeps ranks and flags. Either gives RELEASE to every
undamaged winch-tended crossing coupling, with PAY OUT in a listed winch's slot, and every other coupling stands. It ends
in SPLIT when no crossing coupling is short of UNLASHED, and in BREAKING with their number otherwise. The boat cut is the
one to which the FACE couplings in MADE, SLACK or STRAINED hold the boat: NONE without any, CONFLICT when they lie in two
cuts. LOCKAGE is raised once, and once more when the boat cut enters CONFLICT. The roster and the policy stand. The
response is DONE with phase, boat cut and crossing remaining under fields 1, 5 and 6 (R182); that one taken in REMAKING
carries them too is the model's choice (log 44), and so is how a frame is read that lists the fields out of ascending
order (log 24; the naming of a field in a phase but REMAKING is stated of frames in ascending order). -/
def Obligations.BreakDividesTheTow : Prop :=
  (∀ s : State, s.rosterLaw = true → s.lockageLaw = true →
    (∀ (i : Nat) (b : Barge), s.barges[i]? = some b →
      let rank := ((s.barges.take (i + 1)).filter (·.string == b.string)).length
      s.rank? b.hull = some rank ∧
      ∀ k, s.cut? b.hull = some k ↔
        1 ≤ k ∧ ∃ low high, (0 :: s.lockage.breaks ++ [8])[k - 1]? = some low ∧
          (0 :: s.lockage.breaks ++ [8])[k]? = some high ∧ low < rank ∧ rank ≤ high) ∧
    (∀ h, h ∉ s.barges.map (·.hull) → s.cut? h = none)) ∧
  (∀ (s : State) (endA : Member) (endB : Nat),
    s.endsCross endA endB = true ↔ ∃ h, endA = .barge h ∧ s.cut? h ≠ s.cut? endB) ∧
  ∀ (s : State) (q : Request) (qs : List Request), s.serves q qs → s.errorFree = true → s.recordLaw = true →
    let refused (r : Result) : Prop := exec .breakTow s = .next (s.answered q qs r [] s)
    let frame (ranks : List Int) : List Item := ranks.zipIdx.map fun p => { field := p.2 + 2, value := p.1 }
    let given (ranks : List Int) : Prop :=
      1 ≤ ranks.length ∧ ranks.length ≤ 3 ∧ ∃ is, is.Perm (frame ranks) ∧ q.carries 0x11 0 is
    let fails (ranks : List Int) (i : Nat) : Prop := ∃ v, ranks[i]? = some v ∧
      (v < 1 ∨ 7 < v ∨ v ≤ ((0 :: ranks)[i]?).getD 0 ∨ ∀ b ∈ s.barges, (((s.rank? b.hull).getD 0 : Nat) : Int) ≤ v)
    let calm : Prop := ∀ e ∈ s.engines, e.number ≠ 5 → e.header.damaged = false → e.sent.natAbs ≤ s.policy.breakLimit
    let held : List Int := s.lockage.breaks.map fun b => (b : Int)
    let divides (breaks : List Nat) (flag : State → Coupling → Bool) : Prop :=
      ∃ t, exec .breakTow s = .next t ∧ t.lockage.breaks = breaks ∧
        (let open' := (t.couplings.filter fun c => t.crossing c && c.presents != .unlashed).length
         if open' = 0 then t.lockage.phase = .split ∧ t.lockage.remaining = 0
         else t.lockage.phase = .breaking ∧ t.lockage.remaining = open') ∧
        t.boatCutDecided ∧ t.notices = s.lockageNotices t 1 ∧
        t.couplings = s.couplings.map (fun c =>
          let flagged : Coupling := { c with crossing := flag t c }
          if c.header.damaged then c
          else if flagged.crossing && c.winchTended then flagged.givenRelease else flagged) ∧
        (∀ c ∈ s.couplings, ∀ m k n, c.header.damaged = false → c.tending = .winch m k →
          flag t c = true → (c.state = .unlashed → c.tendOrder = .make) →
          s.nodeOf m = some n → 1 ≤ k → k ≤ n.winches → n.slots.length = n.winches →
          ∃ d ∈ t.tow.nodes, d.address = n.address ∧
            ∃ o : Slot, d.slots[k - 1]? = some (some o) ∧ o.command = .payOut ∧ o.failures = 0) ∧
        t.barges = s.barges ∧ t.strings = s.strings ∧ t.policy = s.policy ∧ t.console.requests = qs ∧
        t.console.responses = s.console.responses ++ [{ tag := q.tag, code := q.code, result := .done, items :=
          [item 1 t.lockage.phase.code, item 5 t.lockage.boatCut.code, item 6 t.lockage.remaining] }]
    (∀ is : List Item, q.carries 0x11 0 is → (∀ i ∈ is, 2 ≤ i.field ∧ i.field ≤ 4) →
      ((∀ i ∈ is, i.field ≠ 2) ∨ (∀ i ∈ is, i.field ≠ 3) ∧ ∃ i ∈ is, i.field = 4) → refused .badRequest) ∧
    (∀ (ranks : List Int) (i : Nat), q.carries 0x11 0 (frame ranks) → ranks.length ≤ 3 → s.lockage.phase ≠ .remaking →
      fails ranks i → (∀ j, j < i → ¬fails ranks j) → refused (.badField (i + 2))) ∧
    (∀ ranks : List Int, given ranks → s.lockage.phase ≠ .remaking → (∀ i, ¬fails ranks i) →
      (s.lockage.phase ≠ .whole ∨ ¬calm → refused .wrongState) ∧
      (s.lockage.phase = .whole → calm → divides (ranks.map Int.toNat) fun t c => t.endsCross c.endA c.endB)) ∧
    ∀ ranks : List Int, given ranks → s.lockage.phase = .remaking →
      (∀ i, ranks[i]? ≠ held[i]? → (∀ j, j < i → ranks[j]? = held[j]?) → refused (.badField (i + 2))) ∧
      (ranks = held → (¬calm → refused .wrongState) ∧ (calm → divides s.lockage.breaks fun _ c => c.crossing))

/-- R184, R183, R186, R84: a REMAKE taken in SPLIT or BREAKING gives every undamaged winch-tended crossing coupling
MAKE. When crossing couplings are then outside the MADE group, the phase is REMAKING with their number, the ranks
stand, and the boat cut is the one that the FACE couplings decide. When there is none the phase is WHOLE, with no
rank, no crossing flag, boat cut NONE and nothing remaining. LOCKAGE is raised for REMAKING, again for WHOLE, and
again when the boat cut passes to CONFLICT. Every other coupling stands. A winch that alone tends its coupling, whose
node is listed and whose coupling takes the MAKE or stands in SLACK, has HEAVE to make-up tension in its slot. -/
def Obligations.RemakeJoinsTheTow : Prop :=
  ∀ (s : State) (q : Request) (qs : List Request),
    s.serves q qs → q.carries 0x12 0 [] → s.errorFree = true → s.recordLaw = true →
    (s.lockage.phase = .split ∨ s.lockage.phase = .breaking) →
    let ordered := s.couplings.map fun c =>
      if !c.header.damaged && c.crossing && c.winchTended then c.givenMake s.clock else c
    let left := (ordered.filter fun c => s.crossing c && !c.presents.inMadeGroup).length
    ∃ t, exec .remake s = .next t ∧ t.barges = s.barges ∧ t.strings = s.strings ∧ t.policy = s.policy ∧
      t.console.requests = qs ∧
      t.console.responses = s.console.responses ++ [{ tag := q.tag, code := q.code, result := .done, items :=
        [item 1 t.lockage.phase.code, item 5 t.lockage.boatCut.code, item 6 t.lockage.remaining] }] ∧
      (if left = 0 then
        t.lockage = { phase := .whole, breaks := [], boatCut := .none, remaining := 0 } ∧
          t.notices = s.lockageNotices t 2 ∧
          t.couplings = ordered.map (fun c => if c.header.damaged then c else { c with crossing := false })
      else
        t.lockage.phase = .remaking ∧ t.lockage.breaks = s.lockage.breaks ∧ t.lockage.remaining = left ∧
          t.boatCutDecided ∧ t.notices = s.lockageNotices t 1 ∧ t.couplings = ordered) ∧
      ∀ c ∈ s.couplings, ∀ m k n, c.header.damaged = false → c.tending = .winch m k → c.crossing = true →
        c.state ≠ .made → c.state ≠ .strained → c.state ≠ .overload →
        (∀ d ∈ s.couplings, ∀ j, d.tending = .winch m j → d = c ∨ (1 ≤ j ∧ j ≠ k)) →
        s.nodeOf m = some n → 1 ≤ k → k ≤ n.winches → n.slots.length = n.winches →
        ∃ d ∈ t.tow.nodes, d.address = n.address ∧ ∃ o : Slot, d.slots[k - 1]? = some (some o) ∧
          o.command = .heave (c.rated * s.policy.makeUpTension / 1000) ∧ o.failures = 0

/-- R67: SWEEP sets the sweep mark to the newcomer pointer. -/
def Obligations.SweepSetsTheMark : Prop :=
  ∀ (s : State) (q : Request) (qs : List Request),
    s.serves q qs → q.carries 0x13 0 [] →
    exec .sweep s = .next (s.answered q qs .done [] { s with tow := { s.tow with sweep := some s.tow.pointer } })

/-- R168, R169: TRANSFER GO of a transfer at rest starts its figures anew and takes the batch check: RUNNING, with the
pump commanded to run, when both tanks allow the batch and the pump's context is in EXCHANGE; HELD(PUMP_LOST) when
that context is missing or in another state. -/
def Obligations.TransferGoTakesTheBatchCheck : Prop :=
  ∀ (s : State) (q : Request) (qs : List Request) (tr : Transfer) (source destination : Tank),
    s.serves q qs → q.carries 0x20 7 [⟨1, tr.number⟩] → s.errorFree = true → s.recordLaw = true →
    s.transfer? tr.number = some tr → tr.header.damaged = false → tr.state.atRest = true →
    s.tank? tr.source = some source → source.header.damaged = false →
    s.tank? tr.destination = some destination → destination.header.damaged = false →
    let fresh : Transfer :=
      { tr with
        batchesDone := 0, batchMoved := 0, totalMoved := 0, gapRequest := false, pendingAbort := false,
        mark := if tr.interval = 0 then none else some (tr.interval * 1000) }
    ((∃ c, s.context? tr.pump = some c ∧ c.state = .exchange) →
      source.lowMark * 1000 + tr.batchVolume * 1000 ≤ source.content →
      (destination.content : Int) + tr.batchVolume * 1000 ≤
        ((destination.capacity : Int) - s.policy.overfillMargin) * 1000 →
      exec .transferGo s = .next (s.answered q qs .done [item 14 1] { s with
        transfers := update (·.number == tr.number) (fun _ => { fresh with state := .running, pumpRun := true })
          s.transfers
        notices := s.notices.raise .transfer })) ∧
    ((∀ c, s.context? tr.pump = some c → c.state ≠ .exchange) →
      exec .transferGo s = .next (s.answered q qs .done [item 14 3, item 15 5] { s with
        transfers := update (·.number == tr.number)
          (fun _ => { fresh with state := .held .pumpLost, pumpRun := false }) s.transfers
        notices := s.notices.raise .transfer }))

/-- R173, R174: STOP AT GAP sets the gap request of a transfer that is not at rest and has no effect on one at rest.
ABORT stops a RUNNING one with its end pending, leaves a STOPPING one to its end, ends a HELD one at once, and is
refused of one at rest. -/
def Obligations.StopAtGapAndAbort : Prop :=
  ∀ (s : State) (q : Request) (qs : List Request) (tr : Transfer),
    s.serves q qs → s.errorFree = true → s.recordLaw = true →
    s.transfer? tr.number = some tr → tr.header.damaged = false →
    let put (t : Transfer) : State :=
      { s with transfers := update (·.number == tr.number) (fun _ => t) s.transfers }
    (q.carries 0x21 7 [⟨1, tr.number⟩] →
      exec .stopAtGap s = .next (s.answered q qs .done [item 14 tr.state.code]
        (if tr.state.atRest then s else put { tr with gapRequest := true }))) ∧
    (q.carries 0x24 7 [⟨1, tr.number⟩] →
      (tr.state = .running →
        exec .abortTransfer s = .next (s.answered q qs .done [item 14 2] (State.raise
          (put { tr with state := .stopping .aborted, pendingAbort := true, pumpRun := false, quiet := 0 })
          .transfer))) ∧
      (∀ cause, tr.state = .stopping cause →
        exec .abortTransfer s = .next (s.answered q qs .done [item 14 2] (put { tr with pendingAbort := true }))) ∧
      (∀ reason, tr.state = .held reason →
        exec .abortTransfer s = .next (s.answered q qs .done [item 14 4] (State.raise
          (put { tr with
            state := .ended .aborted, gapRequest := false, pendingAbort := false, pumpRun := false }) .transfer))) ∧
      (tr.state.atRest = true →
        exec .abortTransfer s = .next (s.answered q qs .wrongState [] s)))

/-- R168, R173: CONTINUE of HELD(GAP_REQUEST) and CONFIRM of HELD(CHECKPOINT), with a batch that is not full and with
both tanks and the pump ready for what remains of it, run the same batch on. -/
def Obligations.ContinueAndConfirmRunOn : Prop :=
  ∀ (s : State) (q : Request) (qs : List Request) (tr : Transfer) (source destination : Tank) (c : Context)
      (i : Instr) (code : Byte),
    s.serves q qs → q.carries code 7 [⟨1, tr.number⟩] → s.errorFree = true → s.recordLaw = true →
    (i = .continueTransfer ∧ code = 0x22 ∧ tr.state = .held .gapRequest) ∨
      (i = .confirm ∧ code = 0x23 ∧ tr.state = .held .checkpoint) →
    s.transfer? tr.number = some tr → tr.header.damaged = false → tr.batchMoved < tr.batchVolume * 1000 →
    s.tank? tr.source = some source → source.header.damaged = false →
    s.tank? tr.destination = some destination → destination.header.damaged = false →
    s.context? tr.pump = some c → c.state = .exchange →
    source.lowMark * 1000 + (tr.batchVolume * 1000 - tr.batchMoved) ≤ source.content →
    (destination.content : Int) + (tr.batchVolume * 1000 - tr.batchMoved : Nat) ≤
      ((destination.capacity : Int) - s.policy.overfillMargin) * 1000 →
    exec i s = .next (s.answered q qs .done [item 14 1] { s with
      transfers := update (·.number == tr.number) (fun _ => { tr with state := .running, pumpRun := true }) s.transfers
      notices := s.notices.raise .transfer })

/-- R152, R153, R159, R160: RECEIVE adds an amount of up to 400,000,000 ml to received and to content; SOUND puts the
content at a figure of up to the capacity and the difference into adjustments. The low flag follows, and FUEL is
raised when it passes to set. -/
def Obligations.ReceiveAndSoundKeepTheAccount : Prop :=
  ∀ (s : State) (q : Request) (qs : List Request) (tk : Tank) (n : Nat),
    s.serves q qs → s.errorFree = true → s.recordLaw = true →
    s.tank? tk.number = some tk → tk.header.damaged = false →
    let put (new : Tank) : State :=
      let low : Bool := decide (new.content < new.lowMark * 1000)
      { s with
        tanks := update (·.number == tk.number) (fun _ => { new with low := low }) s.tanks
        notices := if low && !tk.low then s.notices.raise .fuel else s.notices }
    (q.carries 0x25 6 [⟨1, tk.number⟩, ⟨8, n⟩] →
      (n = 0 → exec .receive s = .next (s.answered q qs .done [item 6 tk.content] s)) ∧
      (1 ≤ n → n ≤ 400000000 → exec .receive s = .next (s.answered q qs .done [item 6 (tk.content + n : Nat)]
        (put { tk with content := tk.content + n, received := tk.received + n }))) ∧
      (400000000 < n → exec .receive s = .next (s.answered q qs (.badField 8) [] s))) ∧
    (q.carries 0x26 6 [⟨1, tk.number⟩, ⟨6, n⟩] →
      (n ≤ tk.capacity * 1000 →
        exec .sound s = .next (s.answered q qs .done [item 6 n, item 12 ((n : Int) - tk.content)]
          (put { tk with content := n, adjustments := tk.adjustments + ((n : Int) - tk.content) }))) ∧
      (tk.capacity * 1000 < n → exec .sound s = .next (s.answered q qs (.badField 6) [] s)))

/-! ## Notices, silence and the patrol -/

/-- R37, R38: NOTICES returns the nine causes in order, each under its cause number, which for NOTICES is the model's
choice (log 45); MASK writes one mask flag and leaves the rest; ACKNOWLEDGE
clears the pending flag only where the count given is the cause's count, and returns what then stands. A cause
outside 1..9 is refused, naming it. -/
def Obligations.NoticesMaskAndAcknowledge : Prop :=
  ∀ (s : State) (q : Request) (qs : List Request), s.serves q qs →
    (q.carries 0x30 0 [] → exec .notices s = .next (s.answered q qs .done
      ([Cause.coupling, .node, .station, .limit, .fuel, .transfer, .lockage, .store, .console].map fun c =>
        let n := s.notices.get c
        { field := c.number, width := some 4, value :=
          ((if n.pending then 65536 else 0) + (if n.mask then 256 else 0) + n.count : Nat) }) s)) ∧
    (∀ (c : Cause) (b : Bool), q.carries 0x32 0 [⟨c.number, if b then 1 else 0⟩] →
      exec .mask s = .next (s.answered q qs .done []
        { s with notices := s.notices.put c { s.notices.get c with mask := b } })) ∧
    (∀ (c : Cause) (v : Nat), v ≤ 255 → q.carries 0x31 0 [⟨c.number, v⟩] →
      let n := s.notices.get c
      let pending := n.pending && v != n.count
      exec .acknowledge s = .next (s.answered q qs .done
        [{ field := c.number, width := some 2, value := ((if pending then 256 else 0) + n.count : Nat) }]
        { s with notices := s.notices.put c { n with pending := pending } })) ∧
    (∀ (f : Nat) (v : Int), (f = 0 ∨ 10 ≤ f) →
      (q.carries 0x32 0 [⟨f, v⟩] → exec .mask s = .next (s.answered q qs (.badField f) [] s)) ∧
      (q.carries 0x31 0 [⟨f, v⟩] → exec .acknowledge s = .next (s.answered q qs (.badField f) [] s)))

/-- R36: END OF NOTICE starts the hold, or restarts it, and the line is deasserted while it runs; at its expiry the
line follows the flags again. -/
def Obligations.EndOfNoticeHoldsTheLine : Prop :=
  (∀ (s : State) (q : Request) (qs : List Request), s.serves q qs → q.carries 0x33 0 [] →
    exec .endOfNotice s =
      .next (s.answered q qs .done [] { s with notices := { s.notices with hold := some s.clock } })) ∧
  (∀ s : State, exec .holdExpiry s = .next { s with notices := { s.notices with hold := none } }) ∧
  ∀ u : NoticeUnit, u.line = true ↔ u.hold = none ∧ ∃ c, (u.get c).pending = true ∧ (u.get c).mask = false

/-- R70, R89, R110: RESET LINKS empties the node list, ends a sweep, takes every context to OFFLINE with no miss and
no baseline, discards results and readings, raises NODE once per node and STATION never, and leaves roster and policy.
The couplings that listed nodes served lose their readings and, but for UNLASHED ones, are LOST; no other changes, and
the lockage ranks stand (R179; of a REMAKING, when something crossing is still to be made, since R183 may end it
otherwise). The stations' engines, channels, gauges and transfers take the consequences of leaving EXCHANGE (R109,
R129, R139, R175), and engine 5 goes OFFLINE with the node at its bow barge (R144, R145). Which words of a damaged
coupling these writes renew (R11) is the model's choice (log 3). -/
def Obligations.ResetLinksStartsTheLinksAfresh : Prop :=
  ∀ (s : State) (q : Request) (qs : List Request), s.serves q qs → q.carries 0x40 0 [] →
    ∃ t, exec .resetLinks s = .next t ∧ t.tow.nodes = [] ∧ t.tow.sweep = none ∧ t.tow.pointer = 1 ∧
      t.tow.round = 0 ∧
      (∀ c ∈ t.link.contexts, c.state = .offline ∧ c.misses = 0 ∧ c.baseline = none) ∧
      t.link.contexts.map (·.address) = s.link.contexts.map (·.address) ∧ t.link.results = [] ∧ t.readings = [] ∧
      t.link.timer = s.link.timer ∧ t.barges = s.barges ∧ t.strings = s.strings ∧ t.policy = s.policy ∧
      t.console.requests = qs ∧
      t.console.responses =
        s.console.responses ++ [{ tag := q.tag, code := q.code, result := .done, items := [] }] ∧
      t.notices.station = s.notices.station ∧
      t.notices.node.count % 256 = (s.notices.node.count + s.tow.nodes.length) % 256 ∧
      (s.tow.nodes ≠ [] → t.notices.node.pending = true) ∧
      (s.errorFree = true → s.recordLaw = true → (s.lockage.phase = .remaking → s.crossingRemaining ≠ 0) →
        t.lockage.breaks = s.lockage.breaks ∧
        t.couplings = s.couplings.map fun c =>
          match c.tending with
          | .hand => c
          | .winch m _ => if (s.nodeOf m).isSome then c.nodeLost else c) ∧
      (∀ h, s.bowBarge? = some h → (s.nodeOf (.barge h)).isSome = true →
        ∀ e ∈ t.engines, e.number = 5 → e.state = .offline) ∧
      ((s.link.contexts.map (·.address)).Nodup → ∀ c ∈ s.link.contexts,
        (c.kind = .engine → ∀ e ∈ t.engines, e.number = c.key →
          (c.state ≠ .offline → e.state = .offline) ∧
          (c.state = .exchange →
            e.allowed = 0 ∧ e.sent = 0 ∧ e.delivered = none ∧ e.alarm = false ∧ e.zeroTime = 0)) ∧
        (c.kind = .rudder → ∀ r ∈ t.rudders, r.channel = c.key →
          (c.state ≠ .offline → r.state = .offline) ∧
          (c.state = .exchange → r.allowed = 0 ∧ r.sent = 0 ∧ r.feedback = none)) ∧
        (c.kind = .gauge → c.state = .exchange → ∀ k ∈ t.tanks, k.number = c.key → k.gauged = none) ∧
        (c.kind = .pump → c.state = .exchange → s.errorFree = true → s.recordLaw = true →
          ∀ tr, s.transfer? c.key = some tr → tr.header.damaged = false → tr.state.inFlight = true →
            ∃ u, t.transfer? c.key = some u ∧ u.pumpRun = false ∧
              u.state = if tr.pendingAbort then .ended .aborted else .held .pumpLost))

/-- R18: CLEAR STORE is refused while an engine is sent an order or a transfer is in flight, and otherwise empties
every table, the boundary entries, the lockage record, the contexts and the readings, and every command slot. The
policy, the tow status and the notices stand. -/
def Obligations.ClearStoreEmptiesTheTables : Prop :=
  ∀ (s : State) (q : Request) (qs : List Request), s.serves q qs → q.carries 0x41 0 [] → s.errorFree = true →
    (((∃ e ∈ s.engines, e.header.damaged = false ∧ e.sent ≠ 0) ∨
        ∃ t ∈ s.transfers, t.header.damaged = false ∧ t.state.inFlight = true) →
      exec .clearStore s = .next (s.answered q qs .wrongState [] s)) ∧
    ((∀ e ∈ s.engines, e.header.damaged = false → e.sent = 0) →
      (∀ t ∈ s.transfers, t.header.damaged = false → t.state.inFlight = false) →
      ∃ t, exec .clearStore s = .next t ∧ t.barges = [] ∧ t.strings = [0, 0, 0, 0, 0, 0] ∧ t.couplings = [] ∧
        t.engines = [] ∧ t.rudders = [] ∧ t.tanks = [] ∧ t.transfers = [] ∧ t.lockage = Lockage.initial ∧
        t.readings = [] ∧ t.link.contexts = [] ∧ t.link.results = [] ∧ t.patrol.position = none ∧
        (∀ n ∈ t.tow.nodes, ∀ o ∈ n.slots, o = none) ∧
        t.tow.nodes.map (·.address) = s.tow.nodes.map (·.address) ∧
        t.policy = s.policy ∧ t.status = s.status ∧ t.notices = s.notices ∧ t.console.requests = qs ∧
        t.console.responses =
          s.console.responses ++ [{ tag := q.tag, code := q.code, result := .done, items := [] }])

/-- R34: at its expiry the silence timer stops and its transaction falls due; granted, the transaction stages 0 for
every undamaged engine and rudder channel, performs a STEP, counts a silence event and raises CONSOLE. Damaged records
and every other record stand, and no response is made. That an expiry adds 1 to what is due also while an earlier
transaction is due or asked for is the model's choice (log 16). -/
def Obligations.ConsoleSilenceStagesZero : Prop :=
  (∀ (s : State) (t : Timer), s.console.silence = some t →
    exec .silenceTimerExpiry s = .next (settle { s with console := { s.console with
      silence := none, silenceDue := s.console.silenceDue + 1 } })) ∧
  ∀ s : State, s.granted .console = true → s.console.askedSilence = true → s.errorFree = true →
    s.recordLaw = true →
    exec .consoleSilence s = .next (s.ended .console { s with
      engines := s.engines.map fun e => if e.header.damaged then e else { e with staged := 0, next := 0 }
      rudders := s.rudders.map fun r => if r.header.damaged then r else { r with staged := 0, next := 0 }
      status := { s.status with
        superseded := if s.status.stepWaiting then min 65535 (s.status.superseded + 1) else s.status.superseded
        stepNumber := if s.status.stepNumber = 255 then 1 else s.status.stepNumber + 1
        stepWaiting := true
        silenceEvents := min 65535 (s.status.silenceEvents + 1) }
      notices := s.notices.raise .console
      console := { s.console with askedSilence := false } })

/-- R11, R12, R15, R16: at each expiry the interval timer restarts and the Patrol asks for the store. Granted, it visits
the first undamaged record behind its position in the round (barges, couplings, engines, rudder channels, tanks, transfers,
each in table order; a barge's place is its place in tow order, and that the place in another table is the key is the
model's choice, log 10), or the first of the round where none comes behind. Every word with one bad bit is counted and
written back free of error, and a clean one is left. A word with two bad bits damages the record, with damaged events
and STORE, and every word with one bad bit is counted; the words of a barge, a coupling, a tank or a transfer are then
left as they are (stated in WHOLE, where no other undamaged record holds a bad bit). The position names the record visited. With
no undamaged record the position stands. Which words a record has is the model's choice (log 3). -/
def Obligations.PatrolRepairsWhatItVisits : Prop :=
  (∀ s : State, exec .patrolTimerExpiry s = .next { s with
    patrol := { s.patrol with start := s.clock }
    arbiter := { s.arbiter with patrol := true } }) ∧
  ∀ s : State, s.granted .patrol = true →
    (s.soundRound = [] → exec .patrolVisit s = .next (s.ended .patrol s)) ∧
    ∀ (t : Tbl) (place key : Nat) (h : Header), (s.soundBehind ++ s.soundRound).head? = some (t, place, key) →
      s.header? t key = some h → h.damaged = false →
      let badBits (w : Nat) : Nat := (h.bad.filter fun p => p.1 == w).length
      let single : Nat := ((wordsOf t).filter fun w => badBits w == 1).length
      let counted : Nat := if single = 0 then s.status.corrected else min 65535 (s.status.corrected + single)
      ((∀ w ∈ wordsOf t, badBits w ≤ 1) →
        exec .patrolVisit s = .next (s.ended .patrol
          { s.modHeader t key fun h => { h with bad := h.bad.filter fun x => !(wordsOf t).contains x.1 } with
            status := { s.status with corrected := counted }
            patrol := { s.patrol with position := some (t, place) } })) ∧
      ((∃ w ∈ wordsOf t, badBits w = 2) → (∀ w ∈ wordsOf t, badBits w ≤ 2) → s.lockage.phase = .whole →
        s.recordLaw = true → (s.modHeader t key fun h => { h with bad := [] }).errorFree = true →
        ∃ u after, exec .patrolVisit s = .next u ∧ u.header? t key = some after ∧ after.damaged = true ∧
          (t ≠ .engines → t ≠ .rudders → after.bad = h.bad) ∧
          u.status.corrected = counted ∧ u.status.damagedEvents = min 65535 (s.status.damagedEvents + 1) ∧
          u.notices.store = (s.notices.raise .store).store ∧ u.patrol.position = some (t, place) ∧
          (t = .barges → exec .patrolVisit s = .next (s.ended .patrol (State.raise
            { s.modHeader t key fun h => { h with damaged := true } with
              status := { s.status with
                corrected := counted, damagedEvents := min 65535 (s.status.damagedEvents + 1) }
              patrol := { s.patrol with position := some (t, place) } } .store))))

/-! ## The tow line -/

/-- R57, R58: a ready Controller that owes no newcomer slot calls the lowest listed address above the round position.
The call to engine 5's bow node carries its sent order in the latest output set, and every other call carries 0. -/
def Obligations.StatusCallVisitsTheNextNode : Prop :=
  ∀ (s : State) (n : Node),
    s.tow.phase = .ready → s.tow.faults = [] → s.tow.rateChange = none →
    (s.tow.sweep = none ∨ s.tow.visitLast = false) →
    s.tow.nodes.find? (fun n => decide (s.tow.round < n.address)) = some n →
    let order : Int := if s.isBowNode n then
        (match s.link.latest with
          | none => 0
          | some o => ((o.orders.find? (·.1 == 5)).map (·.2)).getD 0)
      else 0
    exec .statusCall s = .next { s with tow := { s.tow with
      phase := .statusCall n.address, discard := false, round := n.address, visitLast := true
      sent := [LineFrame.bytes { dest := n.address, kind := 0x10, payload := intBytes 2 order } 127] } }

/-- R53, R54, R59, R191: a good STATUS REPLY is one that starts within the rate's reply timeout, comes from the node
called with a right check, counts the entry's winches, and gives for each a tension of up to 4095 kN and a seated byte
of 0 or 1, and from a BOW node, and from no other, a delivered order, taken within -1000..+1000, and an alarm byte of 0
or 1. It returns the node to LISTED with no miss and asks for the posting transaction of those readings. -/
def Obligations.StatusReplyAsksForPosting : Prop :=
  ∀ (s : State) (r : LineReply) (a : Nat) (n : Node) (winches : List (Byte × Byte × Bool)) (h l : Byte) (alarm : Bool),
    s.tow.phase = .statusCall a → s.tow.discard = false → s.node? a = some n → n.winches = winches.length →
    n.winches ≤ 4 → (∀ w ∈ winches, w.1.toNat * 256 + w.2.1.toNat ≤ 4095) →
    let flag (b : Bool) : Byte := if b then 1 else 0
    let order : Int :=
      if h.toNat < 128 then (h.toNat * 256 + l.toNat : Nat) else (h.toNat * 256 + l.toNat : Nat) - 65536
    r.payload = byte n.winches :: (winches.flatMap fun w => [w.1, w.2.1, flag w.2.2]) ++
      (if n.bow then [h, l, flag alarm] else []) →
    r.good (match s.tow.lineRate with | 1536 => 1000 | 768 => 2000 | 384 => 4000 | _ => 8000) 127 a 0x11
      ((if n.bow then 4 else 1) + 3 * n.winches) →
    exec (.statusReply r) s = .next (settle { s with
      tow := { s.tow with
        nodes := update (·.address == a) (fun n => { n with missing := false, misses := 0 }) s.tow.nodes
        phase := .posting a (winches.map fun w => (w.1.toNat * 256 + w.2.1.toNat, w.2.2))
          (if n.bow then some (max (-1000) (min order 1000), alarm) else none) }
      arbiter := { s.arbiter with towLine := true } })

/-- R53, R59: a STATUS CALL that ends in a miss makes the node MISSING and counts, and the third miss in a row asks
for the drop transaction instead. A miss at a PRESENCE CALL counts nowhere. -/
def Obligations.MissesAreCountedAndTheThirdDrops : Prop :=
  (∀ (s : State) (a : Nat) (n : Node), s.tow.phase = .statusCall a → s.tow.discard = false → s.node? a = some n →
    exec .towReplyTimeout s = .next (settle (if n.misses < 2 then
        { s with tow := { s.tow with
          nodes := update (·.address == a) (fun n => { n with missing := true, misses := n.misses + 1 }) s.tow.nodes
          phase := .ready, discard := false } }
      else { s with
        tow := { s.tow with phase := .dropping a }
        arbiter := { s.arbiter with towLine := true } }))) ∧
  ∀ (s : State) (a : Nat), s.tow.phase = .presence a →
    exec .towReplyTimeout s = .next (settle { s with tow := { s.tow with phase := .ready, discard := false } })

/-- R60, R61, R79 to R82: the posting transaction writes a winch's reading into the one coupling it serves and moves
the coupling by the table of R79, with the tension evaluation of R80 in the MADE group and on entry to it. The command
of the move stands in the winch's slot with failure count 0, COUPLING is raised when the coupling enters LOST, SLACK
or OVERLOAD, and the visit goes on with a delivery. Stated of a node that is not at the bow barge, in WHOLE, and in
BREAKING and REMAKING, where the completion test follows and then the boat cut (R183, R186): nothing left ends
BREAKING in SPLIT and REMAKING in WHOLE, with LOCKAGE. R144, R145: of a node at the bow barge that serves no coupling,
a posting takes engine 5 to RUNNING for a BOW node, whose report goes into an undamaged record, with NODE when the
alarm passes to set; and to REJECTED for a WINCH node, with NODE and the leaving of RUNNING, unless it is REJECTED
already. The state of a damaged engine 5 is written too, and which of its words the writes renew (R11) is the model's
choice (log 3). -/
def Obligations.PostingMovesACoupling : Prop :=
  (∀ (s : State) (a t : Nat) (n : Node) (m : Member) (c : Coupling) (seated : Bool),
    s.granted .towLine = true → s.tow.phase = .posting a [(t, seated)] none → s.node? a = some n → 1 ≤ n.winches →
    s.bound a = some m → s.bowBarge?.map Member.barge ≠ some m → s.errorFree = true → s.recordLaw = true →
    s.couplings.filter (·.tendedByWinch m 1) = [c] → c.header.damaged = false →
    let move := c.posted s.policy s.clock t seated
    let moved : State := { s with
      couplings := update (·.number == c.number) (fun _ => move.1) s.couplings
      notices := if c.entersAlarm move.1 then s.notices.raise .coupling else s.notices
      tow := match move.2 with
        | none => { s.tow with phase := .enquiryDue a }
        | some w => { s.tow with
          phase := .enquiryDue a
          nodes := update (·.address == a) (fun d => { d with
            slots := d.slots.set 0 (some { command := w, stamp := s.tow.stamps, failures := 0 }) }) s.tow.nodes
          stamps := s.tow.stamps + 1 } }
    (s.lockage.phase = .whole → exec .postingTransaction s = .next (s.ended .towLine moved)) ∧
    (s.lockage.phase = .breaking →
      let left := (moved.couplings.filter fun d => moved.crossing d && d.presents != .unlashed).length
      ∃ cut, let after : State := { moved with lockage := { s.lockage with
          phase := if left = 0 then .split else .breaking, boatCut := cut, remaining := left } }
        after.boatCutDecided ∧ exec .postingTransaction s = .next (s.ended .towLine
          { after with notices := moved.lockageNotices after (if left = 0 then 1 else 0) })) ∧
    (s.lockage.phase = .remaking →
      let left := (moved.couplings.filter fun d => moved.crossing d && !d.presents.inMadeGroup).length
      if left = 0 then
        exec .postingTransaction s = .next (s.ended .towLine { moved with
          couplings := moved.couplings.map fun d => if d.header.damaged then d else { d with crossing := false }
          lockage := { phase := .whole, breaks := [], boatCut := .none, remaining := 0 }
          notices := moved.notices.raise .lockage })
      else
        ∃ cut, let after : State := { moved with lockage := { s.lockage with boatCut := cut, remaining := left } }
          after.boatCutDecided ∧ exec .postingTransaction s = .next (s.ended .towLine
            { after with notices := moved.lockageNotices after 0 }))) ∧
  ∀ (s : State) (a h : Nat) (n : Node) (e : Engine) (readings : List (Nat × Bool)) (report : Option (Int × Bool)),
    s.granted .towLine = true → s.tow.phase = .posting a readings report → s.node? a = some n →
    s.bound a = some (.barge h) → s.bowBarge? = some h → s.engine? 5 = some e → s.errorFree = true →
    s.recordLaw = true → (∀ c ∈ s.couplings, c.tendedBy (.barge h) = false) →
    let write (new : Engine) (noticed : Bool) : State := { s with
      engines := update (·.number == 5) (fun _ => new) s.engines
      notices := if noticed then s.notices.raise .node else s.notices
      tow := { s.tow with phase := .enquiryDue a } }
    (∀ d alarm, n.bow = true → report = some (d, alarm) →
      exec .postingTransaction s = .next (s.ended .towLine (
        if e.header.damaged then write (e.inState .running) false
        else write { e with state := .running, delivered := some d, alarm := alarm } (alarm && !e.alarm)))) ∧
    (n.bow = false → report = none →
      exec .postingTransaction s = .next (s.ended .towLine (match e.state with
        | .rejected => write (e.inState .rejected) false
        | .running => write (e.stopped .rejected) true
        | .offline => write (e.inState .rejected) true
        | .admitting => write (e.inState .rejected) true)))

/-- R62: READY ENQUIRY names the slots that hold commands and COMMAND carries them. An ACCEPT of the enquiry leads to
the COMMAND, and an ACCEPT of the COMMAND empties the slot and asks for the delivery transaction. A DEFER adds 1 to
the slot's failure count, and the third failure asks for that transaction. Stated of a node whose second winch
alone holds a command. -/
def Obligations.DeliveryCarriesHeldCommands : Prop :=
  ∀ (s : State) (a : Nat) (n : Node) (c : Slot), s.node? a = some n → n.slots = [none, some c] →
    (s.tow.phase = .enquiryDue a → exec .readyEnquiry s = .next (settle { s with tow := { s.tow with
      phase := .enquiry a [(2, c.stamp)], discard := false
      sent := [LineFrame.bytes { dest := a, kind := 0x12, payload := [2] } 127] } })) ∧
    (s.tow.phase = .commandDue a → exec .command s = .next (settle { s with tow := { s.tow with
      phase := .commanding a [(2, c.stamp)], discard := false
      sent := [LineFrame.bytes { dest := a, kind := 0x15, payload :=
        [1, 2, byte c.command.code, byte (c.command.target / 256), byte c.command.target] } 127] } })) ∧
    (∀ r : LineReply, s.tow.discard = false →
      r.good (match s.tow.lineRate with | 1536 => 1000 | 768 => 2000 | 384 => 4000 | _ => 8000) 127 a 0x13 0 →
      (s.tow.phase = .enquiry a [(2, c.stamp)] →
        exec (.accept r) s = .next (settle { s with tow := { s.tow with phase := .commandDue a } })) ∧
      (s.tow.phase = .commanding a [(2, c.stamp)] →
        exec (.accept r) s = .next (settle { s with
          tow := { s.tow with
            nodes := update (·.address == a) (·.taken [(2, c.stamp)]) s.tow.nodes
            phase := .delivering a [2] }
          arbiter := { s.arbiter with towLine := true } }) ∧
        (n.taken [(2, c.stamp)]).slots = [none, none])) ∧
    (∀ r : LineReply, s.tow.discard = false → s.tow.phase = .enquiry a [(2, c.stamp)] →
      let left : State := { s with tow := { s.tow with
        nodes := update (·.address == a) (·.failed [(2, c.stamp)]) s.tow.nodes } }
      exec (.defer r) s = .next (settle (if 2 ≤ c.failures then
          { left with
            tow := { left.tow with phase := .delivering a [] }, arbiter := { s.arbiter with towLine := true } }
        else { left with tow := { left.tow with phase := .ready } })) ∧
      (n.failed [(2, c.stamp)]).slots = [none, some { c with failures := c.failures + 1 }])

/-- R61, R63: at a third failure the delivery transaction empties the slot and sets the winch fault flag of the
coupling served, raising COUPLING when the flag passes to set. An accepted command clears the flag: its slot is empty
then, or holds a command placed since, which stays (log 15). The winch fault transaction sets the flag for a winch
beyond its node's count, whatever has become of the node since. Stated in WHOLE, of a winch that serves one coupling. -/
def Obligations.WinchFaultsFollowDeliveries : Prop :=
  ∀ (s : State) (m : Member) (w : Nat) (c : Coupling), s.granted .towLine = true → s.errorFree = true →
    s.lockage.phase = .whole → s.couplings.filter (·.tendedByWinch m w) = [c] → s.coupling? c.number = some c →
    c.header.damaged = false →
    let flagged (b : Bool) : State :=
      { s with
        couplings := update (·.number == c.number) (fun d => { d with winchFault := b }) s.couplings
        notices := if b && !c.winchFault then s.notices.raise .coupling else s.notices }
    (∀ (a : Nat) (n : Node), s.node? a = some n → s.bound a = some m → w = 1 →
      (∀ o, n.slots = [some o] → s.tow.phase = .delivering a [] → 3 ≤ o.failures →
        exec .deliveryTransaction s = .next (s.ended .towLine { flagged true with tow := { s.tow with
          phase := .ready, nodes := update (·.address == a) Node.faulted s.tow.nodes } }) ∧
        n.faulted.slots = [none]) ∧
      (∀ slot : Option Slot, n.slots = [slot] → (∀ o, slot = some o → o.failures < 3) →
        s.tow.phase = .delivering a [1] →
        exec .deliveryTransaction s = .next (s.ended .towLine { flagged false with tow := { s.tow with
          phase := .ready, nodes := update (·.address == a) Node.faulted s.tow.nodes } }) ∧
        n.faulted.slots = [slot])) ∧
    (s.tow.phase = .faulting → s.tow.faults = [{ member := m, winch := w }] →
      exec .winchFaultTransaction s = .next (s.ended .towLine
        { flagged true with tow := { s.tow with phase := .ready, faults := [] } }))

/-- R64: at a newcomer slot the Controller calls the first address, at or after the pointer in the rotation 1, 2, …,
126, 1, …, that no entry of the list holds, and sets the pointer to the address after it. A slot is due at the end of
a round with no sweep running, after a visit of a sweep, and at every readiness with an empty list (R57). A sweep ends
at the slot that brings the pointer back to its mark, by the call or by passing over listed addresses (R67); the
second clause is such a slot in the ordinary case, with no address passed over. -/
def Obligations.PresenceCallTakesTheNextUnlistedAddress : Prop :=
  (∀ (s : State) (a : Nat),
    s.tow.phase = .ready → s.tow.faults = [] → s.tow.rateChange = none →
    (s.tow.sweep = none ∧ (∀ n ∈ s.tow.nodes, n.address ≤ s.tow.round) ∨
      (∃ mark, s.tow.sweep = some mark) ∧ s.tow.visitLast = true ∨ s.tow.nodes = []) →
    1 ≤ s.tow.pointer → s.tow.pointer ≤ 126 → 1 ≤ a → a ≤ 126 → (∀ n ∈ s.tow.nodes, n.address ≠ a) →
    (∀ x, 1 ≤ x → x ≤ 126 →
      (if s.tow.pointer ≤ a then s.tow.pointer ≤ x ∧ x < a else s.tow.pointer ≤ x ∨ x < a) →
      ∃ n ∈ s.tow.nodes, n.address = x) →
    let passedOver := if s.tow.pointer ≤ a then a - s.tow.pointer else 126 - s.tow.pointer + a
    let toTheMark (mark : Nat) : Nat :=
      if s.tow.pointer < mark then mark - s.tow.pointer else 126 - (s.tow.pointer - mark)
    exec .presenceCall s = .next { s with tow := { s.tow with
      phase := .presence a, discard := false, pointer := if a = 126 then 1 else a + 1, visitLast := false
      round := if s.tow.sweep.isSome ∧ s.tow.visitLast = true then s.tow.round else 0
      sweep := s.tow.sweep.bind fun mark => if toTheMark mark ≤ passedOver + 1 then none else some mark
      sent := [LineFrame.bytes { dest := a, kind := 0x16, payload := [] } 127] } }) ∧
  ∀ (s : State) (mark : Nat),
    s.tow.phase = .ready → s.tow.faults = [] → s.tow.rateChange = none → s.tow.sweep = some mark →
    s.tow.visitLast = true → 1 ≤ mark → mark ≤ 126 → 1 ≤ s.tow.pointer → s.tow.pointer ≤ 126 →
    (∀ n ∈ s.tow.nodes, n.address ≠ s.tow.pointer) →
    let next := if s.tow.pointer = 126 then 1 else s.tow.pointer + 1
    exec .presenceCall s = .next { s with tow := { s.tow with
      phase := .presence s.tow.pointer, discard := false, pointer := next, visitLast := false
      sweep := if next = mark then none else some mark
      sent := [LineFrame.bytes { dest := s.tow.pointer, kind := 0x16, payload := [] } 127] } }

/-- R65, R66: a good PRESENCE REPLY enters the node at its place in address order, LISTED and with empty slots, while
the list holds fewer than 32 entries; with 32 it is turned away, counted and noticed. -/
def Obligations.PresenceReplyEntersOrTurnsAway : Prop :=
  ∀ (s : State) (r : LineReply) (a : Nat) (bow : Bool) (count : Byte),
    s.tow.phase = .presence a → s.tow.discard = false → r.payload = [if bow then 2 else 1, count] →
    1 ≤ count.toNat → count.toNat ≤ 4 →
    r.good (match s.tow.lineRate with | 1536 => 1000 | 768 => 2000 | 384 => 4000 | _ => 8000) 127 a 0x17 2 →
    (s.tow.nodes.length < 32 →
      exec (.presenceReply r) s = .next (settle { s with tow := { s.tow with
        phase := .ready
        nodes := insertByKey (·.address)
          { address := a, bow := bow, winches := count.toNat, missing := false, misses := 0,
            slots := List.replicate count.toNat none } s.tow.nodes } })) ∧
    (32 ≤ s.tow.nodes.length →
      exec (.presenceReply r) s = .next (settle { s with
        tow := { s.tow with phase := .ready }
        status := { s.status with turnedAway := min 65535 (s.status.turnedAway + 1) }
        notices := s.notices.raise .node }))

/-- R68, R82, R89: the drop transaction removes the node, makes the readings of a coupling it served absent and the
coupling LOST with its timers stopped and its tend order kept, and raises COUPLING and then NODE. R144, R145: engine 5
goes OFFLINE with the node at its bow barge, and leaves RUNNING with its orders and zero time 0 and no report; which words of a
damaged engine 5 these writes renew (R11) is the model's choice (log 3). Stated in WHOLE, of a node that serves one
coupling. -/
def Obligations.DropLosesTheCoupling : Prop :=
  ∀ (s : State) (a : Nat) (n : Node) (m : Member) (c : Coupling),
    s.granted .towLine = true → s.tow.phase = .dropping a → s.node? a = some n → s.bound a = some m →
    (s.bowBarge?.map Member.barge ≠ some m ∨ s.recordLaw = true) → s.errorFree = true → s.lockage.phase = .whole →
    s.couplings.filter (·.tendedBy m) = [c] → s.coupling? c.number = some c → c.header.damaged = false →
    c.state ≠ .unlashed → c.state ≠ .lost →
    exec .dropTransaction s = .next (s.ended .towLine { s with
      couplings := update (·.number == c.number) (fun d => { d with
        state := .lost, tension := none, seated := none, debounce := none, slackTimer := none }) s.couplings
      engines := if s.bowBarge?.map Member.barge = some m then
          update (·.number == 5)
            (fun e => if e.state = .running then e.stopped .offline else e.inState .offline) s.engines
        else s.engines
      tow := { s.tow with phase := .ready, nodes := s.tow.nodes.filter (·.address != a) }
      notices := (s.notices.raise .coupling).raise .node })

/-- R6, R7, R33, R188: an AMEND of one policy field in its range writes that field and nothing else, and one out of
range is refused; a change of console silence to 0 stops the silence timer. A boat node address that a barge holds is
in use, a change of it waits until no coupling tended by BOAT is lashed, and it makes their readings absent (R90;
stated where neither address is listed). A tow-line rate other than the four is refused, the rate held changes
nothing, and a change is refused while a winch-tended coupling is not UNLASHED. Taken, it empties the node list with
NODE once per node, takes readings with it and engine 5 OFFLINE with the node at its bow barge, abandons the exchange
under way, and leaves the new rate to be announced (R68, R71, R144; stated where the machinery cycle and REMAKING are
not about to end). R71, R190: with no exchange under way, a new line
rate is announced by two broadcast LINE RATE frames and then in force; that one step does all of it is the model's
choice (log 17). A frame carries its destination, the part's address 127, its kind, the length of its payload, the
payload, and the check code over the bytes before it, most significant byte first. -/
def Obligations.LineRateIsAnnouncedTwice : Prop :=
  (∀ (s : State) (rate : Nat), s.tow.phase = .ready → s.tow.rateChange = some rate →
    let head : List Byte := [0, 127, 0x18, 2, byte (rate / 256), byte rate]
    let frame : List Byte := head ++ [byte ((crc16 head).toNat / 256), byte (crc16 head).toNat]
    exec .lineRate s = .next (settle { s with tow := { s.tow with
      lineRate := rate, rateChange := none, sent := [frame, frame] } })) ∧
  ∀ (s : State) (q : Request) (qs : List Request) (v : Nat), s.serves q qs → s.errorFree = true →
    (∀ f ∈ policyFields, q.carries 0x04 8 [⟨f.1, v⟩] →
      exec .amend s = .next (if f.2.1 ≤ v ∧ v ≤ f.2.2.1 then
          s.answered q qs .done [] { s with policy := f.2.2.2 s.policy v }
        else s.answered q qs (.badField f.1) [] s)) ∧
    (q.carries 0x04 8 [⟨16, v⟩] →
      exec .amend s = .next (if v ≤ 60 then
          s.answered q qs .done [] { s with
            policy := { s.policy with consoleSilence := v }
            console := { s.console with
              silence := if v = 0 ∧ s.policy.consoleSilence ≠ 0 then none else s.console.silence } }
        else s.answered q qs (.badField 16) [] s)) ∧
    (q.carries 0x04 8 [⟨15, v⟩] → v ≤ 126 → v ≠ s.policy.boatNode →
      (v ≠ 0 → (∃ b ∈ s.barges, b.node = some v) → exec .amend s = .next (s.answered q qs .addressInUse [] s)) ∧
      (v = 0 ∨ (∀ b ∈ s.barges, b.node ≠ some v) →
        ((∃ c ∈ s.couplings, c.tendedBy .boat = true ∧ c.presents ≠ .unlashed) →
          exec .amend s = .next (s.answered q qs .wrongState [] s)) ∧
        ((∀ c ∈ s.couplings, c.tendedBy .boat = true → c.presents = .unlashed) → s.recordLaw = true →
          (∀ n ∈ s.tow.nodes, n.address ≠ v ∧ n.address ≠ s.policy.boatNode) →
          exec .amend s = .next (s.answered q qs .done [] { s with
            policy := { s.policy with boatNode := v }
            couplings := s.couplings.map fun c =>
              if c.tendedBy .boat then { c with tension := none, seated := none } else c })))) ∧
    (q.carries 0x04 8 [⟨14, v⟩] →
      (v ∉ [1536, 768, 384, 192] → exec .amend s = .next (s.answered q qs (.badField 14) [] s)) ∧
      (v ∈ [1536, 768, 384, 192] → v = s.policy.towLineRate → exec .amend s = .next (s.answered q qs .done [] s)) ∧
      (v ∈ [1536, 768, 384, 192] → v ≠ s.policy.towLineRate →
        ((∃ c ∈ s.couplings, c.winchTended = true ∧ c.presents ≠ .unlashed) →
          exec .amend s = .next (s.answered q qs .wrongState [] s)) ∧
        ((∀ c ∈ s.couplings, c.winchTended = true → c.presents = .unlashed) → s.recordLaw = true →
          s.advanceCycle = s → (s.lockage.phase = .remaking → s.crossingRemaining ≠ 0) →
          ∃ t, exec .amend s = .next t ∧ t.policy = { s.policy with towLineRate := v } ∧ t.tow.nodes = [] ∧
            t.tow.rateChange = some v ∧ t.tow.lineRate = s.tow.lineRate ∧ t.tow.sweep = none ∧ t.tow.pointer = 1 ∧
            (s.tow.faults = [] → (∃ a carried, s.tow.phase = .statusCall a ∨ s.tow.phase = .presence a ∨
                s.tow.phase = .enquiry a carried ∨ s.tow.phase = .commanding a carried) → t.tow.phase = .ready) ∧
            t.notices.node.count % 256 = (s.notices.node.count + s.tow.nodes.length) % 256 ∧
            t.notices.coupling = s.notices.coupling ∧
            t.couplings = s.couplings.map (fun c => match c.tending with
              | .hand => c
              | .winch m _ => if (s.nodeOf m).isSome then { c with tension := none, seated := none } else c) ∧
            (∀ h, s.bowBarge? = some h → (s.nodeOf (.barge h)).isSome = true →
              ∀ e ∈ t.engines, e.number = 5 → e.state = .offline) ∧
            t.barges = s.barges ∧ t.link = s.link ∧ t.console.requests = qs ∧
            t.console.responses =
              s.console.responses ++ [{ tag := q.tag, code := q.code, result := .done, items := [] }])))

/-! ## The machinery link and the fuel account -/

/-- R99, R100, R119: an expiry restarts the cycle timer with the policy's period, counts an overrun when the previous
cycle has not ended, and asks for the cycle computation, whose period is that of the run that expired. CYCLE START
goes out when no cycle runs and a set has been written since, and copies the latest set. -/
def Obligations.CycleTimerAndCycleStart : Prop :=
  (∀ s : State, exec .cycleTimerExpiry s = .next { s with
    status := { s.status with
      overruns := if s.link.cycle.isSome then min 65535 (s.status.overruns + 1) else s.status.overruns }
    openedPeriod := if s.arbiter.coordination then s.openedPeriod else s.link.timer.period / 1000
    arbiter := { s.arbiter with coordination := true }
    link := { s.link with timer := { start := s.clock, period := s.policy.machineryCycle * 1000 } } }) ∧
  ∀ (s : State) (o : OutputSet), s.link.cycle = none → s.link.fresh = true → s.link.latest = some o →
    exec .cycleStart s = .next (settle { s with link := { s.link with
      cycle := some { copy := o, slots := s.link.contexts.map (·.address) }, fresh := false
      sent := [LineFrame.bytes { dest := 0, kind := 0x40, payload :=
        [byte (o.cycleCount / 16777216), byte (o.cycleCount / 65536), byte (o.cycleCount / 256), byte o.cycleCount,
          byte o.stepNumber] } 32] } })

/-- R100, R103, R104, R106: the slot of a context sends the frame of its state. OUTPUT in EXCHANGE carries an engine's
order or a channel's angle in the cycle's copy, a pump's command, and nothing for a meter or a gauge. CONFIGURATION in
CONFIGURE carries the kind and one channel. PARAMETERS carries the parameter copy, and for an engine the policy's
reversal dwell as well, in PARAMETERIZE, and in OFFLINE when the retry timer is due, which restarts it. -/
def Obligations.SlotsSendTheFrameOfTheState : Prop :=
  ∀ (s : State) (c : Cycle) (k : Context) (rest : List Nat),
    s.link.cycle = some c → s.link.exchange = none → c.slots = k.address :: rest → s.context? k.address = some k →
    let sending (kind : Nat) (payload : List Byte) : State := { s with link := { s.link with
      cycle := some { c with slots := rest }
      exchange := some { address := k.address, held := k.state, stale := false }
      sent := [LineFrame.bytes { dest := k.address, kind := kind, payload := payload } 32] } }
    let parameters : List Byte := match k.parameters with
      | .engine rated =>
        [byte (rated / 256), byte rated, byte (s.policy.reversalDwell / 256), byte s.policy.reversalDwell]
      | .rudder limit rate => [byte (limit / 256), byte limit, byte (rate / 256), byte rate]
      | .factor f => [byte (f / 16777216), byte (f / 65536), byte (f / 256), byte f]
      | .gauge capacity => [byte (capacity / 16777216), byte (capacity / 65536), byte (capacity / 256), byte capacity]
    (k.state = .exchange →
      (k.kind = .engine → ∀ o, c.copy.orders.find? (·.1 == k.key) = some (k.key, o) →
        exec .output s = .next (settle (sending 0x46 (intBytes 2 o)))) ∧
      (k.kind = .rudder → ∀ a, c.copy.angles.find? (·.1 == k.key) = some (k.key, a) →
        exec .output s = .next (settle (sending 0x46 (intBytes 2 a)))) ∧
      (k.kind = .engine → c.copy.orders.find? (·.1 == k.key) = none →
        exec .output s = .next (settle (sending 0x46 [0, 0]))) ∧
      (k.kind = .rudder → c.copy.angles.find? (·.1 == k.key) = none →
        exec .output s = .next (settle (sending 0x46 [0, 0]))) ∧
      (k.kind = .pump → ∀ t, s.transfer? k.key = some t →
        exec .output s = .next (settle (sending 0x46 [if t.pumpRun then 1 else 0]))) ∧
      (k.kind = .meter ∨ k.kind = .gauge → exec .output s = .next (settle (sending 0x46 [])))) ∧
    (k.state = .configure → exec .configuration s = .next (settle (sending 0x44 [byte k.kind.code, 1]))) ∧
    (k.state = .parameterize → exec .parameters s = .next (settle (sending 0x41 parameters))) ∧
    (k.state = .offline → (k.retry = none ∨ ∃ t, k.retry = some t ∧ 1000000 ≤ s.clock - t) →
      let sent := sending 0x41 parameters
      let contexts := update (·.address == k.address) (fun d => { d with retry := some s.clock }) s.link.contexts
      exec .parameters s = .next (settle { sent with link := { sent.link with contexts := contexts } }))

/-- R101 to R104, R107, R192: a good answer ends the slot with its contents, and a timeout ends it with a miss; either
joins the results with the state that the slot found. An INPUT carries the values of the context's kind: figures out
of range are taken as the nearer end, 0x8000 is no temperature, and a flag byte other than 0 and 1 makes a miss. -/
def Obligations.AnswersEndTheSlot : Prop :=
  ∀ (s : State) (e : LinkExchange) (r : LineReply), s.link.exchange = some e →
    let ended (o : SlotOutcome) : State := settle { s with link := { s.link with
      exchange := none
      results := s.link.results ++ [{ address := e.address, held := e.held, outcome := o, stale := e.stale }] } }
    let signed (h l : Byte) : Int :=
      if h.toNat < 128 then (h.toNat * 256 + l.toNat : Nat) else (h.toNat * 256 + l.toNat : Nat) - 65536
    let temperature (h l : Byte) : Option Int := if h = 0x80 ∧ l = 0 then none else some (signed h l)
    (∀ c : Context, s.context? e.address = some c → e.held = .exchange →
      (∀ h l a : Byte, c.kind = .engine → r.payload = [h, l, a] → r.good 400 32 e.address 0x47 3 →
        exec (.input r) s = .next (ended (if a = 0 ∨ a = 1 then
          .input (.engine (max (-1000) (min (signed h l) 1000)) (a == 1)) else .miss))) ∧
      (∀ h l : Byte, c.kind = .rudder → r.payload = [h, l] → r.good 400 32 e.address 0x47 2 →
        exec (.input r) s = .next (ended (.input (.rudder (max (-900) (min (signed h l) 900)))))) ∧
      (∀ h l a b : Byte, c.kind = .meter → r.payload = [h, l, a, b] → r.good 400 32 e.address 0x47 4 →
        exec (.input r) s = .next (ended (.input (.meter (h.toNat * 256 + l.toNat) (temperature a b))))) ∧
      (∀ h l a b f : Byte, c.kind = .pump → r.payload = [h, l, a, b, f] → r.good 400 32 e.address 0x47 5 →
        exec (.input r) s = .next (ended (if f = 0 ∨ f = 1 then
          .input (.pump (h.toNat * 256 + l.toNat) (temperature a b) (f == 1)) else .miss))) ∧
      (∀ a b h l : Byte, c.kind = .gauge → r.payload = [a, b, h, l] → r.good 400 32 e.address 0x47 4 →
        exec (.input r) s = .next (ended (.input (.gauge
          (min (((a.toNat * 256 + b.toNat) * 256 + h.toNat) * 256 + l.toNat) 400000)))))) ∧
    (e.held = .parameterize ∨ e.held = .offline → r.good 400 32 e.address 0x42 0 →
      exec (.paramOk r) s = .next (ended .paramOk)) ∧
    (e.held = .parameterize ∨ e.held = .offline → r.good 400 32 e.address 0x43 0 →
      exec (.paramFault r) s = .next (ended .paramFault)) ∧
    (∀ kind channels : Byte, e.held = .configure → r.payload = [kind, channels] → r.good 400 32 e.address 0x45 2 →
      exec (.configurationReply r) s = .next (ended (.configuration kind.toNat channels.toNat))) ∧
    exec .machineryReplyTimeout s = .next (ended .miss)

/-- R102 to R104, R107 to R109, R129, R139, R175: the posting of one result. PARAM OK leads to CONFIGURE, PARAM FAULT
and a wrong configuration to REJECTED with STATION, a right one to EXCHANGE with no miss and no baseline, and a miss
before EXCHANGE to OFFLINE; an engine or rudder channel mirrors the state. In EXCHANGE the first two misses are
counted, and the third takes the context OFFLINE with the consequences of its kind and raises STATION. An INPUT clears
the misses. An engine's, a channel's or a tank's values go into an undamaged record, with STATION when an alarm passes
to set, and a meter's or a pump's reading joins the reading list while it holds fewer than 12. A result that is stale,
or whose context has gone or changed state, is discarded. A damaged record's state is written too, and which of its
words the writes renew (R11) is the model's choice (log 3). -/
def Obligations.PostingAppliesAResult : Prop :=
  (∀ (s : State) (c : Context) (outcome : SlotOutcome), s.granted .machinery = true → s.errorFree = true →
    s.recordLaw = true → (s.link.contexts.map (·.address)).Nodup → s.context? c.address = some c →
    s.link.results = [{ address := c.address, held := c.state, outcome := outcome, stale := false }] →
    let posted (t : State) : Prop := exec .machineryPosting s = .next (s.ended .machinery t)
    let contexts (f : Context → Context) : MachineryLink :=
      { s.link with results := [], contexts := update (·.address == c.address) f s.link.contexts }
    let station : NoticeUnit := s.notices.raise .station
    let mirrored (u : UnitState) (l : MachineryLink) : State := { s with
      link := l
      engines := if c.kind = .engine then update (·.number == c.key) (·.inState u) s.engines
        else s.engines
      rudders := if c.kind = .rudder then update (·.channel == c.key) (·.inState u) s.rudders
        else s.rudders }
    let lost : MachineryLink := contexts fun d => { d with state := .offline, misses := 0 }
    let unmetered : MachineryLink := contexts fun d =>
      { d with state := .offline, misses := 0, baseline := none, lastTemperature := none }
    let code : Nat := match c.kind with | .engine => 1 | .rudder => 2 | .meter => 3 | .pump => 4 | .gauge => 5
    (c.state = .parameterize ∨ c.state = .offline → outcome = .paramOk →
      posted (mirrored .admitting (contexts fun d => { d with state := .configure }))) ∧
    (c.state = .parameterize ∨ c.state = .offline → outcome = .paramFault →
      posted { mirrored .rejected (contexts fun d => { d with state := .rejected }) with notices := station }) ∧
    (∀ kind channels, c.state = .configure → outcome = .configuration kind channels →
      (kind = code → channels = 1 → posted (mirrored .running (contexts fun d =>
        { d with state := .exchange, misses := 0, baseline := none, lastTemperature := none }))) ∧
      (kind ≠ code ∨ channels ≠ 1 →
        posted { mirrored .rejected (contexts fun d => { d with state := .rejected }) with notices := station })) ∧
    (outcome = .miss →
      (c.state = .parameterize ∨ c.state = .configure →
        posted (mirrored .offline (contexts fun d => { d with state := .offline }))) ∧
      (c.state = .offline → posted { s with link := { s.link with results := [] } }) ∧
      (c.state = .exchange → c.misses < 2 →
        posted { s with link := contexts fun d => { d with misses := c.misses + 1 } }) ∧
      (c.state = .exchange → 2 ≤ c.misses →
        (c.kind = .engine → posted { s with
          link := lost, notices := station
          engines := update (·.number == c.key) (·.stopped .offline) s.engines }) ∧
        (c.kind = .rudder → posted { s with
          link := lost, notices := station
          rudders := update (·.channel == c.key)
            (fun r => Rudder.renew { r with allowed := 0, sent := 0, feedback := none, state := .offline } [10, 11, 12, 13])
            s.rudders }) ∧
        (c.kind = .gauge → posted { s with
          link := lost, notices := station
          tanks := update (·.number == c.key) (fun k => Tank.renew { k with gauged := none } [15]) s.tanks }) ∧
        (c.kind = .meter → posted { s with
          link := unmetered, notices := station, readings := s.readings.filter (·.address != c.address) }) ∧
        ∀ tr, c.kind = .pump → s.transfer? c.key = some tr → tr.header.damaged = false →
          let gone : State :=
            { s with link := unmetered, readings := s.readings.filter (·.address != c.address), notices := station }
          posted (if tr.state.inFlight then { gone with
              transfers := update (·.number == c.key) (fun _ => { tr with
                state := if tr.pendingAbort then .ended .aborted else .held .pumpLost
                pumpRun := false
                mark := tr.mark.map fun _ => (tr.totalMoved / (tr.interval * 1000) + 1) * (tr.interval * 1000)
                gapRequest := tr.gapRequest && !tr.pendingAbort, pendingAbort := false }) s.transfers
              notices := (s.notices.raise .transfer).raise .station }
            else gone))) ∧
    (∀ values, c.state = .exchange → outcome = .input values →
      let fine : State := { s with link := contexts fun d => { d with misses := 0 } }
      let join (n : Nat) (t : Option Int) (running : Bool) : State := { fine with readings :=
        if s.readings.length < 12 then
          s.readings ++ [{ address := c.address, count := n, temperature := t, running := running }]
        else s.readings }
      (∀ d alarm e, c.kind = .engine → values = .engine d alarm → s.engine? c.key = some e →
        posted (if e.header.damaged then fine else { fine with
          engines := update (·.number == c.key) (fun _ => { e with delivered := some d, alarm := alarm }) s.engines
          notices := if alarm && !e.alarm then station else s.notices })) ∧
      (∀ f r, c.kind = .rudder → values = .rudder f → s.rudder? c.key = some r →
        posted (if r.header.damaged then fine else { fine with
          rudders := update (·.channel == c.key) (fun _ => { r with feedback := some f }) s.rudders })) ∧
      (∀ l k, c.kind = .gauge → values = .gauge l → s.tank? c.key = some k →
        posted (if k.header.damaged then fine else { fine with
          tanks := update (·.number == c.key) (fun _ => { k with gauged := some l }) s.tanks })) ∧
      (∀ n t, c.kind = .meter → values = .meter n t → posted (join n t false)) ∧
      ∀ n t running, c.kind = .pump → values = .pump n t running → posted (join n t running))) ∧
  ∀ (s : State) (r : SlotResult), s.granted .machinery = true → s.link.results = [r] →
    (r.stale = true ∨ s.context? r.address = none ∨ ∃ c, s.context? r.address = some c ∧ c.state ≠ r.held) →
    exec .machineryPosting s = .next (s.ended .machinery { s with link := { s.link with results := [] } })

/-- R152, R154 to R157, R162, R165, R170 to R172: a reading that finds no baseline sets it and posts nothing; one that
finds one is converted by its pulse difference and temperature. The temperature is the reading's, taken within -200..+800
and kept as the last one; without one it is the last one, or 150 where there is none. A meter's millilitres are added to
the engine's consumed and drawn from its supply tank, which gives what it holds and counts the rest as shortfall, with
FUEL as R153 gives; of a damaged tank they are held as undebited and the tank is not written. The residual keeps the
rest. The reading of a damaged engine is counted as unposted with its pulses, and its residual stands. A pump's, in
RUNNING, are moved from source to destination and counted to the batch and the total, and the first stop test that holds
takes the transfer to STOPPING. In STOPPING they are counted and moved too: a running flag keeps the quiet count at 0,
and the second quiet reading ends STOPPING by the table of R172, with the mark moved on. Where either tank is damaged
neither is written and the amount is held volume, RUNNING passes to STOPPING for TANK_DAMAGED, and STOPPING ends in
HELD(TANK_DAMAGED), unless an abort is pending. In any other state, and of a damaged transfer, nothing is posted and the
pulses are counted. An amount of 0 writes no tank. -/
def Obligations.ConversionDrawsFromTheSupplyTank : Prop :=
  ∀ (s : State) (r : Reading) (c : Context) (factor : Nat),
    s.granted .fuel = true → s.errorFree = true → s.recordLaw = true → s.readings = [r] →
    s.context? r.address = some c → c.parameters = .factor factor → (s.link.contexts.map (·.address)).Nodup →
    r.count < 65536 → (∀ t, c.lastTemperature = some t → -200 ≤ t ∧ t ≤ 800) → s.policy.expansion ≤ 200 →
    let last : Option Int := match r.temperature with
      | some t => some (if t < -200 then -200 else if 800 < t then 800 else t)
      | none => c.lastTemperature
    let t : Int := match last with | some t => t | none => 150
    let read (residual : Nat) (d : Context) : Context :=
      { d with baseline := some r.count, lastTemperature := last, residual := residual }
    let base (residual : Nat) : State := { s with
      readings := []
      link := { s.link with contexts := update (·.address == r.address) (read residual) s.link.contexts } }
    let posting (after : State) : Prop := exec .fuelConversion s = .next (s.ended .fuel after)
    (c.baseline = none → posting (base c.residual)) ∧
    ∀ b, c.baseline = some b → b < 65536 →
      let d : Nat := if b ≤ r.count then r.count - b else r.count + 65536 - b
      let v : Int := (d * factor : Nat)
      let volume : Int := v * 1000000 - v * s.policy.expansion * (t - 150) + c.residual
      let posted : Nat := (volume / 1000000000).toNat
      let residual : Nat := (volume % 1000000000).toNat
      (∀ e : Engine, c.kind = .meter → s.engine? c.key = some e →
        let put (new : Engine) : List Engine := update (·.number == e.number) (fun _ => new) s.engines
        (e.header.damaged = true → posting { base c.residual with status := { s.status with
          unpostedReadings := min 65535 (s.status.unpostedReadings + 1)
          unpostedPulses := min 65535 (s.status.unpostedPulses + d) } }) ∧
        (e.header.damaged = false → posted = 0 → posting (base residual)) ∧
        ∀ tk : Tank, e.header.damaged = false → 0 < posted → e.supply = some tk.number → s.tank? tk.number = some tk →
          (tk.header.damaged = false → posting { base residual with
            engines := put { e with consumed := e.consumed + posted }
            tanks := update (·.number == tk.number) (fun _ => tk.afterDraw posted) s.tanks
            notices := s.notices.afterDebit tk (tk.afterDraw posted) posted }) ∧
          (tk.header.damaged = true → posting { base residual with
            engines := put { e with consumed := e.consumed + posted, undebited := e.undebited + posted } })) ∧
      ∀ tr : Transfer, c.kind = .pump → s.transfer? c.key = some tr →
        (tr.header.damaged = true ∨ tr.state.inFlight = false → posting { base c.residual with
          status := { s.status with unpostedPulses := min 65535 (s.status.unpostedPulses + d) } }) ∧
        ∀ source destination : Tank, tr.header.damaged = false → s.tank? tr.source = some source →
          s.tank? tr.destination = some destination → source.number ≠ destination.number →
          let intact : Bool := !source.header.damaged && !destination.header.damaged
          let full : Bool := decide (tr.batchVolume * 1000 ≤ tr.batchMoved + posted)
          let moved : Transfer := { tr with
            batchMoved := tr.batchMoved + posted, totalMoved := tr.totalMoved + posted
            heldVolume := if intact then tr.heldVolume else tr.heldVolume + posted }
          let carries : Bool := intact && posted != 0
          let gives : Tank := if carries then { source.afterDraw posted with
              drawn := source.drawn, transferredOut := source.transferredOut + posted }
            else source
          let takes : Tank := if carries then { destination with
              content := destination.content + posted, transferredIn := destination.transferredIn + posted
              low := decide (destination.content + posted < destination.lowMark * 1000) }
            else destination
          let tanks : List Tank := update (·.number == destination.number) (fun _ => takes)
            (update (·.number == source.number) (fun _ => gives) s.tanks)
          let first := if carries then s.notices.afterDebit source gives posted else s.notices
          let second := if takes.low && !destination.low then first.raise .fuel else first
          (tr.state = .running →
            let left : Nat := tr.batchVolume * 1000 - moved.batchMoved
            let stop : Option StopCause :=
              if !intact then some .tankDamaged
              else if full then some .batchEnd
              else if tr.interval ≠ 0 ∧ ∃ m ∈ tr.mark, m ≤ moved.totalMoved then some .checkpoint
              else if (gives.content : Int) - (source.lowMark * 1000 : Nat) < left then some .sourceLow
              else if ((destination.capacity : Int) - s.policy.overfillMargin) * 1000 < (takes.content : Int) + left then
                some .destFull
              else none
            posting { base residual with
              tanks := tanks
              transfers := update (·.number == tr.number) (fun _ => match stop with
                | none => moved
                | some cause => { moved with state := .stopping cause, pumpRun := false, quiet := 0 }) s.transfers
              notices := if stop.isSome then second.raise .transfer else second }) ∧
          ∀ cause, tr.state = .stopping cause →
            ∃ after u, exec .fuelConversion s = .next after ∧ after.transfer? c.key = some u ∧ after.tanks = tanks ∧
              u.totalMoved = moved.totalMoved ∧ u.heldVolume = moved.heldVolume ∧
              (r.running = true ∨ tr.quiet = 0 →
                u = { moved with quiet := if r.running then 0 else 1 }) ∧
              (r.running = false → 1 ≤ tr.quiet →
                u.mark = tr.mark.map (fun _ => (moved.totalMoved / (tr.interval * 1000) + 1) * (tr.interval * 1000)) ∧
                (if tr.pendingAbort then u.state = .ended .aborted
                else if !intact then u.state = .held .tankDamaged ∧ u.batchMoved = moved.batchMoved
                else if cause = .checkpoint then u.state = .held .checkpoint ∧ u.batchMoved = moved.batchMoved
                else if full then
                  u.batchesDone = min 65535 (tr.batchesDone + 1) ∧ u.batchMoved = 0 ∧
                    (tr.mode = .single ∨ tr.mode = .counted ∧ some u.batchesDone = tr.batchCount →
                      u.state = .ended .complete) ∧
                    (tr.mode = .opened → tr.gapRequest = true → u.state = .held .gapRequest ∧ u.gapRequest = false)
                else (cause = .sourceLow → u.state = .held .sourceLow) ∧
                  (cause = .destFull → u.state = .held .destFull)))

/-- R156: over the temperatures and expansion factors of the manual the volume is never negative; the posted amount
and the new residual make it up exactly, and the residual is below 1 ml. -/
def Obligations.ConversionIsExact : Prop :=
  ∀ (d k beta residual : Nat) (t : Int), beta ≤ 200 → -200 ≤ t → t ≤ 800 →
    let volume := convertedVolume d k beta t residual
    0 ≤ volume ∧ volume = (postedAmount volume : Int) * 1000000000 + newResidual volume ∧
      newResidual volume < 1000000000

/-! ## The cycle computation -/

/-- R91, R119 to R123, R128, R137, R138, R49: a granted computation adds 1 to the cycle count, clears step waiting,
and writes a fresh output set with the cycle count, the step number, and the sent order and angle of each RUNNING,
undamaged engine and channel, 0 for another. In WHOLE, with a barge enrolled, the sums and limits are those of the
usable values and the policy's factors, a usable value being that of R91's table; outside WHOLE with a boat cut,
of those in the cut; light, and at boat cut NONE, the engines alone limit; in CONFLICT nothing is allowed. A
waiting step's next values become live. A RUNNING, undamaged channel is allowed its live target, scaled when the
flank demand exceeds L_flank, and its sent angle moves to it by the rudder step; another is allowed and sent 0.
The limiting flag says that some RUNNING, undamaged engine or channel is allowed another value than its live
target, and LIMIT is raised when it passes to set. -/
def Obligations.CycleComputationWritesItsResults : Prop :=
  ∀ s : State, s.granted .coordination = true → s.errorFree = true → s.recordLaw = true →
    let inCut (c : Coupling) : Bool := s.lockage.phase == .whole ||
      (match s.lockage.boatCut with
        | .cut k => !s.crossing c && s.cut? c.endB == some k &&
          (match c.endA with | .boat => true | .barge h => s.cut? h == some k)
        | .none => false
        | .conflict => false)
    let usable (c : Coupling) : Nat :=
      if c.header.damaged then 0
      else match c.tending, c.state with
        | .winch _ _, .made => if c.winchFault then c.rated / 2 else c.rated
        | .winch _ _, .slack => c.rated / 2
        | .winch _ _, .strained => c.rated / 2
        | .hand, .made => 3 * c.rated / 4
        | _, _ => 0
    let sum (pick : Coupling → Bool) : Nat := ((s.couplings.filter fun c => inCut c && pick c).map usable).sum
    let face := sum fun c => c.kind == .face
    let long := sum fun c => c.kind == .long
    let breast := sum fun c => c.kind == .breast
    let bow := match s.bowBarge? with | none => 0 | some h => sum fun c => c.names h
    let own := ((s.engines.filter fun e => e.number != 5 && e.state == .running && !e.header.damaged).map (·.rated)).sum
    let light : Bool := decide (s.barges = []) || (s.lockage.phase != .whole && s.lockage.boatCut == .none)
    let conflict : Bool := !light && s.lockage.phase != .whole && s.lockage.boatCut == .conflict
    let limit (ordinary free : Nat) : Nat := if light then free else if conflict then 0 else ordinary
    let pushed (b : Barge) : Bool := s.lockage.phase == .whole || s.lockage.boatCut == .conflict ||
      (match s.lockage.boatCut with | .cut k => s.cut? b.hull == some k | .none => false | .conflict => false)
    ∃ t o, exec .cycleComputation s = .next t ∧ t.status.cycleCount = (s.status.cycleCount + 1) % 4294967296 ∧
      t.status.stepWaiting = false ∧ t.status.stepNumber = s.status.stepNumber ∧
      t.link.fresh = true ∧ t.link.latest = some o ∧ o.cycleCount = t.status.cycleCount ∧
      o.stepNumber = s.status.stepNumber ∧
      o.orders = t.engines.map (fun e =>
        (e.number, if e.state = .running ∧ e.header.damaged = false then e.sent else 0)) ∧
      o.angles = t.rudders.map (fun r =>
        (r.channel, if r.state = .running ∧ r.header.damaged = false then r.sent else 0)) ∧
      t.engines.map (·.live) =
        s.engines.map (fun e => if s.status.stepWaiting && !e.header.damaged then e.next else e.live) ∧
      t.engines.map (·.number) = s.engines.map (·.number) ∧
      (∀ e ∈ t.engines, e.header.damaged = false → e.state ≠ .running → e.sent = 0) ∧
      t.status.faceSum = face ∧ t.status.longSum = long ∧ t.status.breastSum = breast ∧
      t.status.limitAhead = limit ((face + long) * s.policy.aheadFactor / 1000) own ∧
      t.status.limitAstern = limit (face * s.policy.asternFactor / 1000) own ∧
      t.status.limitFlank = limit (breast * s.policy.flankFactor / 1000) 4294967295 ∧
      t.status.limitBow = limit (bow * s.policy.flankFactor / 1000) 4294967295 ∧
      t.status.towMass = s.policy.boatMass +
        ((s.barges.filter pushed).map fun b => if b.header.damaged then 4000 else b.laden).sum ∧
      (let shaft (n : Nat) : Nat := match t.engine? n with
        | none => 0
        | some e => if e.state = .running ∧ e.header.damaged = false then e.sent.natAbs * e.rated / 1000 else 0
       let live (r : Rudder) : Int := if s.status.stepWaiting then r.next else r.live
       let demand := ((s.rudders.filter fun r => r.state == .running && !r.header.damaged).map fun r =>
        (live r).natAbs * shaft r.shaft / 350).sum
       t.rudders = s.rudders.map fun r =>
        let allowed : Int := if demand ≤ t.status.limitFlank then live r else (live r * t.status.limitFlank).tdiv demand
        let step : Nat := max 1 (r.rate * s.openedPeriod / 1000)
        if r.header.damaged then r
        else if r.state = .running then
          { r with
            live := live r, allowed := allowed
            sent := if r.sent ≤ allowed then min (r.sent + step) allowed else max (r.sent - step) allowed }
        else { r with live := live r, allowed := 0, sent := 0 }) ∧
      (t.status.limiting = true ↔
        (∃ e ∈ t.engines, e.state = .running ∧ e.header.damaged = false ∧ e.allowed ≠ e.live) ∨
          ∃ r ∈ t.rudders, r.state = .running ∧ r.header.damaged = false ∧ r.allowed ≠ r.live) ∧
      t.notices = (if t.status.limiting && !s.status.limiting then s.notices.raise .limit else s.notices) ∧
      t.couplings = s.couplings ∧ t.barges = s.barges ∧ t.tanks = s.tanks ∧ t.transfers = s.transfers ∧
      t.policy = s.policy ∧ t.lockage = s.lockage

/-- R80, R81: the state that a tension evaluation decides, and the command that goes with its entry. -/
def Obligations.TensionDecidesTheState : Prop :=
  ∀ (p : Policy) (phase : Phase) (clock t : Nat) (c : Coupling), 10 ≤ c.rated → p.strainLimit ≤ 950 →
    500 ≤ p.strainLimit → p.slackLimit ≤ 300 →
    let o := evaluateTension p phase clock c t
    (o.state = .overload ↔ c.rated ≤ t) ∧
    (o.state = .strained ↔ c.rated * p.strainLimit / 1000 ≤ t ∧ t < c.rated) ∧
    (o.state = .slack ↔ t < c.rated * p.slackLimit / 1000 ∧
      (c.state = .slack ∨ ∃ start, c.slackTimer = some start ∧ p.slackTime * 1000 ≤ clock - start)) ∧
    (o.state = .overload ∨ o.state = .strained ∨ o.state = .slack ∨ o.state = .made) ∧
    (o.command = some (.ease (c.rated * p.strainLimit / 1000)) ↔ o.state = .overload ∧ c.state ≠ .overload) ∧
    (o.command = some (.heave (c.rated * p.makeUpTension / 1000)) ↔
      o.state = .slack ∧ c.state ≠ .slack ∧ ¬(c.crossing = true ∧ phase = .split)) ∧
    (o.raised = true ↔ (o.state = .slack ∨ o.state = .overload) ∧ c.state ≠ o.state)

/-- R126: a sent order never passes its allowed order, never has the other sign, falls at once, and moves away from 0
by at most the step. R124, R126, R127, R146: a granted computation allows a RUNNING, undamaged main engine its live
target, or its share of L_ahead or L_astern when the demand of its direction exceeds it, and the bow unit what L_bow
allows; and it moves the sent order by the table of R126, with the dwell that R127 asks of a main engine and the zero
time and last direction that R127 keeps. -/
def Obligations.SlewNeverPassesTheAllowedOrder : Prop :=
  (∀ (sent allowed : Int) (step : Nat) (released : Bool),
    let new := slewOrder sent allowed step released
    new.natAbs ≤ allowed.natAbs ∧ (0 < new → 0 < allowed) ∧ (new < 0 → allowed < 0) ∧
    new.natAbs ≤ sent.natAbs + step ∧
    (0 < sent → 0 < allowed → allowed ≤ sent → new = allowed) ∧
    (sent ≠ 0 → (0 < sent ∧ allowed < 0 ∨ sent < 0 ∧ 0 < allowed) → new = 0)) ∧
  ∀ s : State, s.granted .coordination = true → s.errorFree = true → s.recordLaw = true →
    let live (e : Engine) : Int := if s.status.stepWaiting then e.next else e.live
    let share (e : Engine) : Int := (live e * e.rated).tdiv 1000
    let drives (e : Engine) : Bool := e.number != 5 && e.state == .running && !e.header.damaged
    let ahead : Nat := ((s.engines.filter drives).map fun e => (share e).toNat).sum
    let astern : Nat := ((s.engines.filter drives).map fun e => (-share e).toNat).sum
    ∃ t, exec .cycleComputation s = .next t ∧
      ∀ e ∈ s.engines, e.state = .running → e.header.damaged = false → ∃ u ∈ t.engines, u.number = e.number ∧
        u.allowed =
          (if e.number = 5 then
            let m : Nat := min (live e).natAbs (t.status.limitBow * 1000 / e.rated)
            if live e < 0 then -(m : Int) else m
          else if 0 < share e ∧ t.status.limitAhead < ahead then
            (((share e).toNat * t.status.limitAhead / ahead * 1000 / e.rated : Nat) : Int)
          else if share e < 0 ∧ t.status.limitAstern < astern then
            -(((-share e).toNat * t.status.limitAstern / astern * 1000 / e.rated : Nat) : Int)
          else live e) ∧
        (let a := u.allowed
         let step : Nat := max 1 (s.policy.slewConstant / t.status.towMass)
         let toward : Int := if e.sent ≤ a then min (e.sent + step) a else max (e.sent - step) a
         let rest : Nat := if e.sent = 0 then min 65535 (e.zeroTime + s.openedPeriod) else e.zeroTime
         u.sent =
            (if e.sent = 0 then
              if a ≠ 0 ∧ (e.number = 5 ∨ e.lastDirection = .none ∨ (e.lastDirection = .ahead ∧ 0 < a) ∨
                (e.lastDirection = .astern ∧ a < 0) ∨ s.policy.reversalDwell ≤ rest) then toward else 0
            else if (0 < e.sent ∧ 0 < a) ∨ (e.sent < 0 ∧ a < 0) then
              if a.natAbs ≤ e.sent.natAbs then a else toward
            else 0) ∧
          u.zeroTime = (if u.sent = 0 ∧ e.sent ≠ 0 then 0 else rest) ∧
          u.lastDirection =
            (if 0 < u.sent then .ahead else if u.sent < 0 then .astern else e.lastDirection))

/-! ## Laws that every step keeps -/

/-- Every law holds right after reset. -/
def Obligations.LawsHoldAtReset : Prop :=
  State.reset.portLaw = true ∧ State.reset.rosterLaw = true ∧ State.reset.recordLaw = true ∧
    State.reset.lockageLaw = true ∧ State.reset.orderLaw = true ∧ State.reset.tankLaw = true ∧
    State.reset.pumpLaw = true ∧ State.reset.thrustLaw = true ∧ State.reset.nodeLaw = true

/-- R22, R23: the queues of the Console Port keep to four places, and a request waits for the store only with room for
its response. -/
def Obligations.StepsKeepThePortLaw : Prop :=
  ∀ s t : State, s.portLaw = true → step s = .next t → t.portLaw = true

/-- R40, R41: the barge table and the string boundary table keep their law. R47: no two barges come to name the same node
address, and none the boat node address. -/
def Obligations.StepsKeepTheRosterLaw : Prop :=
  ∀ s t : State, s.rosterLaw = true → step s = .next t →
    t.rosterLaw = true ∧ (s.nodeLaw = true → t.nodeLaw = true)

/-- R1, R112: keys stay unique within each table, and an engine record holds the fields that apply to its number. -/
def Obligations.StepsKeepTheRecordLaw : Prop :=
  ∀ s t : State, s.recordLaw = true → step s = .next t → t.recordLaw = true

/-- R179, R181: the lockage record keeps to its phases: no ranks in WHOLE, one to three ascending ranks outside it, no
crossing flag of an undamaged coupling in WHOLE, and nothing crossing remaining in WHOLE and SPLIT. -/
def Obligations.StepsKeepTheLockageLaw : Prop :=
  ∀ s t : State, s.lockageLaw = true → step s = .next t → t.lockageLaw = true

/-- R112, R124, R126: every order of every engine stays within -1000..+1000. -/
def Obligations.StepsKeepOrdersInRange : Prop :=
  ∀ s t : State, s.orderLaw = true → step s = .next t → t.orderLaw = true

/-- R152: the content of every undamaged tank stays explained by its terms. -/
def Obligations.StepsKeepTheFuelAccount : Prop :=
  ∀ s t : State, s.tankLaw = true → step s = .next t → t.tankLaw = true

/-- R167: a pump is commanded to run only while its transfer is RUNNING. -/
def Obligations.StepsKeepPumpsToRunningTransfers : Prop :=
  ∀ s t : State, s.pumpLaw = true → step s = .next t → t.pumpLaw = true

/-- R126, R131: the thrust that the main engines are sent ahead stays within L_ahead, and astern within L_astern, of
the tow status record; a damaged engine is sent nothing. -/
def Obligations.StepsKeepThrustWithinTheLimits : Prop :=
  ∀ s t : State, s.recordLaw = true → s.thrustLaw = true → step s = .next t → t.thrustLaw = true
end

