-- ==== Sys2Proof/Laws/State.lean ====
section
/-! SUPPORT. What each field of the state, of a transaction and of a record is after an update. -/
namespace Sys2Proof.Machine

/-! ## Changes of the state -/

@[simp] theorem State.raise_pending (s : State) (c : Cause) : (s.raise c).pending = s.pending := rfl
@[simp] theorem State.raise_clock (s : State) (c : Cause) : (s.raise c).clock = s.clock := rfl
@[simp] theorem State.raise_barges (s : State) (c : Cause) : (s.raise c).barges = s.barges := rfl
@[simp] theorem State.raise_strings (s : State) (c : Cause) : (s.raise c).strings = s.strings := rfl
@[simp] theorem State.raise_couplings (s : State) (c : Cause) : (s.raise c).couplings = s.couplings := rfl
@[simp] theorem State.raise_engines (s : State) (c : Cause) : (s.raise c).engines = s.engines := rfl
@[simp] theorem State.raise_rudders (s : State) (c : Cause) : (s.raise c).rudders = s.rudders := rfl
@[simp] theorem State.raise_tanks (s : State) (c : Cause) : (s.raise c).tanks = s.tanks := rfl
@[simp] theorem State.raise_transfers (s : State) (c : Cause) : (s.raise c).transfers = s.transfers := rfl
@[simp] theorem State.raise_policy (s : State) (c : Cause) : (s.raise c).policy = s.policy := rfl
@[simp] theorem State.raise_status (s : State) (c : Cause) : (s.raise c).status = s.status := rfl
@[simp] theorem State.raise_lockage (s : State) (c : Cause) : (s.raise c).lockage = s.lockage := rfl
@[simp] theorem State.raise_notices (s : State) (c : Cause) : (s.raise c).notices = s.notices.raise c := rfl
@[simp] theorem State.raise_arbiter (s : State) (c : Cause) : (s.raise c).arbiter = s.arbiter := rfl
@[simp] theorem State.raise_patrol (s : State) (c : Cause) : (s.raise c).patrol = s.patrol := rfl
@[simp] theorem State.raise_console (s : State) (c : Cause) : (s.raise c).console = s.console := rfl
@[simp] theorem State.raise_tow (s : State) (c : Cause) : (s.raise c).tow = s.tow := rfl
@[simp] theorem State.raise_link (s : State) (c : Cause) : (s.raise c).link = s.link := rfl
@[simp] theorem State.raise_openedPeriod (s : State) (c : Cause) : (s.raise c).openedPeriod = s.openedPeriod := rfl
@[simp] theorem State.raise_readings (s : State) (c : Cause) : (s.raise c).readings = s.readings := rfl
@[simp] theorem State.ask_pending (s : State) (r : Requester) : (s.ask r).pending = s.pending := rfl
@[simp] theorem State.ask_clock (s : State) (r : Requester) : (s.ask r).clock = s.clock := rfl
@[simp] theorem State.ask_barges (s : State) (r : Requester) : (s.ask r).barges = s.barges := rfl
@[simp] theorem State.ask_strings (s : State) (r : Requester) : (s.ask r).strings = s.strings := rfl
@[simp] theorem State.ask_couplings (s : State) (r : Requester) : (s.ask r).couplings = s.couplings := rfl
@[simp] theorem State.ask_engines (s : State) (r : Requester) : (s.ask r).engines = s.engines := rfl
@[simp] theorem State.ask_rudders (s : State) (r : Requester) : (s.ask r).rudders = s.rudders := rfl
@[simp] theorem State.ask_tanks (s : State) (r : Requester) : (s.ask r).tanks = s.tanks := rfl
@[simp] theorem State.ask_transfers (s : State) (r : Requester) : (s.ask r).transfers = s.transfers := rfl
@[simp] theorem State.ask_policy (s : State) (r : Requester) : (s.ask r).policy = s.policy := rfl
@[simp] theorem State.ask_status (s : State) (r : Requester) : (s.ask r).status = s.status := rfl
@[simp] theorem State.ask_lockage (s : State) (r : Requester) : (s.ask r).lockage = s.lockage := rfl
@[simp] theorem State.ask_notices (s : State) (r : Requester) : (s.ask r).notices = s.notices := rfl
@[simp] theorem State.ask_arbiter (s : State) (r : Requester) : (s.ask r).arbiter = s.arbiter.setWaits r true := rfl
@[simp] theorem State.ask_patrol (s : State) (r : Requester) : (s.ask r).patrol = s.patrol := rfl
@[simp] theorem State.ask_console (s : State) (r : Requester) : (s.ask r).console = s.console := rfl
@[simp] theorem State.ask_tow (s : State) (r : Requester) : (s.ask r).tow = s.tow := rfl
@[simp] theorem State.ask_link (s : State) (r : Requester) : (s.ask r).link = s.link := rfl
@[simp] theorem State.ask_openedPeriod (s : State) (r : Requester) : (s.ask r).openedPeriod = s.openedPeriod := rfl
@[simp] theorem State.ask_readings (s : State) (r : Requester) : (s.ask r).readings = s.readings := rfl
@[simp] theorem State.take_pending (s : State) (r : Requester) : (s.take r).pending = s.pending := rfl
@[simp] theorem State.take_clock (s : State) (r : Requester) : (s.take r).clock = s.clock := rfl
@[simp] theorem State.take_barges (s : State) (r : Requester) : (s.take r).barges = s.barges := rfl
@[simp] theorem State.take_strings (s : State) (r : Requester) : (s.take r).strings = s.strings := rfl
@[simp] theorem State.take_couplings (s : State) (r : Requester) : (s.take r).couplings = s.couplings := rfl
@[simp] theorem State.take_engines (s : State) (r : Requester) : (s.take r).engines = s.engines := rfl
@[simp] theorem State.take_rudders (s : State) (r : Requester) : (s.take r).rudders = s.rudders := rfl
@[simp] theorem State.take_tanks (s : State) (r : Requester) : (s.take r).tanks = s.tanks := rfl
@[simp] theorem State.take_transfers (s : State) (r : Requester) : (s.take r).transfers = s.transfers := rfl
@[simp] theorem State.take_policy (s : State) (r : Requester) : (s.take r).policy = s.policy := rfl
@[simp] theorem State.take_status (s : State) (r : Requester) : (s.take r).status = s.status := rfl
@[simp] theorem State.take_lockage (s : State) (r : Requester) : (s.take r).lockage = s.lockage := rfl
@[simp] theorem State.take_notices (s : State) (r : Requester) : (s.take r).notices = s.notices := rfl
@[simp] theorem State.take_arbiter (s : State) (r : Requester) : (s.take r).arbiter = s.arbiter.grant r := rfl
@[simp] theorem State.take_patrol (s : State) (r : Requester) : (s.take r).patrol = s.patrol := rfl
@[simp] theorem State.take_console (s : State) (r : Requester) : (s.take r).console = s.console := rfl
@[simp] theorem State.take_tow (s : State) (r : Requester) : (s.take r).tow = s.tow := rfl
@[simp] theorem State.take_link (s : State) (r : Requester) : (s.take r).link = s.link := rfl
@[simp] theorem State.take_openedPeriod (s : State) (r : Requester) : (s.take r).openedPeriod = s.openedPeriod := rfl
@[simp] theorem State.take_readings (s : State) (r : Requester) : (s.take r).readings = s.readings := rfl
@[simp] theorem State.modTow_pending (s : State) (f : TowLine → TowLine) : (s.modTow f).pending = s.pending := rfl
@[simp] theorem State.modTow_clock (s : State) (f : TowLine → TowLine) : (s.modTow f).clock = s.clock := rfl
@[simp] theorem State.modTow_barges (s : State) (f : TowLine → TowLine) : (s.modTow f).barges = s.barges := rfl
@[simp] theorem State.modTow_strings (s : State) (f : TowLine → TowLine) : (s.modTow f).strings = s.strings := rfl
@[simp] theorem State.modTow_couplings (s : State) (f : TowLine → TowLine) :
    (s.modTow f).couplings = s.couplings := rfl
@[simp] theorem State.modTow_engines (s : State) (f : TowLine → TowLine) : (s.modTow f).engines = s.engines := rfl
@[simp] theorem State.modTow_rudders (s : State) (f : TowLine → TowLine) : (s.modTow f).rudders = s.rudders := rfl
@[simp] theorem State.modTow_tanks (s : State) (f : TowLine → TowLine) : (s.modTow f).tanks = s.tanks := rfl
@[simp] theorem State.modTow_transfers (s : State) (f : TowLine → TowLine) :
    (s.modTow f).transfers = s.transfers := rfl
@[simp] theorem State.modTow_policy (s : State) (f : TowLine → TowLine) : (s.modTow f).policy = s.policy := rfl
@[simp] theorem State.modTow_status (s : State) (f : TowLine → TowLine) : (s.modTow f).status = s.status := rfl
@[simp] theorem State.modTow_lockage (s : State) (f : TowLine → TowLine) : (s.modTow f).lockage = s.lockage := rfl
@[simp] theorem State.modTow_notices (s : State) (f : TowLine → TowLine) : (s.modTow f).notices = s.notices := rfl
@[simp] theorem State.modTow_arbiter (s : State) (f : TowLine → TowLine) : (s.modTow f).arbiter = s.arbiter := rfl
@[simp] theorem State.modTow_patrol (s : State) (f : TowLine → TowLine) : (s.modTow f).patrol = s.patrol := rfl
@[simp] theorem State.modTow_console (s : State) (f : TowLine → TowLine) : (s.modTow f).console = s.console := rfl
@[simp] theorem State.modTow_tow (s : State) (f : TowLine → TowLine) : (s.modTow f).tow = f s.tow := rfl
@[simp] theorem State.modTow_link (s : State) (f : TowLine → TowLine) : (s.modTow f).link = s.link := rfl
@[simp] theorem State.modTow_openedPeriod (s : State) (f : TowLine → TowLine) :
    (s.modTow f).openedPeriod = s.openedPeriod := rfl
@[simp] theorem State.modTow_readings (s : State) (f : TowLine → TowLine) : (s.modTow f).readings = s.readings := rfl
@[simp] theorem State.towPhase_pending (s : State) (p : TowPhase) : (s.towPhase p).pending = s.pending := rfl
@[simp] theorem State.towPhase_clock (s : State) (p : TowPhase) : (s.towPhase p).clock = s.clock := rfl
@[simp] theorem State.towPhase_barges (s : State) (p : TowPhase) : (s.towPhase p).barges = s.barges := rfl
@[simp] theorem State.towPhase_strings (s : State) (p : TowPhase) : (s.towPhase p).strings = s.strings := rfl
@[simp] theorem State.towPhase_couplings (s : State) (p : TowPhase) : (s.towPhase p).couplings = s.couplings := rfl
@[simp] theorem State.towPhase_engines (s : State) (p : TowPhase) : (s.towPhase p).engines = s.engines := rfl
@[simp] theorem State.towPhase_rudders (s : State) (p : TowPhase) : (s.towPhase p).rudders = s.rudders := rfl
@[simp] theorem State.towPhase_tanks (s : State) (p : TowPhase) : (s.towPhase p).tanks = s.tanks := rfl
@[simp] theorem State.towPhase_transfers (s : State) (p : TowPhase) : (s.towPhase p).transfers = s.transfers := rfl
@[simp] theorem State.towPhase_policy (s : State) (p : TowPhase) : (s.towPhase p).policy = s.policy := rfl
@[simp] theorem State.towPhase_status (s : State) (p : TowPhase) : (s.towPhase p).status = s.status := rfl
@[simp] theorem State.towPhase_lockage (s : State) (p : TowPhase) : (s.towPhase p).lockage = s.lockage := rfl
@[simp] theorem State.towPhase_notices (s : State) (p : TowPhase) : (s.towPhase p).notices = s.notices := rfl
@[simp] theorem State.towPhase_arbiter (s : State) (p : TowPhase) : (s.towPhase p).arbiter = s.arbiter := rfl
@[simp] theorem State.towPhase_patrol (s : State) (p : TowPhase) : (s.towPhase p).patrol = s.patrol := rfl
@[simp] theorem State.towPhase_console (s : State) (p : TowPhase) : (s.towPhase p).console = s.console := rfl
@[simp] theorem State.towPhase_tow (s : State) (p : TowPhase) : (s.towPhase p).tow = { s.tow with phase := p } := rfl
@[simp] theorem State.towPhase_link (s : State) (p : TowPhase) : (s.towPhase p).link = s.link := rfl
@[simp] theorem State.towPhase_openedPeriod (s : State) (p : TowPhase) :
    (s.towPhase p).openedPeriod = s.openedPeriod := rfl
@[simp] theorem State.towPhase_readings (s : State) (p : TowPhase) : (s.towPhase p).readings = s.readings := rfl

/-! ## Changes of a transaction -/

@[simp] theorem Txn.start_st (s : State) : (Txn.start s).st = s := rfl
@[simp] theorem Txn.start_commands (s : State) : (Txn.start s).commands = [] := rfl
@[simp] theorem Txn.start_touched (s : State) : (Txn.start s).touched = false := rfl
@[simp] theorem Txn.on_commands (x : Txn) (f : State → State) : (x.on f).commands = x.commands := rfl
@[simp] theorem Txn.on_touched (x : Txn) (f : State → State) : (x.on f).touched = x.touched := rfl
@[simp] theorem Txn.on_st (x : Txn) (f : State → State) : (x.on f).st = f x.st := rfl
@[simp] theorem Txn.raise_commands (x : Txn) (c : Cause) : (x.raise c).commands = x.commands := rfl
@[simp] theorem Txn.raise_touched (x : Txn) (c : Cause) : (x.raise c).touched = x.touched := rfl
@[simp] theorem Txn.raise_pending (x : Txn) (c : Cause) : (x.raise c).st.pending = x.st.pending := rfl
@[simp] theorem Txn.raise_clock (x : Txn) (c : Cause) : (x.raise c).st.clock = x.st.clock := rfl
@[simp] theorem Txn.raise_barges (x : Txn) (c : Cause) : (x.raise c).st.barges = x.st.barges := rfl
@[simp] theorem Txn.raise_strings (x : Txn) (c : Cause) : (x.raise c).st.strings = x.st.strings := rfl
@[simp] theorem Txn.raise_couplings (x : Txn) (c : Cause) : (x.raise c).st.couplings = x.st.couplings := rfl
@[simp] theorem Txn.raise_engines (x : Txn) (c : Cause) : (x.raise c).st.engines = x.st.engines := rfl
@[simp] theorem Txn.raise_rudders (x : Txn) (c : Cause) : (x.raise c).st.rudders = x.st.rudders := rfl
@[simp] theorem Txn.raise_tanks (x : Txn) (c : Cause) : (x.raise c).st.tanks = x.st.tanks := rfl
@[simp] theorem Txn.raise_transfers (x : Txn) (c : Cause) : (x.raise c).st.transfers = x.st.transfers := rfl
@[simp] theorem Txn.raise_policy (x : Txn) (c : Cause) : (x.raise c).st.policy = x.st.policy := rfl
@[simp] theorem Txn.raise_status (x : Txn) (c : Cause) : (x.raise c).st.status = x.st.status := rfl
@[simp] theorem Txn.raise_lockage (x : Txn) (c : Cause) : (x.raise c).st.lockage = x.st.lockage := rfl
@[simp] theorem Txn.raise_notices (x : Txn) (c : Cause) : (x.raise c).st.notices = x.st.notices.raise c := rfl
@[simp] theorem Txn.raise_arbiter (x : Txn) (c : Cause) : (x.raise c).st.arbiter = x.st.arbiter := rfl
@[simp] theorem Txn.raise_patrol (x : Txn) (c : Cause) : (x.raise c).st.patrol = x.st.patrol := rfl
@[simp] theorem Txn.raise_console (x : Txn) (c : Cause) : (x.raise c).st.console = x.st.console := rfl
@[simp] theorem Txn.raise_tow (x : Txn) (c : Cause) : (x.raise c).st.tow = x.st.tow := rfl
@[simp] theorem Txn.raise_link (x : Txn) (c : Cause) : (x.raise c).st.link = x.st.link := rfl
@[simp] theorem Txn.raise_openedPeriod (x : Txn) (c : Cause) : (x.raise c).st.openedPeriod = x.st.openedPeriod := rfl
@[simp] theorem Txn.raise_readings (x : Txn) (c : Cause) : (x.raise c).st.readings = x.st.readings := rfl
@[simp] theorem Txn.touch_commands (x : Txn) : (x.touch).commands = x.commands := rfl
@[simp] theorem Txn.touch_touched (x : Txn) : (x.touch).touched = true := rfl
@[simp] theorem Txn.touch_st (x : Txn) : (x.touch).st = x.st := rfl
@[simp] theorem Txn.place_commands (x : Txn) (m : Member) (k : Nat) (c : WinchCommand) :
    (x.place m k c).commands = x.commands ++ [(m, k, c)] := rfl
@[simp] theorem Txn.place_touched (x : Txn) (m : Member) (k : Nat) (c : WinchCommand) :
    (x.place m k c).touched = x.touched := rfl
@[simp] theorem Txn.place_st (x : Txn) (m : Member) (k : Nat) (c : WinchCommand) : (x.place m k c).st = x.st := rfl
@[simp] theorem Txn.modStatus_commands (x : Txn) (f : TowStatus → TowStatus) :
    (x.modStatus f).commands = x.commands := rfl
@[simp] theorem Txn.modStatus_touched (x : Txn) (f : TowStatus → TowStatus) :
    (x.modStatus f).touched = x.touched := rfl
@[simp] theorem Txn.modStatus_pending (x : Txn) (f : TowStatus → TowStatus) :
    (x.modStatus f).st.pending = x.st.pending := rfl
@[simp] theorem Txn.modStatus_clock (x : Txn) (f : TowStatus → TowStatus) :
    (x.modStatus f).st.clock = x.st.clock := rfl
@[simp] theorem Txn.modStatus_barges (x : Txn) (f : TowStatus → TowStatus) :
    (x.modStatus f).st.barges = x.st.barges := rfl
@[simp] theorem Txn.modStatus_strings (x : Txn) (f : TowStatus → TowStatus) :
    (x.modStatus f).st.strings = x.st.strings := rfl
@[simp] theorem Txn.modStatus_couplings (x : Txn) (f : TowStatus → TowStatus) :
    (x.modStatus f).st.couplings = x.st.couplings := rfl
@[simp] theorem Txn.modStatus_engines (x : Txn) (f : TowStatus → TowStatus) :
    (x.modStatus f).st.engines = x.st.engines := rfl
@[simp] theorem Txn.modStatus_rudders (x : Txn) (f : TowStatus → TowStatus) :
    (x.modStatus f).st.rudders = x.st.rudders := rfl
@[simp] theorem Txn.modStatus_tanks (x : Txn) (f : TowStatus → TowStatus) :
    (x.modStatus f).st.tanks = x.st.tanks := rfl
@[simp] theorem Txn.modStatus_transfers (x : Txn) (f : TowStatus → TowStatus) :
    (x.modStatus f).st.transfers = x.st.transfers := rfl
@[simp] theorem Txn.modStatus_policy (x : Txn) (f : TowStatus → TowStatus) :
    (x.modStatus f).st.policy = x.st.policy := rfl
@[simp] theorem Txn.modStatus_status (x : Txn) (f : TowStatus → TowStatus) :
    (x.modStatus f).st.status = f x.st.status := rfl
@[simp] theorem Txn.modStatus_lockage (x : Txn) (f : TowStatus → TowStatus) :
    (x.modStatus f).st.lockage = x.st.lockage := rfl
@[simp] theorem Txn.modStatus_notices (x : Txn) (f : TowStatus → TowStatus) :
    (x.modStatus f).st.notices = x.st.notices := rfl
@[simp] theorem Txn.modStatus_arbiter (x : Txn) (f : TowStatus → TowStatus) :
    (x.modStatus f).st.arbiter = x.st.arbiter := rfl
@[simp] theorem Txn.modStatus_patrol (x : Txn) (f : TowStatus → TowStatus) :
    (x.modStatus f).st.patrol = x.st.patrol := rfl
@[simp] theorem Txn.modStatus_console (x : Txn) (f : TowStatus → TowStatus) :
    (x.modStatus f).st.console = x.st.console := rfl
@[simp] theorem Txn.modStatus_tow (x : Txn) (f : TowStatus → TowStatus) : (x.modStatus f).st.tow = x.st.tow := rfl
@[simp] theorem Txn.modStatus_link (x : Txn) (f : TowStatus → TowStatus) : (x.modStatus f).st.link = x.st.link := rfl
@[simp] theorem Txn.modStatus_openedPeriod (x : Txn) (f : TowStatus → TowStatus) :
    (x.modStatus f).st.openedPeriod = x.st.openedPeriod := rfl
@[simp] theorem Txn.modStatus_readings (x : Txn) (f : TowStatus → TowStatus) :
    (x.modStatus f).st.readings = x.st.readings := rfl
@[simp] theorem Txn.modBarge_commands (x : Txn) (k : Nat) (ws : List Nat) (f : Barge → Barge) :
    (x.modBarge k ws f).commands = x.commands := rfl
@[simp] theorem Txn.modBarge_touched (x : Txn) (k : Nat) (ws : List Nat) (f : Barge → Barge) :
    (x.modBarge k ws f).touched = x.touched := rfl
@[simp] theorem Txn.modBarge_pending (x : Txn) (k : Nat) (ws : List Nat) (f : Barge → Barge) :
    (x.modBarge k ws f).st.pending = x.st.pending := rfl
@[simp] theorem Txn.modBarge_clock (x : Txn) (k : Nat) (ws : List Nat) (f : Barge → Barge) :
    (x.modBarge k ws f).st.clock = x.st.clock := rfl
@[simp] theorem Txn.modBarge_barges (x : Txn) (k : Nat) (ws : List Nat) (f : Barge → Barge) :
    (x.modBarge k ws f).st.barges = update (·.hull == k) (fun r => (f r).renew ws) x.st.barges := rfl
@[simp] theorem Txn.modBarge_strings (x : Txn) (k : Nat) (ws : List Nat) (f : Barge → Barge) :
    (x.modBarge k ws f).st.strings = x.st.strings := rfl
@[simp] theorem Txn.modBarge_couplings (x : Txn) (k : Nat) (ws : List Nat) (f : Barge → Barge) :
    (x.modBarge k ws f).st.couplings = x.st.couplings := rfl
@[simp] theorem Txn.modBarge_engines (x : Txn) (k : Nat) (ws : List Nat) (f : Barge → Barge) :
    (x.modBarge k ws f).st.engines = x.st.engines := rfl
@[simp] theorem Txn.modBarge_rudders (x : Txn) (k : Nat) (ws : List Nat) (f : Barge → Barge) :
    (x.modBarge k ws f).st.rudders = x.st.rudders := rfl
@[simp] theorem Txn.modBarge_tanks (x : Txn) (k : Nat) (ws : List Nat) (f : Barge → Barge) :
    (x.modBarge k ws f).st.tanks = x.st.tanks := rfl
@[simp] theorem Txn.modBarge_transfers (x : Txn) (k : Nat) (ws : List Nat) (f : Barge → Barge) :
    (x.modBarge k ws f).st.transfers = x.st.transfers := rfl
@[simp] theorem Txn.modBarge_policy (x : Txn) (k : Nat) (ws : List Nat) (f : Barge → Barge) :
    (x.modBarge k ws f).st.policy = x.st.policy := rfl
@[simp] theorem Txn.modBarge_status (x : Txn) (k : Nat) (ws : List Nat) (f : Barge → Barge) :
    (x.modBarge k ws f).st.status = x.st.status := rfl
@[simp] theorem Txn.modBarge_lockage (x : Txn) (k : Nat) (ws : List Nat) (f : Barge → Barge) :
    (x.modBarge k ws f).st.lockage = x.st.lockage := rfl
@[simp] theorem Txn.modBarge_notices (x : Txn) (k : Nat) (ws : List Nat) (f : Barge → Barge) :
    (x.modBarge k ws f).st.notices = x.st.notices := rfl
@[simp] theorem Txn.modBarge_arbiter (x : Txn) (k : Nat) (ws : List Nat) (f : Barge → Barge) :
    (x.modBarge k ws f).st.arbiter = x.st.arbiter := rfl
@[simp] theorem Txn.modBarge_patrol (x : Txn) (k : Nat) (ws : List Nat) (f : Barge → Barge) :
    (x.modBarge k ws f).st.patrol = x.st.patrol := rfl
@[simp] theorem Txn.modBarge_console (x : Txn) (k : Nat) (ws : List Nat) (f : Barge → Barge) :
    (x.modBarge k ws f).st.console = x.st.console := rfl
@[simp] theorem Txn.modBarge_tow (x : Txn) (k : Nat) (ws : List Nat) (f : Barge → Barge) :
    (x.modBarge k ws f).st.tow = x.st.tow := rfl
@[simp] theorem Txn.modBarge_link (x : Txn) (k : Nat) (ws : List Nat) (f : Barge → Barge) :
    (x.modBarge k ws f).st.link = x.st.link := rfl
@[simp] theorem Txn.modBarge_openedPeriod (x : Txn) (k : Nat) (ws : List Nat) (f : Barge → Barge) :
    (x.modBarge k ws f).st.openedPeriod = x.st.openedPeriod := rfl
@[simp] theorem Txn.modBarge_readings (x : Txn) (k : Nat) (ws : List Nat) (f : Barge → Barge) :
    (x.modBarge k ws f).st.readings = x.st.readings := rfl
@[simp] theorem Txn.modCoupling_commands (x : Txn) (k : Nat) (ws : List Nat) (f : Coupling → Coupling) :
    (x.modCoupling k ws f).commands = x.commands := rfl
@[simp] theorem Txn.modCoupling_touched (x : Txn) (k : Nat) (ws : List Nat) (f : Coupling → Coupling) :
    (x.modCoupling k ws f).touched = x.touched := rfl
@[simp] theorem Txn.modCoupling_pending (x : Txn) (k : Nat) (ws : List Nat) (f : Coupling → Coupling) :
    (x.modCoupling k ws f).st.pending = x.st.pending := rfl
@[simp] theorem Txn.modCoupling_clock (x : Txn) (k : Nat) (ws : List Nat) (f : Coupling → Coupling) :
    (x.modCoupling k ws f).st.clock = x.st.clock := rfl
@[simp] theorem Txn.modCoupling_barges (x : Txn) (k : Nat) (ws : List Nat) (f : Coupling → Coupling) :
    (x.modCoupling k ws f).st.barges = x.st.barges := rfl
@[simp] theorem Txn.modCoupling_strings (x : Txn) (k : Nat) (ws : List Nat) (f : Coupling → Coupling) :
    (x.modCoupling k ws f).st.strings = x.st.strings := rfl
@[simp] theorem Txn.modCoupling_couplings (x : Txn) (k : Nat) (ws : List Nat) (f : Coupling → Coupling) :
    (x.modCoupling k ws f).st.couplings = update (·.number == k) (fun r => (f r).renew ws) x.st.couplings := rfl
@[simp] theorem Txn.modCoupling_engines (x : Txn) (k : Nat) (ws : List Nat) (f : Coupling → Coupling) :
    (x.modCoupling k ws f).st.engines = x.st.engines := rfl
@[simp] theorem Txn.modCoupling_rudders (x : Txn) (k : Nat) (ws : List Nat) (f : Coupling → Coupling) :
    (x.modCoupling k ws f).st.rudders = x.st.rudders := rfl
@[simp] theorem Txn.modCoupling_tanks (x : Txn) (k : Nat) (ws : List Nat) (f : Coupling → Coupling) :
    (x.modCoupling k ws f).st.tanks = x.st.tanks := rfl
@[simp] theorem Txn.modCoupling_transfers (x : Txn) (k : Nat) (ws : List Nat) (f : Coupling → Coupling) :
    (x.modCoupling k ws f).st.transfers = x.st.transfers := rfl
@[simp] theorem Txn.modCoupling_policy (x : Txn) (k : Nat) (ws : List Nat) (f : Coupling → Coupling) :
    (x.modCoupling k ws f).st.policy = x.st.policy := rfl
@[simp] theorem Txn.modCoupling_status (x : Txn) (k : Nat) (ws : List Nat) (f : Coupling → Coupling) :
    (x.modCoupling k ws f).st.status = x.st.status := rfl
@[simp] theorem Txn.modCoupling_lockage (x : Txn) (k : Nat) (ws : List Nat) (f : Coupling → Coupling) :
    (x.modCoupling k ws f).st.lockage = x.st.lockage := rfl
@[simp] theorem Txn.modCoupling_notices (x : Txn) (k : Nat) (ws : List Nat) (f : Coupling → Coupling) :
    (x.modCoupling k ws f).st.notices = x.st.notices := rfl
@[simp] theorem Txn.modCoupling_arbiter (x : Txn) (k : Nat) (ws : List Nat) (f : Coupling → Coupling) :
    (x.modCoupling k ws f).st.arbiter = x.st.arbiter := rfl
@[simp] theorem Txn.modCoupling_patrol (x : Txn) (k : Nat) (ws : List Nat) (f : Coupling → Coupling) :
    (x.modCoupling k ws f).st.patrol = x.st.patrol := rfl
@[simp] theorem Txn.modCoupling_console (x : Txn) (k : Nat) (ws : List Nat) (f : Coupling → Coupling) :
    (x.modCoupling k ws f).st.console = x.st.console := rfl
@[simp] theorem Txn.modCoupling_tow (x : Txn) (k : Nat) (ws : List Nat) (f : Coupling → Coupling) :
    (x.modCoupling k ws f).st.tow = x.st.tow := rfl
@[simp] theorem Txn.modCoupling_link (x : Txn) (k : Nat) (ws : List Nat) (f : Coupling → Coupling) :
    (x.modCoupling k ws f).st.link = x.st.link := rfl
@[simp] theorem Txn.modCoupling_openedPeriod (x : Txn) (k : Nat) (ws : List Nat) (f : Coupling → Coupling) :
    (x.modCoupling k ws f).st.openedPeriod = x.st.openedPeriod := rfl
@[simp] theorem Txn.modCoupling_readings (x : Txn) (k : Nat) (ws : List Nat) (f : Coupling → Coupling) :
    (x.modCoupling k ws f).st.readings = x.st.readings := rfl
@[simp] theorem Txn.modEngine_commands (x : Txn) (k : Nat) (ws : List Nat) (f : Engine → Engine) :
    (x.modEngine k ws f).commands = x.commands := rfl
@[simp] theorem Txn.modEngine_touched (x : Txn) (k : Nat) (ws : List Nat) (f : Engine → Engine) :
    (x.modEngine k ws f).touched = x.touched := rfl
@[simp] theorem Txn.modEngine_pending (x : Txn) (k : Nat) (ws : List Nat) (f : Engine → Engine) :
    (x.modEngine k ws f).st.pending = x.st.pending := rfl
@[simp] theorem Txn.modEngine_clock (x : Txn) (k : Nat) (ws : List Nat) (f : Engine → Engine) :
    (x.modEngine k ws f).st.clock = x.st.clock := rfl
@[simp] theorem Txn.modEngine_barges (x : Txn) (k : Nat) (ws : List Nat) (f : Engine → Engine) :
    (x.modEngine k ws f).st.barges = x.st.barges := rfl
@[simp] theorem Txn.modEngine_strings (x : Txn) (k : Nat) (ws : List Nat) (f : Engine → Engine) :
    (x.modEngine k ws f).st.strings = x.st.strings := rfl
@[simp] theorem Txn.modEngine_couplings (x : Txn) (k : Nat) (ws : List Nat) (f : Engine → Engine) :
    (x.modEngine k ws f).st.couplings = x.st.couplings := rfl
@[simp] theorem Txn.modEngine_engines (x : Txn) (k : Nat) (ws : List Nat) (f : Engine → Engine) :
    (x.modEngine k ws f).st.engines = update (·.number == k) (fun r => (f r).renew ws) x.st.engines := rfl
@[simp] theorem Txn.modEngine_rudders (x : Txn) (k : Nat) (ws : List Nat) (f : Engine → Engine) :
    (x.modEngine k ws f).st.rudders = x.st.rudders := rfl
@[simp] theorem Txn.modEngine_tanks (x : Txn) (k : Nat) (ws : List Nat) (f : Engine → Engine) :
    (x.modEngine k ws f).st.tanks = x.st.tanks := rfl
@[simp] theorem Txn.modEngine_transfers (x : Txn) (k : Nat) (ws : List Nat) (f : Engine → Engine) :
    (x.modEngine k ws f).st.transfers = x.st.transfers := rfl
@[simp] theorem Txn.modEngine_policy (x : Txn) (k : Nat) (ws : List Nat) (f : Engine → Engine) :
    (x.modEngine k ws f).st.policy = x.st.policy := rfl
@[simp] theorem Txn.modEngine_status (x : Txn) (k : Nat) (ws : List Nat) (f : Engine → Engine) :
    (x.modEngine k ws f).st.status = x.st.status := rfl
@[simp] theorem Txn.modEngine_lockage (x : Txn) (k : Nat) (ws : List Nat) (f : Engine → Engine) :
    (x.modEngine k ws f).st.lockage = x.st.lockage := rfl
@[simp] theorem Txn.modEngine_notices (x : Txn) (k : Nat) (ws : List Nat) (f : Engine → Engine) :
    (x.modEngine k ws f).st.notices = x.st.notices := rfl
@[simp] theorem Txn.modEngine_arbiter (x : Txn) (k : Nat) (ws : List Nat) (f : Engine → Engine) :
    (x.modEngine k ws f).st.arbiter = x.st.arbiter := rfl
@[simp] theorem Txn.modEngine_patrol (x : Txn) (k : Nat) (ws : List Nat) (f : Engine → Engine) :
    (x.modEngine k ws f).st.patrol = x.st.patrol := rfl
@[simp] theorem Txn.modEngine_console (x : Txn) (k : Nat) (ws : List Nat) (f : Engine → Engine) :
    (x.modEngine k ws f).st.console = x.st.console := rfl
@[simp] theorem Txn.modEngine_tow (x : Txn) (k : Nat) (ws : List Nat) (f : Engine → Engine) :
    (x.modEngine k ws f).st.tow = x.st.tow := rfl
@[simp] theorem Txn.modEngine_link (x : Txn) (k : Nat) (ws : List Nat) (f : Engine → Engine) :
    (x.modEngine k ws f).st.link = x.st.link := rfl
@[simp] theorem Txn.modEngine_openedPeriod (x : Txn) (k : Nat) (ws : List Nat) (f : Engine → Engine) :
    (x.modEngine k ws f).st.openedPeriod = x.st.openedPeriod := rfl
@[simp] theorem Txn.modEngine_readings (x : Txn) (k : Nat) (ws : List Nat) (f : Engine → Engine) :
    (x.modEngine k ws f).st.readings = x.st.readings := rfl
@[simp] theorem Txn.modRudder_commands (x : Txn) (k : Nat) (ws : List Nat) (f : Rudder → Rudder) :
    (x.modRudder k ws f).commands = x.commands := rfl
@[simp] theorem Txn.modRudder_touched (x : Txn) (k : Nat) (ws : List Nat) (f : Rudder → Rudder) :
    (x.modRudder k ws f).touched = x.touched := rfl
@[simp] theorem Txn.modRudder_pending (x : Txn) (k : Nat) (ws : List Nat) (f : Rudder → Rudder) :
    (x.modRudder k ws f).st.pending = x.st.pending := rfl
@[simp] theorem Txn.modRudder_clock (x : Txn) (k : Nat) (ws : List Nat) (f : Rudder → Rudder) :
    (x.modRudder k ws f).st.clock = x.st.clock := rfl
@[simp] theorem Txn.modRudder_barges (x : Txn) (k : Nat) (ws : List Nat) (f : Rudder → Rudder) :
    (x.modRudder k ws f).st.barges = x.st.barges := rfl
@[simp] theorem Txn.modRudder_strings (x : Txn) (k : Nat) (ws : List Nat) (f : Rudder → Rudder) :
    (x.modRudder k ws f).st.strings = x.st.strings := rfl
@[simp] theorem Txn.modRudder_couplings (x : Txn) (k : Nat) (ws : List Nat) (f : Rudder → Rudder) :
    (x.modRudder k ws f).st.couplings = x.st.couplings := rfl
@[simp] theorem Txn.modRudder_engines (x : Txn) (k : Nat) (ws : List Nat) (f : Rudder → Rudder) :
    (x.modRudder k ws f).st.engines = x.st.engines := rfl
@[simp] theorem Txn.modRudder_rudders (x : Txn) (k : Nat) (ws : List Nat) (f : Rudder → Rudder) :
    (x.modRudder k ws f).st.rudders = update (·.channel == k) (fun r => (f r).renew ws) x.st.rudders := rfl
@[simp] theorem Txn.modRudder_tanks (x : Txn) (k : Nat) (ws : List Nat) (f : Rudder → Rudder) :
    (x.modRudder k ws f).st.tanks = x.st.tanks := rfl
@[simp] theorem Txn.modRudder_transfers (x : Txn) (k : Nat) (ws : List Nat) (f : Rudder → Rudder) :
    (x.modRudder k ws f).st.transfers = x.st.transfers := rfl
@[simp] theorem Txn.modRudder_policy (x : Txn) (k : Nat) (ws : List Nat) (f : Rudder → Rudder) :
    (x.modRudder k ws f).st.policy = x.st.policy := rfl
@[simp] theorem Txn.modRudder_status (x : Txn) (k : Nat) (ws : List Nat) (f : Rudder → Rudder) :
    (x.modRudder k ws f).st.status = x.st.status := rfl
@[simp] theorem Txn.modRudder_lockage (x : Txn) (k : Nat) (ws : List Nat) (f : Rudder → Rudder) :
    (x.modRudder k ws f).st.lockage = x.st.lockage := rfl
@[simp] theorem Txn.modRudder_notices (x : Txn) (k : Nat) (ws : List Nat) (f : Rudder → Rudder) :
    (x.modRudder k ws f).st.notices = x.st.notices := rfl
@[simp] theorem Txn.modRudder_arbiter (x : Txn) (k : Nat) (ws : List Nat) (f : Rudder → Rudder) :
    (x.modRudder k ws f).st.arbiter = x.st.arbiter := rfl
@[simp] theorem Txn.modRudder_patrol (x : Txn) (k : Nat) (ws : List Nat) (f : Rudder → Rudder) :
    (x.modRudder k ws f).st.patrol = x.st.patrol := rfl
@[simp] theorem Txn.modRudder_console (x : Txn) (k : Nat) (ws : List Nat) (f : Rudder → Rudder) :
    (x.modRudder k ws f).st.console = x.st.console := rfl
@[simp] theorem Txn.modRudder_tow (x : Txn) (k : Nat) (ws : List Nat) (f : Rudder → Rudder) :
    (x.modRudder k ws f).st.tow = x.st.tow := rfl
@[simp] theorem Txn.modRudder_link (x : Txn) (k : Nat) (ws : List Nat) (f : Rudder → Rudder) :
    (x.modRudder k ws f).st.link = x.st.link := rfl
@[simp] theorem Txn.modRudder_openedPeriod (x : Txn) (k : Nat) (ws : List Nat) (f : Rudder → Rudder) :
    (x.modRudder k ws f).st.openedPeriod = x.st.openedPeriod := rfl
@[simp] theorem Txn.modRudder_readings (x : Txn) (k : Nat) (ws : List Nat) (f : Rudder → Rudder) :
    (x.modRudder k ws f).st.readings = x.st.readings := rfl
@[simp] theorem Txn.modTank_commands (x : Txn) (k : Nat) (ws : List Nat) (f : Tank → Tank) :
    (x.modTank k ws f).commands = x.commands := rfl
@[simp] theorem Txn.modTank_touched (x : Txn) (k : Nat) (ws : List Nat) (f : Tank → Tank) :
    (x.modTank k ws f).touched = x.touched := rfl
@[simp] theorem Txn.modTank_pending (x : Txn) (k : Nat) (ws : List Nat) (f : Tank → Tank) :
    (x.modTank k ws f).st.pending = x.st.pending := rfl
@[simp] theorem Txn.modTank_clock (x : Txn) (k : Nat) (ws : List Nat) (f : Tank → Tank) :
    (x.modTank k ws f).st.clock = x.st.clock := rfl
@[simp] theorem Txn.modTank_barges (x : Txn) (k : Nat) (ws : List Nat) (f : Tank → Tank) :
    (x.modTank k ws f).st.barges = x.st.barges := rfl
@[simp] theorem Txn.modTank_strings (x : Txn) (k : Nat) (ws : List Nat) (f : Tank → Tank) :
    (x.modTank k ws f).st.strings = x.st.strings := rfl
@[simp] theorem Txn.modTank_couplings (x : Txn) (k : Nat) (ws : List Nat) (f : Tank → Tank) :
    (x.modTank k ws f).st.couplings = x.st.couplings := rfl
@[simp] theorem Txn.modTank_engines (x : Txn) (k : Nat) (ws : List Nat) (f : Tank → Tank) :
    (x.modTank k ws f).st.engines = x.st.engines := rfl
@[simp] theorem Txn.modTank_rudders (x : Txn) (k : Nat) (ws : List Nat) (f : Tank → Tank) :
    (x.modTank k ws f).st.rudders = x.st.rudders := rfl
@[simp] theorem Txn.modTank_tanks (x : Txn) (k : Nat) (ws : List Nat) (f : Tank → Tank) :
    (x.modTank k ws f).st.tanks = update (·.number == k) (fun r => (f r).renew ws) x.st.tanks := rfl
@[simp] theorem Txn.modTank_transfers (x : Txn) (k : Nat) (ws : List Nat) (f : Tank → Tank) :
    (x.modTank k ws f).st.transfers = x.st.transfers := rfl
@[simp] theorem Txn.modTank_policy (x : Txn) (k : Nat) (ws : List Nat) (f : Tank → Tank) :
    (x.modTank k ws f).st.policy = x.st.policy := rfl
@[simp] theorem Txn.modTank_status (x : Txn) (k : Nat) (ws : List Nat) (f : Tank → Tank) :
    (x.modTank k ws f).st.status = x.st.status := rfl
@[simp] theorem Txn.modTank_lockage (x : Txn) (k : Nat) (ws : List Nat) (f : Tank → Tank) :
    (x.modTank k ws f).st.lockage = x.st.lockage := rfl
@[simp] theorem Txn.modTank_notices (x : Txn) (k : Nat) (ws : List Nat) (f : Tank → Tank) :
    (x.modTank k ws f).st.notices = x.st.notices := rfl
@[simp] theorem Txn.modTank_arbiter (x : Txn) (k : Nat) (ws : List Nat) (f : Tank → Tank) :
    (x.modTank k ws f).st.arbiter = x.st.arbiter := rfl
@[simp] theorem Txn.modTank_patrol (x : Txn) (k : Nat) (ws : List Nat) (f : Tank → Tank) :
    (x.modTank k ws f).st.patrol = x.st.patrol := rfl
@[simp] theorem Txn.modTank_console (x : Txn) (k : Nat) (ws : List Nat) (f : Tank → Tank) :
    (x.modTank k ws f).st.console = x.st.console := rfl
@[simp] theorem Txn.modTank_tow (x : Txn) (k : Nat) (ws : List Nat) (f : Tank → Tank) :
    (x.modTank k ws f).st.tow = x.st.tow := rfl
@[simp] theorem Txn.modTank_link (x : Txn) (k : Nat) (ws : List Nat) (f : Tank → Tank) :
    (x.modTank k ws f).st.link = x.st.link := rfl
@[simp] theorem Txn.modTank_openedPeriod (x : Txn) (k : Nat) (ws : List Nat) (f : Tank → Tank) :
    (x.modTank k ws f).st.openedPeriod = x.st.openedPeriod := rfl
@[simp] theorem Txn.modTank_readings (x : Txn) (k : Nat) (ws : List Nat) (f : Tank → Tank) :
    (x.modTank k ws f).st.readings = x.st.readings := rfl
@[simp] theorem Txn.modTransfer_commands (x : Txn) (k : Nat) (ws : List Nat) (f : Transfer → Transfer) :
    (x.modTransfer k ws f).commands = x.commands := rfl
@[simp] theorem Txn.modTransfer_touched (x : Txn) (k : Nat) (ws : List Nat) (f : Transfer → Transfer) :
    (x.modTransfer k ws f).touched = x.touched := rfl
@[simp] theorem Txn.modTransfer_pending (x : Txn) (k : Nat) (ws : List Nat) (f : Transfer → Transfer) :
    (x.modTransfer k ws f).st.pending = x.st.pending := rfl
@[simp] theorem Txn.modTransfer_clock (x : Txn) (k : Nat) (ws : List Nat) (f : Transfer → Transfer) :
    (x.modTransfer k ws f).st.clock = x.st.clock := rfl
@[simp] theorem Txn.modTransfer_barges (x : Txn) (k : Nat) (ws : List Nat) (f : Transfer → Transfer) :
    (x.modTransfer k ws f).st.barges = x.st.barges := rfl
@[simp] theorem Txn.modTransfer_strings (x : Txn) (k : Nat) (ws : List Nat) (f : Transfer → Transfer) :
    (x.modTransfer k ws f).st.strings = x.st.strings := rfl
@[simp] theorem Txn.modTransfer_couplings (x : Txn) (k : Nat) (ws : List Nat) (f : Transfer → Transfer) :
    (x.modTransfer k ws f).st.couplings = x.st.couplings := rfl
@[simp] theorem Txn.modTransfer_engines (x : Txn) (k : Nat) (ws : List Nat) (f : Transfer → Transfer) :
    (x.modTransfer k ws f).st.engines = x.st.engines := rfl
@[simp] theorem Txn.modTransfer_rudders (x : Txn) (k : Nat) (ws : List Nat) (f : Transfer → Transfer) :
    (x.modTransfer k ws f).st.rudders = x.st.rudders := rfl
@[simp] theorem Txn.modTransfer_tanks (x : Txn) (k : Nat) (ws : List Nat) (f : Transfer → Transfer) :
    (x.modTransfer k ws f).st.tanks = x.st.tanks := rfl
@[simp] theorem Txn.modTransfer_transfers (x : Txn) (k : Nat) (ws : List Nat) (f : Transfer → Transfer) :
    (x.modTransfer k ws f).st.transfers = update (·.number == k) (fun r => (f r).renew ws) x.st.transfers := rfl
@[simp] theorem Txn.modTransfer_policy (x : Txn) (k : Nat) (ws : List Nat) (f : Transfer → Transfer) :
    (x.modTransfer k ws f).st.policy = x.st.policy := rfl
@[simp] theorem Txn.modTransfer_status (x : Txn) (k : Nat) (ws : List Nat) (f : Transfer → Transfer) :
    (x.modTransfer k ws f).st.status = x.st.status := rfl
@[simp] theorem Txn.modTransfer_lockage (x : Txn) (k : Nat) (ws : List Nat) (f : Transfer → Transfer) :
    (x.modTransfer k ws f).st.lockage = x.st.lockage := rfl
@[simp] theorem Txn.modTransfer_notices (x : Txn) (k : Nat) (ws : List Nat) (f : Transfer → Transfer) :
    (x.modTransfer k ws f).st.notices = x.st.notices := rfl
@[simp] theorem Txn.modTransfer_arbiter (x : Txn) (k : Nat) (ws : List Nat) (f : Transfer → Transfer) :
    (x.modTransfer k ws f).st.arbiter = x.st.arbiter := rfl
@[simp] theorem Txn.modTransfer_patrol (x : Txn) (k : Nat) (ws : List Nat) (f : Transfer → Transfer) :
    (x.modTransfer k ws f).st.patrol = x.st.patrol := rfl
@[simp] theorem Txn.modTransfer_console (x : Txn) (k : Nat) (ws : List Nat) (f : Transfer → Transfer) :
    (x.modTransfer k ws f).st.console = x.st.console := rfl
@[simp] theorem Txn.modTransfer_tow (x : Txn) (k : Nat) (ws : List Nat) (f : Transfer → Transfer) :
    (x.modTransfer k ws f).st.tow = x.st.tow := rfl
@[simp] theorem Txn.modTransfer_link (x : Txn) (k : Nat) (ws : List Nat) (f : Transfer → Transfer) :
    (x.modTransfer k ws f).st.link = x.st.link := rfl
@[simp] theorem Txn.modTransfer_openedPeriod (x : Txn) (k : Nat) (ws : List Nat) (f : Transfer → Transfer) :
    (x.modTransfer k ws f).st.openedPeriod = x.st.openedPeriod := rfl
@[simp] theorem Txn.modTransfer_readings (x : Txn) (k : Nat) (ws : List Nat) (f : Transfer → Transfer) :
    (x.modTransfer k ws f).st.readings = x.st.readings := rfl
@[simp] theorem Txn.modLockage_commands (x : Txn) (f : Lockage → Lockage) :
    (x.modLockage f).commands = x.commands := rfl
@[simp] theorem Txn.modLockage_touched (x : Txn) (f : Lockage → Lockage) : (x.modLockage f).touched = x.touched := rfl
@[simp] theorem Txn.modLockage_pending (x : Txn) (f : Lockage → Lockage) :
    (x.modLockage f).st.pending = x.st.pending := rfl
@[simp] theorem Txn.modLockage_clock (x : Txn) (f : Lockage → Lockage) : (x.modLockage f).st.clock = x.st.clock := rfl
@[simp] theorem Txn.modLockage_barges (x : Txn) (f : Lockage → Lockage) :
    (x.modLockage f).st.barges = x.st.barges := rfl
@[simp] theorem Txn.modLockage_strings (x : Txn) (f : Lockage → Lockage) :
    (x.modLockage f).st.strings = x.st.strings := rfl
@[simp] theorem Txn.modLockage_couplings (x : Txn) (f : Lockage → Lockage) :
    (x.modLockage f).st.couplings = x.st.couplings := rfl
@[simp] theorem Txn.modLockage_engines (x : Txn) (f : Lockage → Lockage) :
    (x.modLockage f).st.engines = x.st.engines := rfl
@[simp] theorem Txn.modLockage_rudders (x : Txn) (f : Lockage → Lockage) :
    (x.modLockage f).st.rudders = x.st.rudders := rfl
@[simp] theorem Txn.modLockage_tanks (x : Txn) (f : Lockage → Lockage) : (x.modLockage f).st.tanks = x.st.tanks := rfl
@[simp] theorem Txn.modLockage_transfers (x : Txn) (f : Lockage → Lockage) :
    (x.modLockage f).st.transfers = x.st.transfers := rfl
@[simp] theorem Txn.modLockage_policy (x : Txn) (f : Lockage → Lockage) :
    (x.modLockage f).st.policy = x.st.policy := rfl
@[simp] theorem Txn.modLockage_status (x : Txn) (f : Lockage → Lockage) :
    (x.modLockage f).st.status = x.st.status := rfl
@[simp] theorem Txn.modLockage_lockage (x : Txn) (f : Lockage → Lockage) :
    (x.modLockage f).st.lockage = f x.st.lockage := rfl
@[simp] theorem Txn.modLockage_notices (x : Txn) (f : Lockage → Lockage) :
    (x.modLockage f).st.notices = x.st.notices := rfl
@[simp] theorem Txn.modLockage_arbiter (x : Txn) (f : Lockage → Lockage) :
    (x.modLockage f).st.arbiter = x.st.arbiter := rfl
@[simp] theorem Txn.modLockage_patrol (x : Txn) (f : Lockage → Lockage) :
    (x.modLockage f).st.patrol = x.st.patrol := rfl
@[simp] theorem Txn.modLockage_console (x : Txn) (f : Lockage → Lockage) :
    (x.modLockage f).st.console = x.st.console := rfl
@[simp] theorem Txn.modLockage_tow (x : Txn) (f : Lockage → Lockage) : (x.modLockage f).st.tow = x.st.tow := rfl
@[simp] theorem Txn.modLockage_link (x : Txn) (f : Lockage → Lockage) : (x.modLockage f).st.link = x.st.link := rfl
@[simp] theorem Txn.modLockage_openedPeriod (x : Txn) (f : Lockage → Lockage) :
    (x.modLockage f).st.openedPeriod = x.st.openedPeriod := rfl
@[simp] theorem Txn.modLockage_readings (x : Txn) (f : Lockage → Lockage) :
    (x.modLockage f).st.readings = x.st.readings := rfl
@[simp] theorem Txn.modNotices_commands (x : Txn) (f : NoticeUnit → NoticeUnit) :
    (x.modNotices f).commands = x.commands := rfl
@[simp] theorem Txn.modNotices_touched (x : Txn) (f : NoticeUnit → NoticeUnit) :
    (x.modNotices f).touched = x.touched := rfl
@[simp] theorem Txn.modNotices_pending (x : Txn) (f : NoticeUnit → NoticeUnit) :
    (x.modNotices f).st.pending = x.st.pending := rfl
@[simp] theorem Txn.modNotices_clock (x : Txn) (f : NoticeUnit → NoticeUnit) :
    (x.modNotices f).st.clock = x.st.clock := rfl
@[simp] theorem Txn.modNotices_barges (x : Txn) (f : NoticeUnit → NoticeUnit) :
    (x.modNotices f).st.barges = x.st.barges := rfl
@[simp] theorem Txn.modNotices_strings (x : Txn) (f : NoticeUnit → NoticeUnit) :
    (x.modNotices f).st.strings = x.st.strings := rfl
@[simp] theorem Txn.modNotices_couplings (x : Txn) (f : NoticeUnit → NoticeUnit) :
    (x.modNotices f).st.couplings = x.st.couplings := rfl
@[simp] theorem Txn.modNotices_engines (x : Txn) (f : NoticeUnit → NoticeUnit) :
    (x.modNotices f).st.engines = x.st.engines := rfl
@[simp] theorem Txn.modNotices_rudders (x : Txn) (f : NoticeUnit → NoticeUnit) :
    (x.modNotices f).st.rudders = x.st.rudders := rfl
@[simp] theorem Txn.modNotices_tanks (x : Txn) (f : NoticeUnit → NoticeUnit) :
    (x.modNotices f).st.tanks = x.st.tanks := rfl
@[simp] theorem Txn.modNotices_transfers (x : Txn) (f : NoticeUnit → NoticeUnit) :
    (x.modNotices f).st.transfers = x.st.transfers := rfl
@[simp] theorem Txn.modNotices_policy (x : Txn) (f : NoticeUnit → NoticeUnit) :
    (x.modNotices f).st.policy = x.st.policy := rfl
@[simp] theorem Txn.modNotices_status (x : Txn) (f : NoticeUnit → NoticeUnit) :
    (x.modNotices f).st.status = x.st.status := rfl
@[simp] theorem Txn.modNotices_lockage (x : Txn) (f : NoticeUnit → NoticeUnit) :
    (x.modNotices f).st.lockage = x.st.lockage := rfl
@[simp] theorem Txn.modNotices_notices (x : Txn) (f : NoticeUnit → NoticeUnit) :
    (x.modNotices f).st.notices = f x.st.notices := rfl
@[simp] theorem Txn.modNotices_arbiter (x : Txn) (f : NoticeUnit → NoticeUnit) :
    (x.modNotices f).st.arbiter = x.st.arbiter := rfl
@[simp] theorem Txn.modNotices_patrol (x : Txn) (f : NoticeUnit → NoticeUnit) :
    (x.modNotices f).st.patrol = x.st.patrol := rfl
@[simp] theorem Txn.modNotices_console (x : Txn) (f : NoticeUnit → NoticeUnit) :
    (x.modNotices f).st.console = x.st.console := rfl
@[simp] theorem Txn.modNotices_tow (x : Txn) (f : NoticeUnit → NoticeUnit) : (x.modNotices f).st.tow = x.st.tow := rfl
@[simp] theorem Txn.modNotices_link (x : Txn) (f : NoticeUnit → NoticeUnit) :
    (x.modNotices f).st.link = x.st.link := rfl
@[simp] theorem Txn.modNotices_openedPeriod (x : Txn) (f : NoticeUnit → NoticeUnit) :
    (x.modNotices f).st.openedPeriod = x.st.openedPeriod := rfl
@[simp] theorem Txn.modNotices_readings (x : Txn) (f : NoticeUnit → NoticeUnit) :
    (x.modNotices f).st.readings = x.st.readings := rfl

/-! ## A write of words keeps the record's other fields -/

@[simp] theorem Barge.renew_hull (r : Barge) (ws : List Nat) : (r.renew ws).hull = r.hull := rfl
@[simp] theorem Barge.renew_string (r : Barge) (ws : List Nat) : (r.renew ws).string = r.string := rfl
@[simp] theorem Barge.renew_node (r : Barge) (ws : List Nat) : (r.renew ws).node = r.node := rfl
@[simp] theorem Barge.renew_laden (r : Barge) (ws : List Nat) : (r.renew ws).laden = r.laden := rfl
@[simp] theorem Barge.renew_draft (r : Barge) (ws : List Nat) : (r.renew ws).draft = r.draft := rfl
@[simp] theorem Barge.renew_bowFitted (r : Barge) (ws : List Nat) : (r.renew ws).bowFitted = r.bowFitted := rfl
@[simp] theorem Barge.renew_header (r : Barge) (ws : List Nat) : (r.renew ws).header = r.header.renew ws := rfl
@[simp] theorem Coupling.renew_number (r : Coupling) (ws : List Nat) : (r.renew ws).number = r.number := rfl
@[simp] theorem Coupling.renew_kind (r : Coupling) (ws : List Nat) : (r.renew ws).kind = r.kind := rfl
@[simp] theorem Coupling.renew_endA (r : Coupling) (ws : List Nat) : (r.renew ws).endA = r.endA := rfl
@[simp] theorem Coupling.renew_endB (r : Coupling) (ws : List Nat) : (r.renew ws).endB = r.endB := rfl
@[simp] theorem Coupling.renew_tending (r : Coupling) (ws : List Nat) : (r.renew ws).tending = r.tending := rfl
@[simp] theorem Coupling.renew_rated (r : Coupling) (ws : List Nat) : (r.renew ws).rated = r.rated := rfl
@[simp] theorem Coupling.renew_tendOrder (r : Coupling) (ws : List Nat) : (r.renew ws).tendOrder = r.tendOrder := rfl
@[simp] theorem Coupling.renew_declaredMade (r : Coupling) (ws : List Nat) :
    (r.renew ws).declaredMade = r.declaredMade := rfl
@[simp] theorem Coupling.renew_state (r : Coupling) (ws : List Nat) : (r.renew ws).state = r.state := rfl
@[simp] theorem Coupling.renew_tension (r : Coupling) (ws : List Nat) : (r.renew ws).tension = r.tension := rfl
@[simp] theorem Coupling.renew_seated (r : Coupling) (ws : List Nat) : (r.renew ws).seated = r.seated := rfl
@[simp] theorem Coupling.renew_winchFault (r : Coupling) (ws : List Nat) :
    (r.renew ws).winchFault = r.winchFault := rfl
@[simp] theorem Coupling.renew_crossing (r : Coupling) (ws : List Nat) : (r.renew ws).crossing = r.crossing := rfl
@[simp] theorem Coupling.renew_debounce (r : Coupling) (ws : List Nat) : (r.renew ws).debounce = r.debounce := rfl
@[simp] theorem Coupling.renew_slackTimer (r : Coupling) (ws : List Nat) :
    (r.renew ws).slackTimer = r.slackTimer := rfl
@[simp] theorem Coupling.renew_dropSeen (r : Coupling) (ws : List Nat) : (r.renew ws).dropSeen = r.dropSeen := rfl
@[simp] theorem Coupling.renew_header (r : Coupling) (ws : List Nat) : (r.renew ws).header = r.header.renew ws := rfl
@[simp] theorem Engine.renew_number (r : Engine) (ws : List Nat) : (r.renew ws).number = r.number := rfl
@[simp] theorem Engine.renew_station (r : Engine) (ws : List Nat) : (r.renew ws).station = r.station := rfl
@[simp] theorem Engine.renew_bowBarge (r : Engine) (ws : List Nat) : (r.renew ws).bowBarge = r.bowBarge := rfl
@[simp] theorem Engine.renew_meter (r : Engine) (ws : List Nat) : (r.renew ws).meter = r.meter := rfl
@[simp] theorem Engine.renew_supply (r : Engine) (ws : List Nat) : (r.renew ws).supply = r.supply := rfl
@[simp] theorem Engine.renew_rated (r : Engine) (ws : List Nat) : (r.renew ws).rated = r.rated := rfl
@[simp] theorem Engine.renew_meterFactor (r : Engine) (ws : List Nat) :
    (r.renew ws).meterFactor = r.meterFactor := rfl
@[simp] theorem Engine.renew_staged (r : Engine) (ws : List Nat) : (r.renew ws).staged = r.staged := rfl
@[simp] theorem Engine.renew_next (r : Engine) (ws : List Nat) : (r.renew ws).next = r.next := rfl
@[simp] theorem Engine.renew_live (r : Engine) (ws : List Nat) : (r.renew ws).live = r.live := rfl
@[simp] theorem Engine.renew_allowed (r : Engine) (ws : List Nat) : (r.renew ws).allowed = r.allowed := rfl
@[simp] theorem Engine.renew_sent (r : Engine) (ws : List Nat) : (r.renew ws).sent = r.sent := rfl
@[simp] theorem Engine.renew_delivered (r : Engine) (ws : List Nat) : (r.renew ws).delivered = r.delivered := rfl
@[simp] theorem Engine.renew_alarm (r : Engine) (ws : List Nat) : (r.renew ws).alarm = r.alarm := rfl
@[simp] theorem Engine.renew_state (r : Engine) (ws : List Nat) : (r.renew ws).state = r.state := rfl
@[simp] theorem Engine.renew_lastDirection (r : Engine) (ws : List Nat) :
    (r.renew ws).lastDirection = r.lastDirection := rfl
@[simp] theorem Engine.renew_zeroTime (r : Engine) (ws : List Nat) : (r.renew ws).zeroTime = r.zeroTime := rfl
@[simp] theorem Engine.renew_consumed (r : Engine) (ws : List Nat) : (r.renew ws).consumed = r.consumed := rfl
@[simp] theorem Engine.renew_undebited (r : Engine) (ws : List Nat) : (r.renew ws).undebited = r.undebited := rfl
@[simp] theorem Engine.renew_header (r : Engine) (ws : List Nat) : (r.renew ws).header = r.header.renew ws := rfl
@[simp] theorem Rudder.renew_channel (r : Rudder) (ws : List Nat) : (r.renew ws).channel = r.channel := rfl
@[simp] theorem Rudder.renew_kind (r : Rudder) (ws : List Nat) : (r.renew ws).kind = r.kind := rfl
@[simp] theorem Rudder.renew_shaft (r : Rudder) (ws : List Nat) : (r.renew ws).shaft = r.shaft := rfl
@[simp] theorem Rudder.renew_station (r : Rudder) (ws : List Nat) : (r.renew ws).station = r.station := rfl
@[simp] theorem Rudder.renew_limit (r : Rudder) (ws : List Nat) : (r.renew ws).limit = r.limit := rfl
@[simp] theorem Rudder.renew_rate (r : Rudder) (ws : List Nat) : (r.renew ws).rate = r.rate := rfl
@[simp] theorem Rudder.renew_staged (r : Rudder) (ws : List Nat) : (r.renew ws).staged = r.staged := rfl
@[simp] theorem Rudder.renew_next (r : Rudder) (ws : List Nat) : (r.renew ws).next = r.next := rfl
@[simp] theorem Rudder.renew_live (r : Rudder) (ws : List Nat) : (r.renew ws).live = r.live := rfl
@[simp] theorem Rudder.renew_allowed (r : Rudder) (ws : List Nat) : (r.renew ws).allowed = r.allowed := rfl
@[simp] theorem Rudder.renew_sent (r : Rudder) (ws : List Nat) : (r.renew ws).sent = r.sent := rfl
@[simp] theorem Rudder.renew_feedback (r : Rudder) (ws : List Nat) : (r.renew ws).feedback = r.feedback := rfl
@[simp] theorem Rudder.renew_state (r : Rudder) (ws : List Nat) : (r.renew ws).state = r.state := rfl
@[simp] theorem Rudder.renew_header (r : Rudder) (ws : List Nat) : (r.renew ws).header = r.header.renew ws := rfl
@[simp] theorem Tank.renew_number (r : Tank) (ws : List Nat) : (r.renew ws).number = r.number := rfl
@[simp] theorem Tank.renew_kind (r : Tank) (ws : List Nat) : (r.renew ws).kind = r.kind := rfl
@[simp] theorem Tank.renew_gauge (r : Tank) (ws : List Nat) : (r.renew ws).gauge = r.gauge := rfl
@[simp] theorem Tank.renew_capacity (r : Tank) (ws : List Nat) : (r.renew ws).capacity = r.capacity := rfl
@[simp] theorem Tank.renew_lowMark (r : Tank) (ws : List Nat) : (r.renew ws).lowMark = r.lowMark := rfl
@[simp] theorem Tank.renew_content (r : Tank) (ws : List Nat) : (r.renew ws).content = r.content := rfl
@[simp] theorem Tank.renew_opening (r : Tank) (ws : List Nat) : (r.renew ws).opening = r.opening := rfl
@[simp] theorem Tank.renew_received (r : Tank) (ws : List Nat) : (r.renew ws).received = r.received := rfl
@[simp] theorem Tank.renew_transferredIn (r : Tank) (ws : List Nat) :
    (r.renew ws).transferredIn = r.transferredIn := rfl
@[simp] theorem Tank.renew_transferredOut (r : Tank) (ws : List Nat) :
    (r.renew ws).transferredOut = r.transferredOut := rfl
@[simp] theorem Tank.renew_drawn (r : Tank) (ws : List Nat) : (r.renew ws).drawn = r.drawn := rfl
@[simp] theorem Tank.renew_adjustments (r : Tank) (ws : List Nat) : (r.renew ws).adjustments = r.adjustments := rfl
@[simp] theorem Tank.renew_shortfall (r : Tank) (ws : List Nat) : (r.renew ws).shortfall = r.shortfall := rfl
@[simp] theorem Tank.renew_low (r : Tank) (ws : List Nat) : (r.renew ws).low = r.low := rfl
@[simp] theorem Tank.renew_gauged (r : Tank) (ws : List Nat) : (r.renew ws).gauged = r.gauged := rfl
@[simp] theorem Tank.renew_header (r : Tank) (ws : List Nat) : (r.renew ws).header = r.header.renew ws := rfl
@[simp] theorem Transfer.renew_number (r : Transfer) (ws : List Nat) : (r.renew ws).number = r.number := rfl
@[simp] theorem Transfer.renew_pump (r : Transfer) (ws : List Nat) : (r.renew ws).pump = r.pump := rfl
@[simp] theorem Transfer.renew_source (r : Transfer) (ws : List Nat) : (r.renew ws).source = r.source := rfl
@[simp] theorem Transfer.renew_destination (r : Transfer) (ws : List Nat) :
    (r.renew ws).destination = r.destination := rfl
@[simp] theorem Transfer.renew_factor (r : Transfer) (ws : List Nat) : (r.renew ws).factor = r.factor := rfl
@[simp] theorem Transfer.renew_batchVolume (r : Transfer) (ws : List Nat) :
    (r.renew ws).batchVolume = r.batchVolume := rfl
@[simp] theorem Transfer.renew_mode (r : Transfer) (ws : List Nat) : (r.renew ws).mode = r.mode := rfl
@[simp] theorem Transfer.renew_batchCount (r : Transfer) (ws : List Nat) :
    (r.renew ws).batchCount = r.batchCount := rfl
@[simp] theorem Transfer.renew_interval (r : Transfer) (ws : List Nat) : (r.renew ws).interval = r.interval := rfl
@[simp] theorem Transfer.renew_batchesDone (r : Transfer) (ws : List Nat) :
    (r.renew ws).batchesDone = r.batchesDone := rfl
@[simp] theorem Transfer.renew_batchMoved (r : Transfer) (ws : List Nat) :
    (r.renew ws).batchMoved = r.batchMoved := rfl
@[simp] theorem Transfer.renew_totalMoved (r : Transfer) (ws : List Nat) :
    (r.renew ws).totalMoved = r.totalMoved := rfl
@[simp] theorem Transfer.renew_heldVolume (r : Transfer) (ws : List Nat) :
    (r.renew ws).heldVolume = r.heldVolume := rfl
@[simp] theorem Transfer.renew_state (r : Transfer) (ws : List Nat) : (r.renew ws).state = r.state := rfl
@[simp] theorem Transfer.renew_gapRequest (r : Transfer) (ws : List Nat) :
    (r.renew ws).gapRequest = r.gapRequest := rfl
@[simp] theorem Transfer.renew_pendingAbort (r : Transfer) (ws : List Nat) :
    (r.renew ws).pendingAbort = r.pendingAbort := rfl
@[simp] theorem Transfer.renew_mark (r : Transfer) (ws : List Nat) : (r.renew ws).mark = r.mark := rfl
@[simp] theorem Transfer.renew_pumpRun (r : Transfer) (ws : List Nat) : (r.renew ws).pumpRun = r.pumpRun := rfl
@[simp] theorem Transfer.renew_quiet (r : Transfer) (ws : List Nat) : (r.renew ws).quiet = r.quiet := rfl
@[simp] theorem Transfer.renew_header (r : Transfer) (ws : List Nat) : (r.renew ws).header = r.header.renew ws := rfl
@[simp] theorem Header.renew_damaged (h : Header) (ws : List Nat) : (h.renew ws).damaged = h.damaged := rfl

end Sys2Proof.Machine
end

