-- ==== Sys2Proof/Laws/Tables.lean ====
section
/-! SUPPORT. The operations over tables: changing the records a test picks, entering a record in key order, the lowest
free number, and the places of the tow. -/
namespace Sys2Proof.Machine

/-! ## `update` -/

theorem update_length {α : Type} (p : α → Bool) (f : α → α) (l : List α) : (update p f l).length = l.length := by
  simp [update]

theorem mem_update {α : Type} (p : α → Bool) (f : α → α) (l : List α) (b : α) :
    b ∈ update p f l ↔ ∃ a ∈ l, (if p a then f a else a) = b := by simp [update]

/-- A change that keeps a figure of every record keeps the list of them. -/
theorem map_update {α β : Type} (p : α → Bool) (f : α → α) (g : α → β) (l : List α) (h : ∀ a, g (f a) = g a) :
    (update p f l).map g = l.map g := by
  induction l with
  | nil => rfl
  | cons a l ih =>
    simp only [update, List.map_cons] at ih ⊢
    rw [ih]
    split <;> simp [h]

/-- A change that keeps keys changes the record looked up exactly when its test picks it. -/
theorem find?_update {α : Type} (p q : α → Bool) (f : α → α) (l : List α) (h : ∀ a, q (f a) = q a) :
    (update p f l).find? q = (l.find? q).map fun a => if p a then f a else a := by
  induction l with
  | nil => rfl
  | cons a l ih =>
    simp only [update, List.map_cons, List.find?_cons] at ih ⊢
    have : q (if p a then f a else a) = q a := by split <;> simp [h]
    rw [this]
    cases q a <;> simp [ih]

/-- With no record picked the table stands. -/
theorem update_none {α : Type} (p : α → Bool) (f : α → α) (l : List α) (h : ∀ a ∈ l, p a = false) : update p f l = l := by
  induction l with
  | nil => rfl
  | cons a l ih =>
    have := ih fun b hb => h b (List.mem_cons_of_mem a hb)
    simp only [update, List.map_cons] at this ⊢
    rw [this, h a (by simp)]
    rfl

theorem update_update {α : Type} (p : α → Bool) (f g : α → α) (l : List α) (h : ∀ a, p (f a) = p a) :
    update p g (update p f l) = update p (fun a => g (f a)) l := by
  simp only [update, List.map_map]
  congr 1
  funext a
  by_cases hp : p a <;> simp [hp, h]

/-! ## `insertByKey` (R1) -/

theorem mem_insertByKey {α : Type} (key : α → Nat) (a b : α) (l : List α) :
    b ∈ insertByKey key a l ↔ b = a ∨ b ∈ l := by
  induction l with
  | nil => simp [insertByKey]
  | cons c l ih =>
    unfold insertByKey
    split
    · simp
    · simp only [List.mem_cons, ih]; tauto

theorem insertByKey_perm {α : Type} (key : α → Nat) (a : α) (l : List α) : (insertByKey key a l).Perm (a :: l) := by
  induction l with
  | nil => exact List.Perm.refl _
  | cons c l ih =>
    unfold insertByKey
    split
    · exact List.Perm.refl _
    · exact (ih.cons c).trans (List.Perm.swap a c l)

theorem length_insertByKey {α : Type} (key : α → Nat) (a : α) (l : List α) :
    (insertByKey key a l).length = l.length + 1 := by simpa using (insertByKey_perm key a l).length_eq

/-- R1: a record entered among records in ascending order keeps the order. -/
theorem insertByKey_sorted {α : Type} (key : α → Nat) (a : α) (l : List α)
    (hl : l.Pairwise fun b c => key b < key c) (ha : ∀ b ∈ l, key b ≠ key a) :
    (insertByKey key a l).Pairwise fun b c => key b < key c := by
  induction l with
  | nil => simp [insertByKey]
  | cons c l ih =>
    unfold insertByKey
    rw [List.pairwise_cons] at hl
    split
    · rename_i hlt
      refine List.pairwise_cons.mpr ⟨fun b hb => ?_, List.pairwise_cons.mpr hl⟩
      rcases List.mem_cons.mp hb with rfl | hb
      · exact hlt
      · exact hlt.trans (hl.1 b hb)
    · rename_i hge
      have hne := ha c (by simp)
      refine List.pairwise_cons.mpr ⟨fun b hb => ?_, ih hl.2 fun b hb => ha b (List.mem_cons_of_mem c hb)⟩
      rcases (mem_insertByKey key a b l).mp hb with rfl | hb
      · omega
      · exact hl.1 b hb

/-! ## `lowestFree` (R5) -/

/-- Every number below the one found, from the start on, is taken. -/
theorem lowestFree_taken (taken : List Nat) (fuel : Nat) :
    ∀ n m, n ≤ m → m < lowestFree taken fuel n → m ∈ taken := by
  induction fuel with
  | zero => intro n m h1 h2; simp only [lowestFree] at h2; omega
  | succ fuel ih =>
    intro n m h1 h2
    simp only [lowestFree] at h2
    split at h2
    · rename_i ht
      rcases Nat.lt_or_ge n m with h | h
      · exact ih (n + 1) m h h2
      · have : n = m := by omega
        subst this; simpa using ht
    · omega

theorem lowestFree_le (taken : List Nat) (fuel : Nat) : ∀ n, n ≤ lowestFree taken fuel n ∧ lowestFree taken fuel n ≤ n + fuel := by
  induction fuel with
  | zero => intro n; simp [lowestFree]
  | succ fuel ih =>
    intro n
    simp only [lowestFree]
    split
    · have := ih (n + 1); omega
    · omega

/-- The number found is free, unless every number looked at is taken. -/
theorem lowestFree_free (taken : List Nat) (fuel : Nat) :
    ∀ n, lowestFree taken fuel n < n + fuel → lowestFree taken fuel n ∉ taken := by
  induction fuel with
  | zero => intro n h; simp [lowestFree] at h
  | succ fuel ih =>
    intro n h
    simp only [lowestFree] at h ⊢
    split at h
    · rename_i ht; rw [if_pos ht]; exact ih (n + 1) (by omega)
    · rename_i ht; rw [if_neg ht]; simpa using ht

/-! ## Records of a table -/

/-- A change of the records of one key, seen through a figure of the records. -/
theorem find?_update_map {α β : Type} (key : α → Nat) (part : α → β) (g : α → α) (f : β → β) (l : List α) (k k' : Nat)
    (hk : ∀ a, key (g a) = key a) (hp : ∀ a, part (g a) = f (part a)) :
    ((update (key · == k) g l).find? (key · == k')).map part =
      ((l.find? (key · == k')).map part).map fun b => if k' = k then f b else b := by
  rw [find?_update _ _ _ _ fun a => by rw [hk a], Option.map_map, Option.map_map]
  refine Option.map_congr fun a ha => ?_
  have h := List.find?_some ha
  simp only [beq_iff_eq] at h
  subst h
  simp only [Function.comp, beq_iff_eq]
  split <;> simp [hp]

/-- A change of the records of one key that keeps a figure of each keeps the figure of every record. -/
theorem find?_update_keeps {α β : Type} (key : α → Nat) (part : α → β) (g : α → α) (l : List α) (k k' : Nat)
    (hk : ∀ a, key (g a) = key a) (hp : ∀ a, part (g a) = part a) :
    ((update (key · == k) g l).find? (key · == k')).map part = (l.find? (key · == k')).map part := by
  rw [find?_update_map key part g id l k k' hk hp]
  simp only [id_eq, ite_self, Option.map_id']

/-- A change of headers keeps every other record's header and changes the one named. -/
theorem State.header?_modHeader (s : State) (t : Tbl) (k : Nat) (f : Header → Header) (k' : Nat) :
    (s.modHeader t k f).header? t k' = (s.header? t k').map fun h => if k' = k then f h else h := by
  cases t
  · exact find?_update_map (·.hull) (·.header) (fun r => { r with header := f r.header }) f s.barges k k'
      (fun _ => rfl) fun _ => rfl
  · exact find?_update_map (·.number) (·.header) (fun r => { r with header := f r.header }) f s.couplings k k'
      (fun _ => rfl) fun _ => rfl
  · exact find?_update_map (·.number) (·.header) (fun r => { r with header := f r.header }) f s.engines k k'
      (fun _ => rfl) fun _ => rfl
  · exact find?_update_map (·.channel) (·.header) (fun r => { r with header := f r.header }) f s.rudders k k'
      (fun _ => rfl) fun _ => rfl
  · exact find?_update_map (·.number) (·.header) (fun r => { r with header := f r.header }) f s.tanks k k'
      (fun _ => rfl) fun _ => rfl
  · exact find?_update_map (·.number) (·.header) (fun r => { r with header := f r.header }) f s.transfers k k'
      (fun _ => rfl) fun _ => rfl

/-- A change of headers of one table keeps the headers of the others. -/
theorem State.header?_modHeader_other (s : State) (t u : Tbl) (k : Nat) (f : Header → Header) (k' : Nat) (h : u ≠ t) :
    (s.modHeader t k f).header? u k' = s.header? u k' := by
  cases t <;> cases u <;> first | exact absurd rfl h | rfl

/-- A renewed header holds no bad bit of the words written, and keeps the rest. -/
theorem Header.mem_renew (h : Header) (words : List Nat) (p : Nat × Nat) :
    p ∈ (h.renew words).bad ↔ p ∈ h.bad ∧ p.1 ∉ words := by simp [Header.renew]

/-- A header without bad bits stays as it is. -/
theorem Header.renew_clean (h : Header) (words : List Nat) (hb : h.bad = []) : h.renew words = h := by
  cases h; simp_all [Header.renew]

end Sys2Proof.Machine
end

