-- ==== Sys2Proof/Laws/Reads.lean ====
section
/-! SUPPORT. Reads of store words (R11 to R14): what a read can do, and that over a store without errors it says only
whether the record is enrolled and undamaged. -/
namespace Sys2Proof.Machine

/-! ## Words -/

theorem Header.check_clean (h : Header) (w : Nat) : h.check w = .clean ↔ ∀ b, (w, b) ∉ h.bad := by
  unfold Header.check
  constructor
  · intro hc b hb
    have : 0 < (h.bad.filter fun p => p.1 == w).length :=
      List.length_pos_of_mem (List.mem_filter.mpr ⟨hb, by simp⟩)
    split at hc <;> simp_all
  · intro hb
    have : h.bad.filter (fun p => p.1 == w) = [] := by
      rw [List.filter_eq_nil_iff]
      rintro ⟨v, b⟩ hv hw
      simp only [beq_iff_eq] at hw
      subst hw
      exact hb b hv
    simp [this]

theorem Header.check_corrected (h : Header) (w : Nat) :
    h.check w = .corrected ↔ (h.bad.filter fun p => p.1 == w).length = 1 := by
  unfold Header.check
  generalize (h.bad.filter fun p => p.1 == w).length = n
  match n with
  | 0 => simp
  | 1 => simp
  | n + 2 => simp

theorem Header.check_failed (h : Header) (w : Nat) :
    h.check w = .failed ↔ 2 ≤ (h.bad.filter fun p => p.1 == w).length := by
  unfold Header.check
  generalize (h.bad.filter fun p => p.1 == w).length = n
  match n with
  | 0 => simp
  | 1 => simp
  | n + 2 => simp

/-! ## Scans -/

/-- R11: all that a scan changes is the count of corrected words. -/
theorem Txn.scan_spec (h : Header) (ws : List Nat) : ∀ x : Txn,
    ∃ n : Nat, (x.scan h ws).1 = { x with st := { x.st with status := { x.st.status with corrected := n } } } := by
  induction ws with
  | nil => exact fun x => ⟨x.st.status.corrected, rfl⟩
  | cons w ws ih =>
    intro x
    unfold Txn.scan
    split
    · exact ih x
    · obtain ⟨n, hy⟩ := ih x.countCorrected
      exact ⟨n, hy⟩
    · exact ⟨x.st.status.corrected, rfl⟩

theorem Txn.scan_clean (x : Txn) (h : Header) (ws : List Nat)
    (hc : ∀ w ∈ ws, ∀ b, (w, b) ∉ h.bad) : x.scan h ws = (x, true) := by
  induction ws with
  | nil => rfl
  | cons w ws ih =>
    have := (Header.check_clean h w).mpr (hc w (by simp))
    unfold Txn.scan
    rw [this]
    exact ih fun v hv => hc v (List.mem_cons_of_mem w hv)

/-- R11: a scan delivers every word exactly when no word of it has two bad bits. -/
theorem Txn.scan_delivers (h : Header) (ws : List Nat) : ∀ x : Txn,
    (x.scan h ws).2 = true ↔ ∀ w ∈ ws, h.check w ≠ .failed := by
  induction ws with
  | nil => intro x; simp [Txn.scan]
  | cons w ws ih =>
    intro x
    unfold Txn.scan
    split <;> rename_i hw <;> simp [ih, hw]

/-! ## Reads -/

/-- A read that delivers found an enrolled, undamaged record, and changed the count of corrected words at most. -/
theorem Txn.read_true (x y : Txn) (t : Tbl) (k : Nat) (ws : List Nat) (h : x.read t k ws = (y, true)) :
    x.st.sound t k = true ∧ ∃ n : Nat, y = { x with st := { x.st with status := { x.st.status with corrected := n } } } := by
  unfold Txn.read at h
  split at h
  · rename_i z hz
    obtain ⟨rfl, -⟩ := Prod.mk.inj h
    unfold Txn.readRecord at hz
    split at hz
    · cases hz
    · rename_i hd hh
      split at hz
      · cases hz
      · rename_i hn
        obtain ⟨n, hs⟩ := Txn.scan_spec hd ws x
        split at hz
        · rename_i w hw
          obtain ⟨rfl, -⟩ := Prod.mk.inj hz
          rw [hw] at hs
          exact ⟨by simp [State.sound, hh, hn], n, hs⟩
        · cases hz
  · split at h <;> cases h

/-- R13: a read of a record that is not enrolled, or is damaged, delivers nothing and changes nothing. -/
theorem Txn.read_unsound (x : Txn) (t : Tbl) (k : Nat) (ws : List Nat) (h : x.st.sound t k = false) :
    x.read t k ws = (x, false) := by
  have : x.readRecord t k ws = (x, false) := by
    unfold Txn.readRecord
    unfold State.sound at h
    split
    · rfl
    · rename_i hd hh; rw [hh] at h; simp only [Bool.not_eq_eq_eq_not, Bool.not_false] at h; simp [h]
  simp [Txn.read, this, h]

/-- R11: a read of words without a bad bit, of an undamaged record, delivers them and changes nothing. -/
theorem Txn.read_clean (x : Txn) (t : Tbl) (k : Nat) (ws : List Nat) (h : Header) (hh : x.st.header? t k = some h)
    (hd : h.damaged = false) (hc : ∀ w ∈ ws, ∀ b, (w, b) ∉ h.bad) : x.read t k ws = (x, true) := by
  have : x.readRecord t k ws = (x, true) := by
    simp [Txn.readRecord, hh, hd, Txn.scan_clean x h ws hc]
  simp [Txn.read, this]

/-! ## A store without errors -/

/-- No undamaged record of a store without errors holds a bad bit. -/
theorem State.errorFree_header (s : State) (he : s.errorFree = true) (t : Tbl) (k : Nat) (h : Header)
    (hh : s.header? t k = some h) (hd : h.damaged = false) : h.bad = [] := by
  simp only [State.errorFree, Bool.and_eq_true, List.all_eq_true] at he
  obtain ⟨⟨⟨⟨⟨h1, h2⟩, h3⟩, h4⟩, h5⟩, h6⟩ := he
  have hf : h.errorFree = true := by
    cases t <;> simp only [State.header?, Option.map_eq_some_iff] at hh <;> obtain ⟨r, hr, rfl⟩ := hh
    · exact h1 r (List.mem_of_find?_eq_some hr)
    · exact h2 r (List.mem_of_find?_eq_some hr)
    · exact h3 r (List.mem_of_find?_eq_some hr)
    · exact h4 r (List.mem_of_find?_eq_some hr)
    · exact h5 r (List.mem_of_find?_eq_some hr)
    · exact h6 r (List.mem_of_find?_eq_some hr)
  simpa [Header.errorFree, hd] using hf

/-- Over a store without errors a read changes nothing and says whether the record is enrolled and undamaged. -/
theorem Txn.read_errorFree (x : Txn) (he : x.st.errorFree = true) (t : Tbl) (k : Nat) (ws : List Nat) :
    x.read t k ws = (x, x.st.sound t k) := by
  cases hs : x.st.sound t k with
  | false => exact Txn.read_unsound x t k ws hs
  | true =>
    unfold State.sound at hs
    split at hs
    · rename_i h hh
      have hd : h.damaged = false := by simpa using hs
      refine Txn.read_clean x t k ws h hh hd fun w _ b hb => ?_
      rw [State.errorFree_header x.st he t k h hh hd] at hb
      cases hb
    · cases hs

/-- A write that renews words of a record without bad bits leaves its header as it is. -/
theorem Barge.renew_clean (r : Barge) (ws : List Nat) (hb : r.header.bad = []) : r.renew ws = r := by
  cases r; simp [Barge.renew, Header.renew_clean _ ws hb]
theorem Coupling.renew_clean (r : Coupling) (ws : List Nat) (hb : r.header.bad = []) : r.renew ws = r := by
  cases r; simp [Coupling.renew, Header.renew_clean _ ws hb]
theorem Engine.renew_clean (r : Engine) (ws : List Nat) (hb : r.header.bad = []) : r.renew ws = r := by
  cases r; simp [Engine.renew, Header.renew_clean _ ws hb]
theorem Rudder.renew_clean (r : Rudder) (ws : List Nat) (hb : r.header.bad = []) : r.renew ws = r := by
  cases r; simp [Rudder.renew, Header.renew_clean _ ws hb]
theorem Tank.renew_clean (r : Tank) (ws : List Nat) (hb : r.header.bad = []) : r.renew ws = r := by
  cases r; simp [Tank.renew, Header.renew_clean _ ws hb]
theorem Transfer.renew_clean (r : Transfer) (ws : List Nat) (hb : r.header.bad = []) : r.renew ws = r := by
  cases r; simp [Transfer.renew, Header.renew_clean _ ws hb]

/-- An engine without bad bits that leaves RUNNING, or whose state is written, keeps its header. -/
theorem Engine.stopped_clean (e : Engine) (u : UnitState) (hb : e.header.bad = []) :
    e.stopped u =
      { e with allowed := 0, sent := 0, delivered := none, alarm := false, zeroTime := 0, state := u } :=
  Engine.renew_clean _ _ hb
theorem Engine.inState_clean (e : Engine) (u : UnitState) (hb : e.header.bad = []) :
    e.inState u = { e with state := u } := Engine.renew_clean _ _ hb
theorem Rudder.inState_clean (r : Rudder) (u : UnitState) (hb : r.header.bad = []) :
    r.inState u = { r with state := u } := Rudder.renew_clean _ _ hb

/-- Where no node is listed at the address, a rebinding reaches nothing. -/
theorem State.reboundAt_unlisted (s : State) (a : Nat) (h : ∀ n ∈ s.tow.nodes, n.address ≠ a) :
    s.reboundAt a = s := by
  have : (s.tow.nodes.any (·.address == a)) = false := by simpa using h
  simp [State.reboundAt, this]

/-- A property that each round of a work over keys keeps holds at its end. -/
theorem Txn.forKeys_keeps (p : Txn → Prop) (f : Nat → Txn → Txn) (keys : List Nat) :
    ∀ x : Txn, p x → (∀ k ∈ keys, ∀ y, p y → p (f k y)) → p (x.forKeys keys f) := by
  induction keys with
  | nil => exact fun x hx _ => hx
  | cons k keys ih =>
    intro x hx hf
    exact ih (f k x) (hf k (by simp) x hx) fun m hm => hf m (List.mem_cons_of_mem k hm)

/-- Over a store without errors reading several records changes nothing. -/
theorem Txn.readAll_errorFree (x : Txn) (he : x.st.errorFree = true) (t : Tbl) (keys ws : List Nat) :
    x.readAll t keys ws = x := by
  have := Txn.forKeys_keeps (fun y => y = x) (fun k y => (y.read t k ws).1) keys x rfl
    (by rintro k - y rfl; simp [Txn.read_errorFree y he])
  exact this

end Sys2Proof.Machine
end

