-- ==== Sys2Proof/Laws/Ends.lean ====
section
/-! SUPPORT. What the blocks do after a command (`settle`), the end of a transaction (`Txn.commit`), and the two
shapes of a granted transaction: what they leave as it was, and what they answer. -/
namespace Sys2Proof.Machine

/-! ## The arbiter -/

theorem Arbiter.waits_setWaits (a : Arbiter) (r q : Requester) (b : Bool) :
    (a.setWaits r b).waits q = if q = r then b else a.waits q := by
  cases r <;> cases q <;> rfl

theorem Arbiter.setWaits_pointer (a : Arbiter) (r : Requester) (b : Bool) : (a.setWaits r b).pointer = a.pointer := by
  cases r <;> rfl

/-- Only a grant changes the waiting set at `r` from set to clear, and it changes no other member. -/
theorem Arbiter.waits_grant (a : Arbiter) (r q : Requester) :
    (a.grant r).waits q = if q = r then false else a.waits q := by
  cases r <;> cases q <;> rfl

/-! ## What the blocks ask for -/

/-- R23, R34: asking for the store is all the Console Port does of its own accord. -/
theorem State.askConsole_spec (s : State) : ∃ (due : Nat) (asked : Bool) (a : Arbiter),
    s.askConsole = { s with
      console := { s.console with silenceDue := due, askedSilence := asked }, arbiter := a } := by
  unfold State.askConsole
  repeat' split
  all_goals exact ⟨_, _, _, rfl⟩

theorem State.endDelivery_spec (s : State) (address : Nat) (taken : Bool) (accepted : List Nat) :
    ∃ (p : TowPhase) (a : Arbiter),
      s.endDelivery address taken accepted = { s with tow := { s.tow with phase := p }, arbiter := a } := by
  unfold State.endDelivery
  dsimp only
  repeat' split
  all_goals exact ⟨_, _, rfl⟩

theorem State.endEmptyDelivery_spec (s : State) : ∃ (p : TowPhase) (a : Arbiter),
    s.endEmptyDelivery = { s with tow := { s.tow with phase := p }, arbiter := a } := by
  unfold State.endEmptyDelivery
  repeat' split
  all_goals first
    | exact ⟨_, _, rfl⟩
    | exact State.endDelivery_spec s _ _ _

theorem State.askTow_spec (s : State) : ∃ (p : TowPhase) (a : Arbiter),
    s.askTow = { s with tow := { s.tow with phase := p }, arbiter := a } := by
  unfold State.askTow
  split
  all_goals exact ⟨_, _, rfl⟩

theorem State.advanceCycle_spec (s : State) : ∃ c : Option Cycle,
    s.advanceCycle = { s with link := { s.link with cycle := c } } := by
  unfold State.advanceCycle
  dsimp only
  repeat' split
  all_goals exact ⟨_, rfl⟩

theorem State.askLink_spec (s : State) : ∃ a : Arbiter, s.askLink = { s with arbiter := a } := by
  unfold State.askLink
  split
  all_goals exact ⟨_, rfl⟩

theorem State.askFuel_spec (s : State) : ∃ a : Arbiter, s.askFuel = { s with arbiter := a } := by
  unfold State.askFuel
  split
  all_goals exact ⟨_, rfl⟩

/-- Everything the blocks do of their own accord once a command has taken effect: they ask for the store, a delivery
and a cycle go on or end, and a silence transaction that was due is asked for. -/
theorem settle_spec (s : State) :
    ∃ (due : Nat) (asked : Bool) (a : Arbiter) (p : TowPhase) (c : Option Cycle),
      settle s = { s with
        console := { s.console with silenceDue := due, askedSilence := asked }
        arbiter := a
        tow := { s.tow with phase := p }
        link := { s.link with cycle := c } } := by
  unfold settle
  obtain ⟨due, asked, a1, h1⟩ := s.askConsole_spec
  generalize s.askConsole = s1 at h1 ⊢
  obtain ⟨p2, a2, h2⟩ := s1.endEmptyDelivery_spec
  generalize s1.endEmptyDelivery = s2 at h2 ⊢
  obtain ⟨p3, a3, h3⟩ := s2.askTow_spec
  generalize s2.askTow = s3 at h3 ⊢
  obtain ⟨c, h4⟩ := s3.advanceCycle_spec
  generalize s3.advanceCycle = s4 at h4 ⊢
  obtain ⟨a5, h5⟩ := s4.askLink_spec
  generalize s4.askLink = s5 at h5 ⊢
  obtain ⟨a6, h6⟩ := s5.askFuel_spec
  exact ⟨due, asked, a6, p3, c, by rw [h6]; subst h5 h4 h3 h2 h1; rfl⟩

@[simp] theorem settle_pending (s : State) : (settle s).pending = s.pending := by
  obtain ⟨_, _, _, _, _, h⟩ := settle_spec s; rw [h]
@[simp] theorem settle_clock (s : State) : (settle s).clock = s.clock := by
  obtain ⟨_, _, _, _, _, h⟩ := settle_spec s; rw [h]
@[simp] theorem settle_barges (s : State) : (settle s).barges = s.barges := by
  obtain ⟨_, _, _, _, _, h⟩ := settle_spec s; rw [h]
@[simp] theorem settle_strings (s : State) : (settle s).strings = s.strings := by
  obtain ⟨_, _, _, _, _, h⟩ := settle_spec s; rw [h]
@[simp] theorem settle_couplings (s : State) : (settle s).couplings = s.couplings := by
  obtain ⟨_, _, _, _, _, h⟩ := settle_spec s; rw [h]
@[simp] theorem settle_engines (s : State) : (settle s).engines = s.engines := by
  obtain ⟨_, _, _, _, _, h⟩ := settle_spec s; rw [h]
@[simp] theorem settle_rudders (s : State) : (settle s).rudders = s.rudders := by
  obtain ⟨_, _, _, _, _, h⟩ := settle_spec s; rw [h]
@[simp] theorem settle_tanks (s : State) : (settle s).tanks = s.tanks := by
  obtain ⟨_, _, _, _, _, h⟩ := settle_spec s; rw [h]
@[simp] theorem settle_transfers (s : State) : (settle s).transfers = s.transfers := by
  obtain ⟨_, _, _, _, _, h⟩ := settle_spec s; rw [h]
@[simp] theorem settle_policy (s : State) : (settle s).policy = s.policy := by
  obtain ⟨_, _, _, _, _, h⟩ := settle_spec s; rw [h]
@[simp] theorem settle_status (s : State) : (settle s).status = s.status := by
  obtain ⟨_, _, _, _, _, h⟩ := settle_spec s; rw [h]
@[simp] theorem settle_lockage (s : State) : (settle s).lockage = s.lockage := by
  obtain ⟨_, _, _, _, _, h⟩ := settle_spec s; rw [h]
@[simp] theorem settle_notices (s : State) : (settle s).notices = s.notices := by
  obtain ⟨_, _, _, _, _, h⟩ := settle_spec s; rw [h]
@[simp] theorem settle_patrol (s : State) : (settle s).patrol = s.patrol := by
  obtain ⟨_, _, _, _, _, h⟩ := settle_spec s; rw [h]
@[simp] theorem settle_openedPeriod (s : State) : (settle s).openedPeriod = s.openedPeriod := by
  obtain ⟨_, _, _, _, _, h⟩ := settle_spec s; rw [h]
@[simp] theorem settle_readings (s : State) : (settle s).readings = s.readings := by
  obtain ⟨_, _, _, _, _, h⟩ := settle_spec s; rw [h]
@[simp] theorem settle_console_requests (s : State) : (settle s).console.requests = s.console.requests := by
  obtain ⟨_, _, _, _, _, h⟩ := settle_spec s; rw [h]
@[simp] theorem settle_console_responses (s : State) : (settle s).console.responses = s.console.responses := by
  obtain ⟨_, _, _, _, _, h⟩ := settle_spec s; rw [h]
@[simp] theorem settle_console_overrun (s : State) : (settle s).console.overrun = s.console.overrun := by
  obtain ⟨_, _, _, _, _, h⟩ := settle_spec s; rw [h]
@[simp] theorem settle_console_silence (s : State) : (settle s).console.silence = s.console.silence := by
  obtain ⟨_, _, _, _, _, h⟩ := settle_spec s; rw [h]
@[simp] theorem settle_console_spiOut (s : State) : (settle s).console.spiOut = s.console.spiOut := by
  obtain ⟨_, _, _, _, _, h⟩ := settle_spec s; rw [h]
@[simp] theorem settle_tow_nodes (s : State) : (settle s).tow.nodes = s.tow.nodes := by
  obtain ⟨_, _, _, _, _, h⟩ := settle_spec s; rw [h]
@[simp] theorem settle_tow_pointer (s : State) : (settle s).tow.pointer = s.tow.pointer := by
  obtain ⟨_, _, _, _, _, h⟩ := settle_spec s; rw [h]
@[simp] theorem settle_tow_round (s : State) : (settle s).tow.round = s.tow.round := by
  obtain ⟨_, _, _, _, _, h⟩ := settle_spec s; rw [h]
@[simp] theorem settle_tow_sweep (s : State) : (settle s).tow.sweep = s.tow.sweep := by
  obtain ⟨_, _, _, _, _, h⟩ := settle_spec s; rw [h]
@[simp] theorem settle_tow_visitLast (s : State) : (settle s).tow.visitLast = s.tow.visitLast := by
  obtain ⟨_, _, _, _, _, h⟩ := settle_spec s; rw [h]
@[simp] theorem settle_tow_lineRate (s : State) : (settle s).tow.lineRate = s.tow.lineRate := by
  obtain ⟨_, _, _, _, _, h⟩ := settle_spec s; rw [h]
@[simp] theorem settle_tow_rateChange (s : State) : (settle s).tow.rateChange = s.tow.rateChange := by
  obtain ⟨_, _, _, _, _, h⟩ := settle_spec s; rw [h]
@[simp] theorem settle_tow_discard (s : State) : (settle s).tow.discard = s.tow.discard := by
  obtain ⟨_, _, _, _, _, h⟩ := settle_spec s; rw [h]
@[simp] theorem settle_tow_faults (s : State) : (settle s).tow.faults = s.tow.faults := by
  obtain ⟨_, _, _, _, _, h⟩ := settle_spec s; rw [h]
@[simp] theorem settle_tow_stamps (s : State) : (settle s).tow.stamps = s.tow.stamps := by
  obtain ⟨_, _, _, _, _, h⟩ := settle_spec s; rw [h]
@[simp] theorem settle_tow_sent (s : State) : (settle s).tow.sent = s.tow.sent := by
  obtain ⟨_, _, _, _, _, h⟩ := settle_spec s; rw [h]
@[simp] theorem settle_link_contexts (s : State) : (settle s).link.contexts = s.link.contexts := by
  obtain ⟨_, _, _, _, _, h⟩ := settle_spec s; rw [h]
@[simp] theorem settle_link_timer (s : State) : (settle s).link.timer = s.link.timer := by
  obtain ⟨_, _, _, _, _, h⟩ := settle_spec s; rw [h]
@[simp] theorem settle_link_latest (s : State) : (settle s).link.latest = s.link.latest := by
  obtain ⟨_, _, _, _, _, h⟩ := settle_spec s; rw [h]
@[simp] theorem settle_link_fresh (s : State) : (settle s).link.fresh = s.link.fresh := by
  obtain ⟨_, _, _, _, _, h⟩ := settle_spec s; rw [h]
@[simp] theorem settle_link_exchange (s : State) : (settle s).link.exchange = s.link.exchange := by
  obtain ⟨_, _, _, _, _, h⟩ := settle_spec s; rw [h]
@[simp] theorem settle_link_results (s : State) : (settle s).link.results = s.link.results := by
  obtain ⟨_, _, _, _, _, h⟩ := settle_spec s; rw [h]
@[simp] theorem settle_link_sent (s : State) : (settle s).link.sent = s.link.sent := by
  obtain ⟨_, _, _, _, _, h⟩ := settle_spec s; rw [h]

/-! ## The end of a transaction -/

/-- R61: placing commands changes the tow line alone. -/
theorem State.placeCommands_spec (cs : List (Member × Nat × WinchCommand)) :
    ∀ s : State, ∃ t : TowLine, s.placeCommands cs = { s with tow := t } := by
  induction cs with
  | nil => exact fun s => ⟨s.tow, rfl⟩
  | cons c cs ih =>
    intro s
    obtain ⟨t, ht⟩ : ∃ t : TowLine, s.placeCommand c.1 c.2.1 c.2.2 = { s with tow := t } := by
      unfold State.placeCommand
      split
      · exact ⟨s.tow, rfl⟩
      · split <;> exact ⟨_, rfl⟩
    obtain ⟨u, hu⟩ := ih { s with tow := t }
    exact ⟨u, by simp only [State.placeCommands, List.foldl_cons, ht] at hu ⊢; exact hu⟩

/-- R11, R144: a read of engine 5's state changes engines, tow status and notices at most. -/
theorem Txn.readBow_spec (x : Txn) :
    ∃ (e : List Engine) (u : TowStatus) (n : NoticeUnit),
    x.readBow = { x with st := { x.st with engines := e, status := u, notices := n } } := by
  have record : ∃ (e : List Engine) (u : TowStatus) (n : NoticeUnit),
      (x.readRecord .engines 5 [15]).1 =
        { x with st := { x.st with engines := e, status := u, notices := n } } := by
    unfold Txn.readRecord
    split
    · exact ⟨_, _, _, rfl⟩
    · rename_i h hh
      split
      · exact ⟨_, _, _, rfl⟩
      · obtain ⟨c, hs⟩ := Txn.scan_spec h [15] x
        split <;> rename_i y hy <;> rw [hy] at hs <;> dsimp only at hs <;> subst hs <;> exact ⟨_, _, _, rfl⟩
  unfold Txn.readBow Txn.read
  split <;> rename_i y hy <;> rw [hy] at record
  · exact record
  · simpa using record

/-- R144: a read of engine 5's state keeps the state held, also where it finds the record damaged. -/
theorem Txn.readBow_state (x : Txn) :
    (x.readBow.st.engine? 5).map (·.state) = (x.st.engine? 5).map (·.state) := by
  have record : ((x.readRecord .engines 5 [15]).1.st.engine? 5).map (·.state) = (x.st.engine? 5).map (·.state) := by
    unfold Txn.readRecord
    split
    · rfl
    · rename_i h hh
      split
      · rfl
      · obtain ⟨c, hs⟩ := Txn.scan_spec h [15] x
        split <;> rename_i y hy <;> rw [hy] at hs <;> dsimp only at hs <;> subst hs
        · rfl
        · let marked (e : Engine) : Engine := { e with header := { e.header with damaged := true } }
          let written (e : Engine) : Engine := Engine.renew { e with allowed := 0, sent := 0 } [11, 12]
          have keeps (g : Engine → Engine) (l : List Engine) (hn : ∀ e, (g e).number = e.number)
              (hs : ∀ e, (g e).state = e.state) := find?_update_keeps Engine.number Engine.state g l 5 5 hn hs
          exact (keeps written _ (fun _ => rfl) fun _ => rfl).trans (keeps marked _ (fun _ => rfl) fun _ => rfl)
  unfold Txn.readBow Txn.read
  split <;> rename_i y hy <;> rw [hy] at record
  · exact record
  · simpa using record

/-- R47: the test whether engine 5 is RUNNING at a barge goes by the state held before it, whether the record is
undamaged, damaged or found damaged by it. -/
theorem Txn.bowRunning_spec (x : Txn) (hull : Nat) :
    x.bowRunning hull = if x.st.bowBarge? = some hull then (x.readBow, (x.st.engine? 5).any (·.state == .running))
      else (x, false) := by
  have any_state (o : Option Engine) : o.any (·.state == .running) = (o.map (·.state)).any (· == .running) := by
    cases o <;> rfl
  unfold Txn.bowRunning
  split
  · dsimp only
    rw [any_state, x.readBow_state, ← any_state]
  · rfl

/-- R56, R144: a change of binding empties slots and may end REJECTED of engine 5, whose state it then reads. -/
theorem Txn.settleBindings_spec (x : Txn) (before : State) :
    ∃ (e : List Engine) (t : TowLine) (u : TowStatus) (n : NoticeUnit),
      x.settleBindings before =
        { x with st := { x.st with engines := e, tow := t, status := u, notices := n } } := by
  unfold Txn.settleBindings
  split
  · exact ⟨_, _, _, _, rfl⟩
  · unfold Txn.releaseBow
    split
    · exact ⟨_, _, _, _, rfl⟩
    · dsimp only
      generalize hy : x.on _ = y
      obtain ⟨e, u, n, h⟩ := y.readBow_spec
      rw [h]; subst hy
      exact ⟨_, _, _, _, rfl⟩

/-- With every binding as it was, nothing follows. -/
theorem Txn.settleBindings_same (x : Txn) (before : State)
    (h : ∀ n ∈ x.st.tow.nodes, before.bound n.address = x.st.bound n.address) : x.settleBindings before = x := by
  have : rebound before x.st = [] := by
    simp only [rebound, List.map_eq_nil_iff, List.filter_eq_nil_iff]
    intro n hn; simp [h n hn]
  simp [Txn.settleBindings, this]

/-- Bindings follow from the barges and the policy. -/
theorem State.bound_congr (s t : State) (hb : s.barges = t.barges) (hp : s.policy = t.policy) : s.bound = t.bound := by
  funext a; simp only [State.bound, hb, hp]

/-- The end of a transaction that touched no coupling, produced no command and moved no binding leaves its state. -/
theorem Txn.commit_quiet (x : Txn) (before : State) (ht : x.touched = false) (hc : x.commands = [])
    (hb : before.barges = x.st.barges) (hp : before.policy = x.st.policy) : x.commit before = x.st := by
  have := x.settleBindings_same before fun n _ => by rw [State.bound_congr _ _ hb hp]
  simp [Txn.commit, ht, hc, this, State.placeCommands]

/-- The end of a transaction that touched no coupling changes engines, the tow line, and by the read of engine 5's state
the tow status and the notices, at most. -/
theorem Txn.commit_untouched (x : Txn) (before : State) (ht : x.touched = false) :
    ∃ (e : List Engine) (t : TowLine) (u : TowStatus) (n : NoticeUnit),
      x.commit before = { x.st with engines := e, tow := t, status := u, notices := n } := by
  obtain ⟨e, t, u, n, h⟩ := x.settleBindings_spec before
  obtain ⟨v, hv⟩ := State.placeCommands_spec x.commands { x.st with engines := e, tow := t, status := u, notices := n }
  exact ⟨e, v, u, n, by simp only [Txn.commit, ht, Bool.false_eq_true, if_false, h, hv]⟩

/-! ## Granted transactions -/

/-- Without the grant the command changes nothing. -/
theorem State.transact_idle (s : State) (r : Requester) (body : Txn → Txn) (h : s.granted r = false) :
    s.transact r body = s := by simp [State.transact, h]

theorem State.transact_granted (s : State) (r : Requester) (body : Txn → Txn) (h : s.granted r = true) :
    s.transact r body = settle ((body (Txn.start (s.take r))).commit (s.take r)) := by simp [State.transact, h]

/-- A granted transaction that ends quietly: what its body leaves, and what the blocks then ask for. -/
theorem State.transact_quiet (s : State) (r : Requester) (body : Txn → Txn) (h : s.granted r = true) (y : Txn)
    (hy : body (Txn.start (s.take r)) = y) (ht : y.touched = false) (hc : y.commands = [])
    (hb : y.st.barges = s.barges) (hp : y.st.policy = s.policy) : s.transact r body = settle y.st := by
  rw [State.transact_granted s r body h, hy, Txn.commit_quiet y (s.take r) ht hc (by simp [hb]) (by simp [hp])]

/-- A request command whose request is not the one granted changes nothing. -/
theorem State.runRequest_idle (s : State) (isCode : Byte → Bool) (body : Request → Txn → Answer)
    (h : (s.granted .console && !s.console.askedSilence) = false ∨ s.console.requests = [] ∨
      ∃ q qs, s.console.requests = q :: qs ∧ isCode q.code = false) : s.runRequest isCode body = s := by
  unfold State.runRequest
  split
  · rename_i hg
    obtain h | h | ⟨q, qs, hq, hn⟩ := h
    · simp [hg] at h
    · simp [h]
    · simp [hq, hn]
  · rfl

/-- The request at the head is granted and of the code: what its body leaves at its end, with the request gone and its
response in its queue. -/
theorem State.runRequest_granted (s : State) (isCode : Byte → Bool) (body : Request → Txn → Answer) (q : Request)
    (qs : List Request) (hg : s.granted .console = true) (ha : s.console.askedSilence = false)
    (hq : s.console.requests = q :: qs) (hc : isCode q.code = true) (y : Txn) (r : Result) (items : List ResponseItem)
    (hy : body q (Txn.start (s.take .console)) = (y, r, items)) :
    s.runRequest isCode body =
      settle { y.commit (s.take .console) with console := { (y.commit (s.take .console)).console with
        requests := qs
        responses := (y.commit (s.take .console)).console.responses ++
          [{ tag := q.tag, code := q.code, result := r, items := items }] } } := by
  simp [State.runRequest, hg, ha, hq, hc, hy]

/-- A request that ends quietly. -/
theorem State.runRequest_quiet (s : State) (isCode : Byte → Bool) (body : Request → Txn → Answer) (q : Request)
    (qs : List Request) (hg : s.granted .console = true) (ha : s.console.askedSilence = false)
    (hq : s.console.requests = q :: qs) (hc : isCode q.code = true) (y : Txn) (r : Result) (items : List ResponseItem)
    (hy : body q (Txn.start (s.take .console)) = (y, r, items)) (ht : y.touched = false) (hn : y.commands = [])
    (hb : y.st.barges = s.barges) (hp : y.st.policy = s.policy) :
    s.runRequest isCode body =
      settle { y.st with console := { y.st.console with
        requests := qs
        responses := y.st.console.responses ++
          [{ tag := q.tag, code := q.code, result := r, items := items }] } } := by
  rw [State.runRequest_granted s isCode body q qs hg ha hq hc y r items hy,
    Txn.commit_quiet y (s.take .console) ht hn (by simp [hb]) (by simp [hp])]

end Sys2Proof.Machine
end

