-- ==== Sys2Proof/Laws/Operations.lean ====
section
/-! SUPPORT. What the shared operations on tanks, transfers, couplings, contexts, engines and channels can change, and
the balance of a tank. -/
namespace Sys2Proof.Machine

/-! ## The whole effect of a write, as one change of a transaction -/

theorem Txn.raiseIf_spec (x : Txn) (b : Bool) (c : Cause) :
    x.raiseIf b c = { x with st := { x.st with notices := if b then x.st.notices.raise c else x.st.notices } } := by
  cases b <;> rfl

/-! ## Tanks (R152, R153) -/

/-- R152: a debit leaves content and terms in balance. -/
theorem Tank.debited_balanced (t : Tank) (amount : Nat) (draw : Bool) (h : t.balanced = true) :
    (t.debited amount draw).balanced = true := by
  simp only [Tank.balanced, beq_iff_eq] at h ⊢
  simp only [Tank.debited]
  have : min amount t.content ≤ t.content ∧ min amount t.content ≤ amount := ⟨Nat.min_le_right _ _, Nat.min_le_left _ _⟩
  cases draw <;> simp <;> omega

/-- R152: what the tank does not hold is shortfall, and the content never passes below 0. -/
theorem Tank.debited_spec (t : Tank) (amount : Nat) (draw : Bool) :
    (t.debited amount draw).content = t.content - amount ∧
      (t.debited amount draw).shortfall = t.shortfall + (amount - t.content) := by
  constructor <;> simp only [Tank.debited] <;> omega

/-- R153: the low flag of an enrolled tank takes its new value, and FUEL is raised when it passes from clear to set. -/
theorem Txn.evaluateLow_spec (x : Txn) (k : Nat) (t : Tank) (h : x.st.tank? k = some t) :
    x.evaluateLow k = { x with st := { x.st with
      tanks := update (·.number == k) (fun r => Tank.renew { r with low := r.isLow } [14]) x.st.tanks
      notices := if t.isLow && !t.low then x.st.notices.raise .fuel else x.st.notices } } := by
  unfold Txn.evaluateLow
  rw [h]
  exact Txn.raiseIf_spec _ _ _

/-- An evaluation of the low flag, and so a debit, a credit, a receipt and a sounding, changes tanks and notices
alone. -/
theorem Txn.evaluateLow_changes (x : Txn) (k : Nat) : ∃ (tanks : List Tank) (n : NoticeUnit),
    x.evaluateLow k = { x with st := { x.st with tanks := tanks, notices := n } } := by
  unfold Txn.evaluateLow
  split
  · exact ⟨x.st.tanks, x.st.notices, rfl⟩
  · rw [Txn.raiseIf_spec]; exact ⟨_, _, rfl⟩

theorem Txn.debit_changes (x : Txn) (k amount : Nat) (draw : Bool) : ∃ (tanks : List Tank) (n : NoticeUnit),
    x.debit k amount draw = { x with st := { x.st with tanks := tanks, notices := n } } := by
  unfold Txn.debit
  split
  · exact ⟨x.st.tanks, x.st.notices, rfl⟩
  · split
    · exact ⟨x.st.tanks, x.st.notices, rfl⟩
    · dsimp only
      rw [Txn.raiseIf_spec]
      obtain ⟨t, n, h⟩ := Txn.evaluateLow_changes (x.modTank k
        (if draw = true then wide 6 ++ wide 11 ++ wide 13 else wide 6 ++ wide 10 ++ wide 13) fun t => t.debited amount draw) k
      rw [h]
      exact ⟨_, _, rfl⟩

theorem Txn.credit_changes (x : Txn) (k amount : Nat) : ∃ (tanks : List Tank) (n : NoticeUnit),
    x.credit k amount = { x with st := { x.st with tanks := tanks, notices := n } } := by
  unfold Txn.credit
  split
  · exact ⟨x.st.tanks, x.st.notices, rfl⟩
  · obtain ⟨t, n, h⟩ := Txn.evaluateLow_changes (x.modTank k (wide 6 ++ wide 9) fun t =>
      { t with content := t.content + amount, transferredIn := t.transferredIn + amount }) k
    rw [h]
    exact ⟨_, _, rfl⟩

theorem Txn.receipt_changes (x : Txn) (k amount : Nat) : ∃ (tanks : List Tank) (n : NoticeUnit),
    x.receipt k amount = { x with st := { x.st with tanks := tanks, notices := n } } := by
  unfold Txn.receipt
  split
  · exact ⟨x.st.tanks, x.st.notices, rfl⟩
  · obtain ⟨t, n, h⟩ := Txn.evaluateLow_changes (x.modTank k (wide 6 ++ wide 8) fun t =>
      { t with content := t.content + amount, received := t.received + amount }) k
    rw [h]
    exact ⟨_, _, rfl⟩

theorem Txn.sounding_changes (x : Txn) (k content : Nat) : ∃ (tanks : List Tank) (n : NoticeUnit),
    x.sounding k content = { x with st := { x.st with tanks := tanks, notices := n } } := by
  unfold Txn.sounding
  obtain ⟨t, n, h⟩ := Txn.evaluateLow_changes (x.modTank k (wide 6 ++ wide 12) fun t =>
    { t with content := content, adjustments := t.adjustments + ((content : Int) - t.content) }) k
  rw [h]
  exact ⟨_, _, rfl⟩

/-! ## Transfers (R167) -/

/-- R167: the pump is commanded to run in RUNNING and in no other state. -/
theorem Transfer.enter_pumpRun (t : Transfer) (new : TransferState) : (t.enter new).pumpRun = (new == .running) := rfl

theorem Transfer.enter_state (t : Transfer) (new : TransferState) : (t.enter new).state = new := rfl

/-- R167: a change of state writes the transfer and raises TRANSFER. -/
theorem Txn.enterTransfer_changes (x : Txn) (k : Nat) (new : TransferState) : ∃ (l : List Transfer) (n : NoticeUnit),
    x.enterTransfer k new = { x with st := { x.st with transfers := l, notices := n } } := by
  unfold Txn.enterTransfer
  repeat' split
  all_goals exact ⟨_, _, rfl⟩

/-! ## Couplings (R79 to R82) -/

theorem Txn.placeFor_spec (x : Txn) (c : Coupling) (w : WinchCommand) : x.placeFor c w =
    { x with commands := x.commands ++ (match c.tending with
      | .hand => []
      | .winch m k => [(m, k, w)]) } := by
  cases h : c.tending <;> simp [Txn.placeFor, h, Txn.place]

theorem Txn.takeTension_changes (x : Txn) (k : Nat) (c : Coupling) (t : Nat) :
    ∃ (l : List Coupling) (n : NoticeUnit) (cs : List (Member × Nat × WinchCommand)),
      x.takeTension k c t = { x with st := { x.st with couplings := l, notices := n }, commands := cs } := by
  unfold Txn.takeTension
  dsimp only
  rw [Txn.raiseIf_spec]
  split
  · exact ⟨_, _, _, rfl⟩
  · rw [Txn.placeFor_spec]; exact ⟨_, _, _, rfl⟩

/-- R79: one step of the state machine changes couplings, notices and the commands produced. -/
theorem Txn.moveCoupling_changes (x : Txn) (k : Nat) (c : Coupling) (t : Nat) (seated : Bool) :
    ∃ (l : List Coupling) (n : NoticeUnit) (cs : List (Member × Nat × WinchCommand)),
      x.moveCoupling k c t seated = { x with st := { x.st with couplings := l, notices := n }, commands := cs } := by
  have tension : ∀ (y : Txn) (d : Coupling) (l : List Coupling), y = { x with st := { x.st with couplings := l } } →
      ∃ (l : List Coupling) (n : NoticeUnit) (cs : List (Member × Nat × WinchCommand)),
        y.takeTension k d t = { x with st := { x.st with couplings := l, notices := n }, commands := cs } := by
    rintro y d l rfl
    obtain ⟨l', n, cs, h⟩ := Txn.takeTension_changes { x with st := { x.st with couplings := l } } k d t
    exact ⟨l', n, cs, h⟩
  unfold Txn.moveCoupling
  simp only [Txn.placeFor_spec]
  repeat' split
  all_goals first
    | exact ⟨_, _, _, rfl⟩
    | exact tension _ _ _ rfl

/-! ## Contexts (R97) -/

/-- R109: the mirrored state is a field of an engine or a rudder channel. -/
theorem Txn.mirror_changes (x : Txn) (kind : StationKind) (k : Nat) (c : ContextState) :
    ∃ (e : List Engine) (r : List Rudder),
      x.mirror kind k c = { x with st := { x.st with engines := e, rudders := r } } := by
  cases kind <;> exact ⟨_, _, rfl⟩

/-- A change of a context keeps its address when the change does. -/
theorem Txn.modContext_addresses (x : Txn) (a : Nat) (f : Context → Context) (h : ∀ c, (f c).address = c.address) :
    (x.modContext a f).st.link.contexts.map (·.address) = x.st.link.contexts.map (·.address) :=
  map_update _ f _ _ h

/-! ## The cycle computation over a store without errors -/

theorem Txn.readCouplings_errorFree (x : Txn) (he : x.st.errorFree = true) : x.readCouplings = x :=
  Txn.readAll_errorFree x he _ _ _

theorem Txn.readRunning_errorFree (x : Txn) (he : x.st.errorFree = true) (words : List Nat) : x.readRunning words = x := by
  simp [Txn.readRunning, Txn.readAll_errorFree x he]

theorem Txn.readEngines_errorFree (x : Txn) (he : x.st.errorFree = true) : x.readEngines = x := by
  simp [Txn.readEngines, Txn.readRunning, Txn.readAll_errorFree x he]

theorem Txn.readChannels_errorFree (x : Txn) (he : x.st.errorFree = true) : x.readChannels = x := by
  simp [Txn.readChannels, Txn.readAll_errorFree x he]

theorem Txn.readBow_errorFree (x : Txn) (he : x.st.errorFree = true) : x.readBow = x := by
  simp [Txn.readBow, Txn.read_errorFree x he]

/-- R126: stage 4 slews an undamaged engine and leaves a damaged one. -/
theorem Txn.slewEngine_errorFree (x : Txn) (he : x.st.errorFree = true) (k step period : Nat) (e : Engine)
    (hk : x.st.engine? k = some e) : x.slewEngine k step period =
      if e.header.damaged then x
      else
        let dwell := x.st.policy.reversalDwell
        let words := if e.state == .running then e.slewWords (e.slew step period dwell).sent else [12]
        x.modEngine k words fun e => e.slew step period dwell := by
  have hs : x.st.sound .engines k = !e.header.damaged := by simp [State.sound, State.header?, hk]
  cases hd : e.header.damaged <;> rw [hd] at hs <;>
    simp only [Txn.slewEngine, Txn.read_errorFree x he, hs, hk, Bool.not_true, Bool.not_false, if_true,
      Bool.false_eq_true, if_false]

/-- R137, R138: stage 5 steers an undamaged channel, with the flank demand as it then stands, and leaves a damaged
one. -/
theorem Txn.steerChannel_errorFree (x : Txn) (he : x.st.errorFree = true) (l : Limits) (k period : Nat) :
    x.steerChannel l k period =
      if x.st.sound .rudders k then x.modRudder k [10, 11] fun r => r.steer l.flank x.st.flankDemand period else x := by
  cases hs : x.st.sound .rudders k <;> simp [Txn.steerChannel, Txn.read_errorFree x he, hs]

end Sys2Proof.Machine
end

