-- ==== Sys2Proof/Tests/Slice0.lean ====
section
/-! SUPPORT. Tests: the smoke test of WellFormed, the manual's worked examples, and for every statement with hypotheses
a state that meets them. -/
namespace Sys2Proof.Tests
open Sys2Proof Sys2Proof.Machine

/-! ## WellFormed refuses -/

theorem test_wf_bit_of_no_word : (Instr.bitError .barges 1 1 0).wf = false := by decide
theorem test_wf_bit_beyond_word : (Instr.bitError .barges 1 4 39).wf = false := by decide
theorem test_wf_status_byte_past_eight : (Instr.statusByte 9).wf = false := by decide
theorem test_wf_request_is_no_fetch : (Instr.request [0xC3]).wf = false := by decide
theorem test_wf_reply_payload (bs : List Byte) (h : bs.length = 256) : (LineReply.mk 0 127 1 bs 0).wf = false := by
  simp [LineReply.wf, h]
theorem test_wf_good_terms :
    (Instr.bitError .barges 1 4 38).wf = true ∧ (Instr.statusByte 8).wf = true ∧
      (Instr.request [0xA5, 3, 1, 0x13, 0]).wf = true := by decide

/-! ## A small part to test on -/

def clean : Header := { damaged := false, bad := [] }

/-- The header of a record that a read of a word has found damaged: the bits that made it so stand in it (R12). -/
def scarred (word : Nat) : Header := { damaged := true, bad := [(word, 0), (word, 38)] }

def barge1 : Barge :=
  { hull := 101, string := 1, node := some 20, laden := 1500, draft := 300, bowFitted := true, header := clean }
def barge2 : Barge := { barge1 with hull := 102, node := none, laden := 1400 }
def barge3 : Barge := { barge1 with hull := 103, string := 2, node := none, laden := 1300 }

/-- Served by winch 1 of the node of hull 101. -/
def wire : Coupling :=
  { number := 1, kind := .face, endA := .boat, endB := 101, tending := .winch (.barge 101) 1, rated := 400,
    tendOrder := .none, declaredMade := false, state := .unlashed, tension := none, seated := none, winchFault := false,
    crossing := false, header := clean, debounce := none, slackTimer := none, dropSeen := false }
def ratchet : Coupling :=
  { wire with number := 2, kind := .long, endA := .barge 101, endB := 102, tending := .hand, declaredMade := true,
              state := .made }

def engine1 : Engine :=
  { number := 1, station := some 1, bowBarge := none, meter := some 6, supply := some 3, rated := 300,
    meterFactor := some 500, staged := 100, next := 50, live := 0, allowed := 0, sent := 0, delivered := none,
    alarm := false, state := .running, lastDirection := .none, zeroTime := 0, consumed := 0, undebited := 0,
    header := clean }
def engine5 : Engine :=
  { engine1 with number := 5, station := none, bowBarge := some 103, meter := none, supply := none, meterFactor := none,
                 rated := 100, state := .offline }
def rudder1 : Rudder :=
  { channel := 1, kind := .steering, shaft := 1, station := 2, limit := 350, rate := 50, staged := 20, next := 10,
    live := 0, allowed := 0, sent := 0, feedback := none, state := .running, header := clean }
def tank1 : Tank := newTank 1 .storage none 1000 10 500000
def tank3 : Tank := newTank 3 .day none 1000 10 100000
def transfer1 : Transfer := newTransfer 1 9 1 3 5000 100 .opened none 0
def node20 : Node := newNode 20 false 1
def context (address : Nat) (kind : StationKind) (key : Nat) (p : Parameters) : Context :=
  { address := address, kind := kind, key := key, state := .exchange, misses := 0, baseline := none, residual := 0,
    lastTemperature := none, retry := some 0, parameters := p }
def meter6 : Context := context 6 .meter 1 (.factor 500)

/-- Three barges, two couplings, an engine, the bow unit, a channel, two tanks, a transfer and a node. -/
def fleet : State :=
  { State.reset with
    barges := [barge1, barge2, barge3], strings := [2, 3, 3, 3, 3, 3], couplings := [wire, ratchet]
    engines := [engine1, engine5], rudders := [rudder1], tanks := [tank1, tank3], transfers := [transfer1]
    tow := { TowLine.initial with nodes := [node20] }
    link := { MachineryLink.initial with contexts :=
      [context 1 .engine 1 (.engine 300), context 2 .rudder 1 (.rudder 350 50), meter6,
        context 9 .pump 1 (.factor 5000)] } }

theorem test_fleet_meets_the_laws :
    fleet.errorFree ∧ fleet.portLaw ∧ fleet.rosterLaw ∧ fleet.recordLaw ∧ fleet.lockageLaw ∧ fleet.orderLaw ∧
      fleet.tankLaw ∧ fleet.pumpLaw ∧ fleet.thrustLaw ∧ fleet.nodeLaw := by decide

/-- A record of each table is damaged, by bits of a word that an event may renew later. -/
def battered : State :=
  ([(.barges, 102, 4), (.couplings, 1, 11), (.engines, 5, 15), (.rudders, 1, 13), (.tanks, 1, 15),
    (.transfers, 1, 20)] : List (Tbl × Nat × Nat)).foldl
      (fun s p => s.modHeader p.1 p.2.1 fun _ => scarred p.2.2) fleet

/-- R11, R12: damaged records with the bits that made them so meet what the statements ask of a store. -/
theorem test_battered_is_error_free :
    battered.errorFree ∧ battered.portLaw ∧ battered.rosterLaw ∧ battered.recordLaw ∧ battered.lockageLaw ∧
      battered.orderLaw ∧ battered.tankLaw ∧ battered.pumpLaw ∧ battered.thrustLaw ∧ battered.nodeLaw ∧
      battered.barge? 102 = some { barge2 with header := scarred 4 } ∧
      battered.coupling? 1 = some { wire with header := scarred 11 } ∧
      battered.engine? 5 = some { engine5 with header := scarred 15 } ∧
      battered.rudder? 1 = some { rudder1 with header := scarred 13 } ∧
      battered.tank? 1 = some { tank1 with header := scarred 15 } ∧
      battered.transfer? 1 = some { transfer1 with header := scarred 20 } := by decide

/-- An item of a frame, in the fewest bytes. -/
def sent (field : Nat) (v : Int) : List Byte := byte field :: byte (shortestWidth v) :: intBytes (shortestWidth v) v

/-- A request with tag 7. -/
def ask (code table : Byte) (items : List (Nat × Int)) : Request :=
  { tag := 7, code := code, table := table, body := items.flatMap fun p => sent p.1 p.2 }

/-- The store is granted to the Console Port for a request. -/
def serving (s : State) (q : Request) : State :=
  { s with console := { s.console with requests := [q] }, arbiter := { s.arbiter with console := true } }

/-- The store is granted to another requester, which is in a phase of the tow line. -/
def towGrant (s : State) (p : TowPhase) : State := (s.towPhase p).ask .towLine

/-- A test holds of the next state of a command. -/
def after (i : Instr) (s : State) (test : State → Bool) : Bool :=
  match exec i s with
  | .next t => test t
  | .fault f => nomatch f
  | .refused _ => false

/-- A reply that is well framed for its line. -/
def replied (own called kind : Nat) (payload : List Byte) : LineReply :=
  { delay := 0, dest := byte own, source := byte called, payload := payload,
    check := crc16 (frameHead (byte own) (byte called) kind payload) }

/-- What `replied` builds is good within any timeout. -/
theorem replied_good (timeout own called kind : Nat) (payload : List Byte) :
    (replied own called kind payload).good timeout own called kind payload.length :=
  ⟨Nat.zero_le _, rfl, rfl, rfl, rfl⟩

/-! ## The manual's worked examples -/

/-- R190: the check code over the nine characters "123456789". -/
theorem test_crc_check_value :
    crc16 [0x31, 0x32, 0x33, 0x34, 0x35, 0x36, 0x37, 0x38, 0x39] = 0x29B1 := by decide +kernel

/-- R190: a broadcast LINE RATE of 153.6 kbit/s, computed by hand from the rule. -/
theorem test_line_rate_frame :
    ({ dest := 0, kind := 0x18, payload := [6, 0] } : LineFrame).bytes 127 =
      [0, 127, 0x18, 2, 6, 0, 0x2C, 0xCD] := by decide +kernel

/-- Section 1.6, a run of grants: coordination, console (which arrives meanwhile), tow line, Patrol. -/
theorem test_run_of_grants :
    let a : Arbiter := { Arbiter.initial with pointer := .machinery, towLine := true, coordination := true, patrol := true }
    let b := (a.grant .coordination).setWaits .console true
    let c := b.grant .console
    a.pick = some .coordination ∧ b.pick = some .console ∧ c.pick = some .towLine ∧
      (c.grant .towLine).pick = some .patrol ∧ ((c.grant .towLine).grant .patrol).pointer = .machinery := by decide

/-- Section 3.10: the slew steps of a tow of 5700 t and of 8200 t. -/
theorem test_slew_steps : slewStep 100000 5700 = 17 ∧ slewStep 100000 8200 = 12 := by decide

/-- Section 5.9: the strain threshold, the slack threshold and the make-up tension of a coupling rated 600 kN. -/
theorem test_thresholds :
    let c : Coupling := { wire with rated := 600 }
    strainThreshold .default c = 480 ∧ slackThreshold .default c = 30 ∧ makeUpTension .default c = 90 := by decide

/-- Section 8.6: rudders scaled to 600 of 989 kN, at 2 tenths a cycle. -/
theorem test_rudders_scaled :
    allowedAngle 350 600 989 = 212 ∧ allowedAngle 200 600 989 = 121 ∧ rudderStep 100 20 = 2 := by decide

/-- Section 8.7: a bow reversal rests at 0 and then grows by the step. -/
theorem test_reversal :
    slewOrder 750 (-400) 3 true = 0 ∧ slewOrder 0 (-400) 3 true = -3 ∧ slewOrder 0 (-400) 3 false = 0 := by decide

/-- Section 9.3: the first two conversions of the manual's table. -/
theorem test_conversions :
    let s := convertedVolume 3 500 83 452 999000000
    s = 2461401000 ∧ postedAmount s = 2 ∧ newResidual s = 461401000 ∧
      convertedVolume 3 500 83 452 461401000 = 1923802000 := by decide

/-- Section 9: a debit of more than the tank holds. -/
theorem test_shortfall : ({ tank3 with content := 100 }.debited 250 true).shortfall = 150 := by decide

/-- The table gives no bits, so no word spells a command. -/
theorem test_no_word_decodes : decodeTableWord 8 0xA5 = none := by decide

/-- With nothing to do the clock ticks. -/
theorem test_tick : step State.reset = .next { State.reset with clock := 1 } := rfl

/-! ## States that meet the hypotheses of the statements -/

theorem witness_ArbiterServesInTurn :
    let a : Arbiter := { Arbiter.initial with towLine := true, fuel := true, pointer := .fuel }
    let p : Arbiter := { Arbiter.initial with patrol := true }
    a.pick = some .fuel ∧ Requester.fuel ≠ .towLine ∧ a.waits .towLine = true ∧
      p.pick = some .patrol ∧ p.waits .patrol = true := by decide

theorem witness_BitErrorStrikesOneBit :
    (Instr.bitError .barges 103 7 38).wf = true ∧ (Instr.bitError .tanks 3 38 0).wf = true := by decide

/-- The barge 103 has bad bits in a word. -/
def struck (bits : List Nat) : State :=
  fleet.modHeader .barges 103 fun h => { h with bad := bits.map fun b => (7, b) }

/-- A record with two bad bits in a word, while the transfer 1 runs. -/
def hurt (t : Tbl) (key word : Nat) : State :=
  { fleet with transfers := [{ transfer1 with state := .running, pumpRun := true }] }.modHeader t key fun h =>
    { h with bad := [(word, 0), (word, 38)] }

theorem witness_ReadsFindDamage :
    (∀ p ∈ ([(.barges, 101, 4), (.couplings, 1, 15), (.engines, 5, 17), (.rudders, 1, 13), (.tanks, 3, 15),
        (.transfers, 1, 3)] : List (Tbl × Nat × Nat)),
      (hurt p.1 p.2.1 p.2.2).header? p.1 p.2.1 = some { clean with bad := [(p.2.2, 0), (p.2.2, 38)] }) ∧
      (hurt .couplings 1 15).coupling? 1 = some { wire with header := { clean with bad := [(15, 0), (15, 38)] } } ∧
      (hurt .tanks 3 15).recordLaw = true ∧ (∀ tr ∈ (hurt .tanks 3 15).transfers, tr.header.errorFree = true) ∧
      (hurt .tanks 3 15).transfers.map (fun tr => (tr.destination, tr.state)) = [(3, .running)] := by decide

/-- R92, R176: a damaged coupling's winch is to HOLD, and a damaged tank stops the transfer that fills it. -/
theorem test_damage_follows :
    ((Txn.start (hurt .couplings 1 15)).read .couplings 1 [15]).1.commands = [(.barge 101, 1, .hold)] ∧
      ((Txn.start (hurt .tanks 3 15)).read .tanks 3 [15]).1.st.transfers.map (fun tr => (tr.state, tr.pumpRun)) =
        [(.stopping .tankDamaged, false)] := by decide +kernel

theorem witness_ReadsCheckWords :
    (struck []).header? .barges 103 = some clean ∧
      (struck [38]).header? .barges 103 = some { clean with bad := [(7, 38)] } ∧
      (struck [0, 38]).header? .barges 103 = some { clean with bad := [(7, 0), (7, 38)] } := by decide

/-- A Console Port that holds `n` requests and `m` responses. -/
def queued (n m : Nat) : State :=
  { fleet with console := { fleet.console with
    requests := List.replicate n (ask 0x13 0 [])
    responses := List.replicate m { tag := 7, code := 0x13, result := .done, items := [] } } }

theorem witness_RequestJoinsTheQueue :
    (3 : Byte).toNat = ([] : List Byte).length + 3 ∧ (queued 3 0).console.requests.length < 4 ∧
      4 ≤ (queued 4 0).console.requests.length ∧ (2 : Byte).toNat < 3 ∧ [(1 : Byte), 2].length < (3 : Byte).toNat := by
  decide

theorem witness_FetchShiftsOutTheHeadResponse :
    (queued 0 1).console.responses = [{ tag := 7, code := 0x13, result := .done, items := [] }] ∧
      (queued 0 0).console.responses = [] := by decide

/-- R23, R189: the bytes of responses, written out from the rules: a refusal with its field, and items at the ends of
what 1, 2 and 4 bytes hold, and of a fixed length. -/
theorem test_response_bytes :
    ({ tag := 7, code := 4, result := .badField 9, items := [] } : Response).frame = [0x5A, 4, 7, 4, 0x15, 9] ∧
      ({ tag := 0, code := 1, result := .doneClamped, items :=
        [item 1 (-128), item 2 128, item 3 (-32769), item 4 2147483648, { field := 6, value := 1, width := some 4 }] } :
          Response).frame =
        [0x5A, 32, 0, 1, 0x01, 1, 1, 0x80, 2, 2, 0, 0x80, 3, 4, 0xFF, 0xFF, 0x7F, 0xFF,
          4, 8, 0, 0, 0, 0, 0x80, 0, 0, 0, 6, 4, 0, 0, 0, 1] ∧
      (∀ r ∈ ([{ tag := 7, code := 4, result := .badField 9, items := [] },
          { tag := 0, code := 1, result := .done, items := [item 1 (-128), item 2 128, item 3 (-32769)] }] :
          List Response), r.bytes = r.frame) := by decide +kernel

/-- The sweep request at the head, with `m` responses waiting. -/
def sweeping (m : Nat) : State := serving (queued 0 m) (ask 0x13 0 [])

theorem witness_RequestsLeaveAndResponsesJoin :
    requestCodeOf .sweep = some 0x13 ∧ (sweeping 3).serves (ask 0x13 0 []) [] ∧ (ask 0x13 0 []).code = 0x13 := by decide

/-- A request of LOOK with these bytes after its table code. -/
def bare (body : List Byte) : Request := { tag := 7, code := 0x01, table := 3, body := body }

/-- An item of length 3, one whose value runs past the end, a field number alone, and a field given twice. -/
def illFormed : List Request := [bare [1, 3, 0, 0, 1], bare [1, 2, 0], bare [1], bare [1, 1, 0, 1, 1, 0]]

/-- None of them holds items with one value for each field. -/
theorem illFormed_holds_no_items (q : Request) (hq : q ∈ illFormed) (raw : List (Byte × List Byte))
    (h : q.holdsItems raw) : ¬(raw.map (·.1)).Nodup := by
  obtain ⟨widths, body⟩ := h
  have wide (p : Byte × List Byte) (hp : p ∈ raw) :
      p.2.length = 1 ∨ p.2.length = 2 ∨ p.2.length = 4 ∨ p.2.length = 8 := by simpa using widths p hp
  simp only [illFormed, List.mem_cons, List.not_mem_nil, or_false] at hq
  rcases raw with _ | ⟨p, ps⟩
  · rcases hq with rfl | rfl | rfl | rfl <;> simp [bare] at body
  · have hp := wide p (by simp)
    rcases hq with rfl | rfl | rfl | rfl <;>
      simp only [bare, List.flatMap_cons, List.cons_append, List.cons.injEq] at body
    · rcases hp with h | h | h | h <;> simp [h, byte] at body
    · have two : p.2.length = 2 := by rcases hp with h | h | h | h <;> simp [h, byte] at body ⊢
      have := congrArg List.length body.2.2
      simp at this
      omega
    · simp at body
    · rcases hp with h | h | h | h <;> simp [h, byte] at body
      obtain ⟨hf, hv⟩ := body
      obtain ⟨v, hv2⟩ := List.length_eq_one_iff.1 h
      rw [hv2] at hv
      rcases ps with _ | ⟨r, rs⟩
      · simp at hv
      · simp at hv
        simp [← hf, ← hv.2.1]

theorem witness_IllFormedRequestsWriteNothing :
    (serving fleet (ask 0x42 0 [])).serves (ask 0x42 0 []) [] ∧ (∀ c, requestCodeOf c ≠ some 0x42) ∧
      requestCodeOf .look = some 0x01 ∧
      ∀ q ∈ illFormed, (serving fleet q).serves q [] ∧ q.code = 0x01 ∧
        ∀ raw, q.holdsItems raw → ¬(raw.map (·.1)).Nodup :=
  ⟨by decide, fun c => by cases c <;> simp [requestCodeOf], by decide, fun q hq =>
    ⟨⟨rfl, rfl, rfl⟩, by
      simp only [illFormed, List.mem_cons, List.not_mem_nil, or_false] at hq
      rcases hq with rfl | rfl | rfl | rfl <;> rfl,
      illFormed_holds_no_items q hq⟩⟩

/-- R189: values of 1, 2, 4 and 8 bytes at the ends of what they carry. -/
theorem witness_ItemsAreRead :
    let raw : List (Byte × List Byte) :=
      [(1, [0x80]), (2, [0x7F, 0xFF]), (3, [0x80, 0, 0, 0]), (255, [0x7F, 0xFF, 0xFF, 0xFF, 0xFF, 0xFF, 0xFF, 0xFF])]
    let q := bare [1, 1, 0x80, 2, 2, 0x7F, 0xFF, 3, 4, 0x80, 0, 0, 0,
      255, 8, 0x7F, 0xFF, 0xFF, 0xFF, 0xFF, 0xFF, 0xFF, 0xFF]
    q.holdsItems raw ∧
      q.items? = some [⟨1, -128⟩, ⟨2, 32767⟩, ⟨3, -2147483648⟩, ⟨255, 9223372036854775807⟩] := by decide +kernel

/-- The coupling 2 is damaged. -/
def worn : State := fleet.modHeader .couplings 2 fun _ => scarred 8

theorem witness_LookReturnsTheRecord :
    (serving worn (ask 0x01 4 [(1, 5)])).serves (ask 0x01 4 [(1, 5)]) [] ∧ (ask 0x01 4 [(1, 5)]).carries 0x01 4 [⟨1, 5⟩] ∧
      storeTable 4 = some .engines ∧ storeTable 3 = some .couplings ∧ worn.errorFree = true ∧
      worn.header? .engines 5 = some clean ∧ worn.header? .couplings 2 = some (scarred 8) ∧
      worn.header? .couplings 128 = none ∧ (ask 0x01 3 [(1, 128)]).carries 0x01 3 [⟨1, 128⟩] := by decide

theorem witness_LookNextReturnsTheRecord :
    (ask 0x02 4 [(1, 4)]).carries 0x02 4 [⟨1, 4⟩] ∧ (fleet.keys .engines).find? (fun k => decide (4 < k)) = some 5 ∧
      4 ≤ greatestKey 4 ∧ fleet.sound .engines 5 = true ∧ (ask 0x02 1 [(1, 102)]).carries 0x02 1 [⟨1, 102⟩] ∧
      fleet.barges.map (·.hull) = [101] ++ 102 :: 103 :: [] ∧ fleet.sound .barges 103 = true := by decide

theorem witness_LookNextEnds :
    (ask 0x02 4 [(1, 6)]).carries 0x02 4 [⟨1, 6⟩] ∧ greatestKey 4 < 6 ∧ (ask 0x02 4 [(1, 5)]).carries 0x02 4 [⟨1, 5⟩] ∧
      5 ≤ greatestKey 4 ∧ (fleet.keys .engines).find? (fun k => decide (5 < k)) = none ∧
      (worn.keys .couplings).find? (fun k => decide (1 < k)) = some 2 ∧ (ask 0x02 1 [(1, 0)]).carries 0x02 1 [⟨1, 0⟩] ∧
      (fleet.barges.map (·.hull)).head? = some 101 ∧ (ask 0x02 1 [(1, 65535)]).carries 0x02 1 [⟨1, 65535⟩] ∧
      65535 ∉ fleet.barges.map (·.hull) ∧ fleet.barges.map (·.hull) = [101, 102] ++ 103 :: [] := by decide

theorem witness_LookReturnsTheOtherTables :
    (∀ t ∈ ([2, 8, 9, 10] : List Byte), (ask 0x01 t []).carries 0x01 t [] ∧
      (serving fleet (ask 0x01 t [])).serves (ask 0x01 t []) []) ∧
      (ask 0x01 11 [(1, 20)]).carries 0x01 11 [⟨1, 20⟩] ∧ fleet.node? 20 = some node20 ∧
      (ask 0x01 12 [(1, 31)]).carries 0x01 12 [⟨1, 31⟩] ∧ fleet.context? 31 = none ∧ fleet.context? 6 = some meter6 ∧
      (ask 0x02 11 [(1, 126)]).carries 0x02 11 [⟨1, 126⟩] ∧ (ask 0x02 11 [(1, 127)]).carries 0x02 11 [⟨1, 127⟩] ∧
      fleet.tow.nodes.find? (fun n => decide (0 < n.address)) = some node20 ∧
      (ask 0x02 12 [(1, 31)]).carries 0x02 12 [⟨1, 31⟩] ∧ (ask 0x02 12 [(1, 32)]).carries 0x02 12 [⟨1, 32⟩] ∧
      fleet.link.contexts.find? (fun c => decide (2 < c.address)) = some meter6 := by decide

/-- R73, R112, section 12.1: the items of a HAND coupling and of engine 5, absent fields omitted. -/
theorem test_items_returned :
    (fleet.shown .couplings 2).map (fun i => (i.field, i.value)) =
        [(1, 2), (2, 2), (3, 101), (4, 102), (5, 0), (8, 400), (10, 1), (11, 2), (14, 0), (15, 0), (16, 0)] ∧
      (fleet.shown .engines 5).map (·.field) = [1, 3, 4, 8, 9, 10, 11, 12, 14, 15, 16, 17, 20] := by decide

/-- An ENROL of a barge, with its rank and its node address. -/
def mooring (hull string : Nat) (rest : List (Nat × Int)) : Request :=
  ask 0x03 1 ([(1, (hull : Int)), (2, string), (4, 4000), (5, 600), (7, 1)] ++ rest)

/-- `n` full strings, without couplings. -/
def crowded (n : Nat) : State :=
  let hulls (k : Nat) : List Barge := (List.range 8).map fun j =>
    { barge2 with hull := 1000 * (k + 1) + j, string := k + 1 }
  { fleet with
    barges := (List.range n).flatMap hulls, strings := (List.range 6).map fun k => 8 * min (k + 1) n
    couplings := [], engines := [engine1] }

theorem witness_EnrolInsertsABarge :
    (∀ rank ∈ [none, some 1, some (8 : Nat)], ∀ node ∈ [none, some 0, some (126 : Nat)],
      let rest : List (Nat × Int) := (rank.map fun r => (3, (r : Int))).toList ++ (node.map fun a => (6, (a : Int))).toList
      (serving fleet (mooring 65535 6 rest)).serves (mooring 65535 6 rest) [] ∧
        (mooring 65535 6 rest).carries 0x03 1 ([⟨1, 65535⟩, ⟨2, 6⟩, ⟨4, 4000⟩, ⟨5, 600⟩, ⟨7, 1⟩] ++
          (match rank with | none => [] | some r => [⟨3, r⟩]) ++ (match node with | none => [] | some a => [⟨6, a⟩]))) ∧
      fleet.rosterLaw = true ∧ battered.rosterLaw = true ∧ battered.errorFree = true ∧
      65535 ∉ fleet.barges.map (·.hull) ∧ 101 ∈ fleet.barges.map (·.hull) ∧ fleet.lockage.phase = .whole ∧
      (∃ c ∈ fleet.couplings, c.names 102 = true) ∧ fleet.rank? 102 = some 2 ∧
      (∀ d ∈ fleet.barges, d.string = 2 → ∀ c ∈ fleet.couplings, c.names d.hull = false) ∧
      (∃ d ∈ fleet.barges, d.node = some 20) ∧ fleet.policy.boatNode ≠ 126 ∧
      (∀ n ∈ fleet.tow.nodes, n.address ≠ 126) := by decide +kernel

theorem witness_EnrolOfABargeIsRefused :
    (crowded 6).barges.length = 48 ∧ (crowded 6).rosterLaw = true ∧ (crowded 6).errorFree = true ∧
      (crowded 1).barges.length = 8 ∧ (crowded 1).rosterLaw = true ∧ (crowded 1).errorFree = true ∧
      65535 ∉ (crowded 6).barges.map (·.hull) ∧ ((crowded 1).barges.filter (·.string == 1)).length = 8 ∧
      (let s : State := { crowded 1 with lockage := { phase := .split, breaks := [1], boatCut := .none, remaining := 0 } }
       s.rosterLaw = true ∧ s.errorFree = true ∧ s.lockageLaw = true) := by decide +kernel

/-- R42, R56: an ENROL at rank 1 moves the barges behind it; one that takes a listed node's address empties its
slots. -/
theorem test_enrol_at_a_rank :
    let s : State := { fleet with
      barges := [{ barge1 with node := none }, barge2, barge3]
      tow := { fleet.tow with nodes := [{ node20 with slots := [some { command := .hold, stamp := 1, failures := 2 }] }] } }
    after .enrol (serving s (mooring 7 2 [(3, 1), (6, 20)])) (fun t =>
        t.barges.map (·.hull) = [101, 102, 7, 103] ∧ t.strings = [2, 4, 4, 4, 4, 4] ∧
          t.console.responses.map (·.result) = [.done] ∧ t.tow.nodes.map (·.slots) = [[none]]) ∧
      after .enrol (serving s (mooring 7 2 [(3, 8)])) (fun t =>
        t.barges.map (·.hull) = [101, 102, 103, 7] ∧ t.console.responses.map (·.result) = [.doneClamped]) := by
  decide +kernel

/-- An ENROL of a flanking channel. -/
def channelling (channel station : Nat) : Request :=
  ask 0x03 5 [(1, channel), (2, 2), (3, 4), (4, station), (5, 450), (6, 150)]

theorem witness_EnrolCreatesAContext :
    (serving fleet (channelling 8 31)).serves (channelling 8 31) [] ∧
      (channelling 8 31).carries 0x03 5 [⟨1, 8⟩, ⟨2, 2⟩, ⟨3, 4⟩, ⟨4, 31⟩, ⟨5, 450⟩, ⟨6, 150⟩] ∧
      8 ∉ fleet.rudders.map (·.channel) ∧ 31 ∉ fleet.namedAddresses.map (·.address) ∧
      (channelling 1 31).carries 0x03 5 [⟨1, 1⟩, ⟨2, 2⟩, ⟨3, 4⟩, ⟨4, 31⟩, ⟨5, 450⟩, ⟨6, 150⟩] ∧
      1 ∈ fleet.rudders.map (·.channel) ∧
      (channelling 8 1).carries 0x03 5 [⟨1, 8⟩, ⟨2, 2⟩, ⟨3, 4⟩, ⟨4, 1⟩, ⟨5, 450⟩, ⟨6, 150⟩] ∧
      1 ∈ fleet.namedAddresses.map (·.address) := by decide

/-- ENROLs of an engine with a staged order, of a tank and of a transfer. -/
def powering (k a supply : Nat) (meter : List (Nat × Int)) : Request :=
  ask 0x03 4 ([(1, (k : Int)), (2, a), (4, 600), (7, supply)] ++ meter ++ [(8, -1001)])
def tanking (k lowMark : Nat) (gauge : List (Nat × Int)) : Request :=
  ask 0x03 6 ([(1, (k : Int)), (2, 2), (3, 400000), (4, lowMark), (7, 400000000)] ++ gauge)
def piping (k a destination mode : Nat) (count : List (Nat × Int)) : Request :=
  ask 0x03 7 ([(1, (k : Int)), (2, a), (3, 100000), (4, 1), (5, destination), (6, 20000), (7, mode), (9, 0)] ++ count)

theorem witness_EnrolEntersAnEngine :
    (powering 4 31 3 []).carries 0x03 4 [⟨1, 4⟩, ⟨2, 31⟩, ⟨4, 600⟩, ⟨7, 3⟩, ⟨8, -1001⟩] ∧
      (powering 4 31 3 [(5, 30), (6, 100000)]).carries 0x03 4
        [⟨1, 4⟩, ⟨2, 31⟩, ⟨4, 600⟩, ⟨7, 3⟩, ⟨5, 30⟩, ⟨6, 100000⟩, ⟨8, -1001⟩] ∧
      (∃ t ∈ fleet.tanks, t.number = 3 ∧ t.kind = .day) ∧ 4 ∉ fleet.engines.map (·.number) ∧
      1 ∈ fleet.engines.map (·.number) ∧ 6 ∈ fleet.namedAddresses.map (·.address) ∧
      30 ∉ fleet.namedAddresses.map (·.address) ∧ 31 ∉ fleet.namedAddresses.map (·.address) ∧
      (ask 0x03 4 [(1, 5), (3, 101), (4, 50)]).carries 0x03 4 [⟨1, 5⟩, ⟨3, 101⟩, ⟨4, 50⟩] ∧
      fleet.barge? 101 = some barge1 ∧ fleet.barge? 999 = none ∧ fleet.errorFree = true ∧
      5 ∈ fleet.engines.map (·.number) ∧ 5 ∉ ([engine1] : List Engine).map (·.number) := by decide

theorem witness_EnrolEntersATankAndATransfer :
    (tanking 12 399999 []).carries 0x03 6 [⟨1, 12⟩, ⟨2, 2⟩, ⟨3, 400000⟩, ⟨4, 399999⟩, ⟨7, 400000000⟩] ∧
      (tanking 12 400000 [(5, 31)]).carries 0x03 6
        [⟨1, 12⟩, ⟨2, 2⟩, ⟨3, 400000⟩, ⟨4, 400000⟩, ⟨7, 400000000⟩, ⟨5, 31⟩] ∧
      12 ∉ fleet.tanks.map (·.number) ∧ 3 ∈ fleet.tanks.map (·.number) ∧
      (piping 2 31 3 1 []).carries 0x03 7
        [⟨1, 2⟩, ⟨2, 31⟩, ⟨3, 100000⟩, ⟨4, 1⟩, ⟨5, 3⟩, ⟨6, 20000⟩, ⟨7, TransferMode.single.code⟩, ⟨9, 0⟩] ∧
      (piping 2 31 1 2 [(8, 1000)]).carries 0x03 7
        [⟨1, 2⟩, ⟨2, 31⟩, ⟨3, 100000⟩, ⟨4, 1⟩, ⟨5, 1⟩, ⟨6, 20000⟩, ⟨7, TransferMode.counted.code⟩, ⟨9, 0⟩, ⟨8, 1000⟩] ∧
      2 ∉ fleet.transfers.map (·.number) ∧ 1 ∈ fleet.transfers.map (·.number) := by decide

/-- An ENROL of a coupling rated 2000 kN. -/
def lashing (kind a b : Nat) (rest : List (Nat × Int)) : Request :=
  ask 0x03 3 ([(2, (kind : Int)), (3, a), (4, b), (8, 2000)] ++ rest)

/-- 128 couplings are enrolled. -/
def lashedUp : State := { fleet with couplings := (List.range 128).map fun k => { wire with number := k + 1 } }

theorem witness_EnrolTakesTheLowestCouplingNumber :
    (∀ r ∈ ([(1, 0, 103), (2, 101, 102), (3, 103, 101)] : List (Nat × Nat × Nat)),
      (∀ orders ∈ ([[], [(10, 0)], [(10, 1)]] : List (List (Nat × Int))),
        (lashing r.1 r.2.1 r.2.2 ([(5, 0)] ++ orders)).carries 0x03 3
          ([⟨2, r.1⟩, ⟨3, r.2.1⟩, ⟨4, r.2.2⟩, ⟨8, 2000⟩, ⟨5, 0⟩] ++ orders.map fun o => ⟨o.1, o.2⟩)) ∧
      ∀ orders ∈ ([[], [(9, 0)], [(9, 1)], [(9, 2)], [(10, 0)]] : List (List (Nat × Int))),
        (lashing r.1 r.2.1 r.2.2 ([(5, 1), (6, 101), (7, 4)] ++ orders)).carries 0x03 3
          ([⟨2, r.1⟩, ⟨3, r.2.1⟩, ⟨4, r.2.2⟩, ⟨8, 2000⟩, ⟨5, 1⟩, ⟨6, 101⟩, ⟨7, 4⟩] ++
            orders.map fun o => ⟨o.1, o.2⟩)) ∧
      (serving fleet (lashing 1 0 103 [(5, 0)])).serves (lashing 1 0 103 [(5, 0)]) [] ∧
      fleet.rosterLaw = true ∧ fleet.errorFree = true ∧ fleet.recordLaw = true ∧
      (∀ h ∈ ([101, 102, 103] : List Nat), h ∈ fleet.barges.map (·.hull)) ∧ 999 ∉ fleet.barges.map (·.hull) ∧
      fleet.barges.map (fun b => (b.hull, b.string)) = [(101, 1), (102, 1), (103, 2)] ∧
      fleet.couplings.length < 128 ∧ 3 ∉ fleet.couplings.map (·.number) ∧
      (∀ m, m < 3 → 1 ≤ m → m ∈ fleet.couplings.map (·.number)) ∧ lashedUp.couplings.length = 128 ∧
      lashedUp.rosterLaw = true ∧ lashedUp.errorFree = true ∧ lashedUp.recordLaw = true ∧
      fleet.nodeOf (.barge 101) = some node20 ∧ fleet.nodeOf (.barge 102) = none ∧ 1 ≤ node20.winches := by
  decide +kernel

def staging (v : Int) : Request := ask 0x04 4 [(1, 1), (8, v)]

theorem witness_AmendStagesAnOrder :
    (serving fleet (staging 1001)).serves (staging 1001) [] ∧ (staging 1001).carries 0x04 4 [⟨1, 1⟩, ⟨8, 1001⟩] ∧
      (staging (-1000)).carries 0x04 4 [⟨1, 1⟩, ⟨8, -1000⟩] ∧ fleet.errorFree = true ∧ fleet.recordLaw = true ∧
      fleet.sound .engines 1 = true := by decide

/-- The channel 1 at a sent angle, its servo's context in a state. -/
def steering (sent : Int) (state : ContextState) : State :=
  { fleet with
    rudders := [{ rudder1 with sent := sent }]
    link := { fleet.link with contexts := [{ context 2 .rudder 1 (.rudder 350 50) with state := state }] } }

/-- The channel 1, enrolled with its servo's context. -/
theorem witness_AmendMovesAContext :
    (∀ sent ∈ ([-1, 0] : List Int), ∀ state ∈ [ContextState.offline, .parameterize, .configure, .exchange, .rejected],
      (steering sent state).errorFree = true ∧ (steering sent state).recordLaw = true ∧
        (steering sent state).rudder? 1 = some { rudder1 with sent := sent } ∧
        (steering sent state).context? 2 = some { context 2 .rudder 1 (.rudder 350 50) with state := state } ∧
        (steering sent state).servedBy { context 2 .rudder 1 (.rudder 350 50) with state := state } .rudder 1) ∧
      (∀ v ∈ ([10, 50, 150] : List Nat), (ask 0x04 5 [(1, 1), (6, v)]).carries 0x04 5 [⟨1, 1⟩, ⟨6, v⟩]) ∧
      (∀ v ∈ ([3, 31] : List Nat), (ask 0x04 5 [(1, 1), (4, v)]).carries 0x04 5 [⟨1, 1⟩, ⟨4, v⟩] ∧
        v ∉ (steering 0 .exchange).namedAddresses.map (·.address) ∧ (steering 0 .exchange).context? v = none) ∧
      (ask 0x05 5 [(1, 1)]).carries 0x05 5 [⟨1, 1⟩] := by decide

/-- Both engines at a sent order and with a draw held, two DAY tanks, and gauge 7 at tank 1. -/
def thrusting (sent : Int) (undebited : Nat) : State :=
  { fleet with
    engines := [{ engine1 with sent := sent, undebited := undebited }, { engine5 with sent := sent, state := .running }]
    tanks := [{ tank1 with kind := .day, gauge := some 7 }, tank3]
    link := { fleet.link with contexts := fleet.link.contexts ++ [context 7 .gauge 1 (.gauge 1000)] } }

theorem witness_AmendRestartsAGovernor :
    (∀ sent ∈ ([0, 1] : List Int), ∀ held ∈ [0, 7],
      (thrusting sent held).errorFree = true ∧ (thrusting sent held).recordLaw = true ∧
        (thrusting sent held).engine? 1 = some { engine1 with sent := sent, undebited := held } ∧
        (thrusting sent held).engine? 5 = some { engine5 with sent := sent, state := .running } ∧
        (thrusting sent held).servedBy (context 1 .engine 1 (.engine 300)) .engine 1 ∧
        (thrusting sent held).context? 6 = some meter6 ∧ (thrusting sent held).tank? 3 = some tank3 ∧
        (thrusting sent held).tank? 1 = some { tank1 with kind := .day, gauge := some 7 }) ∧
      (∀ v ∈ ([50, 300, 600] : List Nat), (ask 0x04 4 [(1, 1), (4, v)]).carries 0x04 4 [⟨1, 1⟩, ⟨4, v⟩] ∧
        (ask 0x04 4 [(1, 5), (4, v)]).carries 0x04 4 [⟨1, 5⟩, ⟨4, v⟩]) ∧
      (∀ v ∈ ([1, 3, 9] : List Nat), (ask 0x04 4 [(1, 1), (7, v)]).carries 0x04 4 [⟨1, 1⟩, ⟨7, v⟩]) ∧
      (∀ t ∈ fleet.tanks, t.number = 1 → t.kind = .storage) ∧
      (∀ v ∈ ([101, 103, 999] : List Nat), (ask 0x04 4 [(1, 5), (3, v)]).carries 0x04 4 [⟨1, 5⟩, ⟨3, v⟩]) := by
  decide +kernel

/-- The hull 102 may move, having no coupling and none behind it, and 101 may not. -/
theorem witness_AmendChangesABarge :
    let s : State := { fleet with couplings := [{ wire with state := .lost }] }
    s.errorFree = true ∧ s.recordLaw = true ∧ s.rosterLaw = true ∧ s.barge? 101 = some barge1 ∧
      s.barge? 102 = some barge2 ∧ s.barge? 103 = some barge3 ∧ s.bowBarge? = some 103 ∧
      (∀ h ∈ ([101, 102, 103] : List Nat),
        (ask 0x04 1 [(1, h), (4, 4000), (5, 600), (7, 0)]).carries 0x04 1 [⟨1, h⟩, ⟨4, 4000⟩, ⟨5, 600⟩, ⟨7, 0⟩] ∧
        (∀ v ∈ ([1, 6] : List Nat), (ask 0x04 1 [(1, h), (2, v)]).carries 0x04 1 [⟨1, h⟩, ⟨2, v⟩]) ∧
        ∀ v ∈ ([0, 20, 126] : List Nat), (ask 0x04 1 [(1, h), (6, v)]).carries 0x04 1 [⟨1, h⟩, ⟨6, v⟩]) ∧
      (∃ c ∈ s.couplings, c.names 101 = true) ∧ (∀ c ∈ s.couplings, c.names 102 = false) ∧
      s.stringCount 6 < 8 ∧ (∀ d ∈ s.barges, d.hull ≠ 101 → d.node ≠ some 20) ∧
      (∃ c ∈ s.couplings, c.tendedBy (.barge 101) = true ∧ c.presents ≠ .unlashed) ∧
      (∀ c ∈ fleet.couplings, c.tendedBy (.barge 101) = true → c.presents = .unlashed) ∧
      (∀ n ∈ fleet.tow.nodes, n.address ≠ 126 ∧ barge2.node ≠ some n.address) := by decide

/-- R47: engine 5 is RUNNING at the hull 103, undamaged, damaged, or with two bad bits in the word of its state. -/
theorem test_amend_keeps_the_bow_node :
    let s (h : Header) : State := { fleet with engines := [engine1, { engine5 with state := .running, header := h }] }
    (s (scarred 15)).errorFree = true ∧ (s (scarred 15)).recordLaw = true ∧
      ∀ h ∈ [clean, scarred 15, { damaged := false, bad := [(15, 0), (15, 38)] }],
        after .amend (serving (s h) (ask 0x04 1 [(1, 103), (6, 126)])) (fun t =>
          t.console.responses.map (·.result) = [.wrongState] ∧ t.barges = fleet.barges) := by decide +kernel

theorem witness_AmendChangesATankAndATransfer :
    let s := thrusting 0 0
    s.servedBy (context 7 .gauge 1 (.gauge 1000)) .gauge 1 ∧ s.servedBy (context 9 .pump 1 (.factor 5000)) .pump 1 ∧
      s.transfer? 1 = some transfer1 ∧ transfer1.state.atRest = true ∧
      { transfer1 with state := .running }.state.atRest = false ∧
      transfer1.batchCount.isSome = (transfer1.mode == .counted) ∧
      (∀ v ∈ ([10, 100, 20000] : List Nat), (ask 0x04 7 [(1, 1), (6, v)]).carries 0x04 7 [⟨1, 1⟩, ⟨6, v⟩]) ∧
      (∀ v ∈ ([100, 100000] : List Nat), (ask 0x04 7 [(1, 1), (3, v)]).carries 0x04 7 [⟨1, 1⟩, ⟨3, v⟩]) ∧
      (∀ v ∈ ([100, 400000] : List Nat), (ask 0x04 6 [(1, 1), (3, v)]).carries 0x04 6 [⟨1, 1⟩, ⟨3, v⟩]) ∧
      (∀ v ∈ ([0, 999, 1000] : List Nat), (ask 0x04 6 [(1, 1), (4, v)]).carries 0x04 6 [⟨1, 1⟩, ⟨4, v⟩]) := by
  decide +kernel

/-- R105: a changed rate restarts the admission, and the rate held takes a REJECTED servo to OFFLINE. R143: engine 5
under way takes not even the rated thrust it holds. R31, R88: a declare UNLASHED meets the tending that stands. -/
theorem test_amend_tests_the_state_that_stands :
    after .amend (serving (steering 0 .exchange) (ask 0x04 5 [(1, 1), (6, 60)])) (fun t =>
        t.link.contexts.map (fun c => (c.state, c.parameters)) = [(.parameterize, .rudder 350 60)] ∧
          t.rudders.map (·.state) = [.admitting]) ∧
      after .amend (serving (steering 0 .rejected) (ask 0x04 5 [(1, 1), (6, 50)])) (fun t =>
        t.link.contexts.map (·.state) = [.offline] ∧ t.rudders.map (·.state) = [.offline]) ∧
      after .amend (serving (thrusting 1 0) (ask 0x04 4 [(1, 5), (4, 100)])) (fun t =>
        t.console.responses.map (·.result) = [.wrongState]) ∧
      after .amend (serving { fleet with couplings := [{ wire with tending := .hand }] }
        (ask 0x04 3 [(1, 1), (5, 1), (6, 101), (7, 1), (10, 0)])) (fun t =>
          t.console.responses.map (·.result) = [.done] ∧ t.couplings.map (·.tending) = [.winch (.barge 101) 1]) ∧
      after .amend (serving fleet (ask 0x04 3 [(1, 1), (5, 0), (10, 0)])) (fun t =>
        t.console.responses.map (·.result) = [.wrongState]) := by decide +kernel

def making : Request := ask 0x04 3 [(1, 1), (9, 1)]

/-- The wire stands LOST and is seated. -/
def lostWire : State := { fleet with couplings := [{ wire with state := .lost, seated := some true }, ratchet] }

theorem witness_AmendMakesACoupling :
    (serving lostWire making).serves making [] ∧ making.carries 0x04 3 [⟨1, 1⟩, ⟨9, 1⟩] ∧ lostWire.errorFree = true ∧
      lostWire.recordLaw = true ∧ lostWire.coupling? 1 = some { wire with state := .lost, seated := some true } ∧
      fleet.coupling? 1 = some wire ∧ lostWire.nodeOf (.barge 101) = some node20 ∧ 1 ≤ node20.winches := by decide

theorem witness_AmendChangesACoupling :
    let s (c : Coupling) : State := { fleet with couplings := [c] }
    let hand : Coupling := { wire with tending := .hand }
    (∀ c ∈ [hand, wire, { wire with state := .lost }, { wire with tendOrder := .make },
        { wire with tendOrder := .release }],
      (s c).errorFree = true ∧ (s c).recordLaw = true ∧ (s c).lockage.phase = .whole ∧ (s c).coupling? 1 = some c) ∧
      (s wire).nodeOf (.barge 101) = some node20 ∧ ((s wire).barge? 101).isSome = true ∧
      (∀ i ∈ ([(8, 10), (8, 2000), (9, 2), (9, 0), (10, 0), (10, 1), (4, 101), (4, 103), (4, 65535), (5, 0)] :
          List (Nat × Nat)), (ask 0x04 3 [(1, 1), (i.1, i.2)]).carries 0x04 3 [⟨1, 1⟩, ⟨i.1, i.2⟩]) ∧
      (ask 0x04 3 [(1, 1), (5, 0), (10, 0)]).carries 0x04 3 [⟨1, 1⟩, ⟨5, 0⟩, ⟨10, 0⟩] ∧
      (ask 0x04 3 [(1, 1), (5, 1), (7, 1)]).carries 0x04 3 [⟨1, 1⟩, ⟨5, 1⟩, ⟨7, 1⟩] ∧
      (∀ m ∈ [Member.boat, .barge 101], ∀ w ∈ ([1, 4] : List Nat),
        (ask 0x04 3 [(1, 1), (5, 1), (6, m.code), (7, w)]).carries 0x04 3 [⟨1, 1⟩, ⟨5, 1⟩, ⟨6, m.code⟩, ⟨7, w⟩] ∧
        (ask 0x04 3 [(1, 1), (5, 1), (6, m.code), (7, w), (10, 0)]).carries 0x04 3
          [⟨1, 1⟩, ⟨5, 1⟩, ⟨6, m.code⟩, ⟨7, w⟩, ⟨10, 0⟩]) := by decide +kernel

/-- The engine 5 is not enrolled. -/
def bowless : State := { fleet with engines := [engine1] }

/-- The hull 101 is named, and the hull 102 behind it is not. -/
def trailing : State := { bowless with couplings := [wire] }

theorem witness_RetireRemovesABarge :
    (serving trailing (ask 0x05 1 [(1, 102)])).serves (ask 0x05 1 [(1, 102)]) [] ∧
      (ask 0x05 1 [(1, 102)]).carries 0x05 1 [⟨1, 102⟩] ∧ trailing.barge? 102 = some barge2 ∧ barge2.node = none ∧
      trailing.rosterLaw = true ∧ (∀ c ∈ trailing.couplings, c.names 102 = false) ∧
      (∀ d ∈ trailing.barges, d.string = barge2.string →
        (trailing.rank? 102).getD 0 < (trailing.rank? d.hull).getD 0 → ∀ c ∈ trailing.couplings, c.names d.hull = false) ∧
      trailing.bowBarge? ≠ some 102 ∧ trailing.lockage.phase = .whole ∧ trailing.nodeLaw = true ∧
      trailing.errorFree = true := by decide

/-- No coupling is enrolled, nor engine 5: the hull 101 at the listed node 20 may go, also damaged. -/
def loose (h : Header) : State := { bowless with barges := [{ barge1 with header := h }, barge2, barge3], couplings := [] }

theorem witness_RetireOfABargeIsRefused :
    (∀ h ∈ [clean, scarred 4], (loose h).rosterLaw = true ∧ (loose h).nodeLaw = true ∧ (loose h).errorFree = true ∧
      (loose h).barge? 101 = some { barge1 with header := h } ∧ (loose h).bowBarge? = none ∧
      (∃ n ∈ (loose h).tow.nodes, barge1.node = some n.address)) ∧
      fleet.bowBarge? = some 103 ∧ (∃ c ∈ fleet.couplings, c.names 101 = true) ∧
      (let s := { bowless with couplings := [{ wire with endB := 102 }] }
       s.rosterLaw = true ∧ (∀ c ∈ s.couplings, c.names 101 = false) ∧ (∃ c ∈ s.couplings, c.names 102 = true) ∧
        s.rank? 101 = some 1 ∧ s.rank? 102 = some 2) ∧
      (let s : State := { loose clean with lockage := { phase := .split, breaks := [1], boatCut := .none, remaining := 0 } }
       s.rosterLaw = true ∧ s.lockageLaw = true ∧ s.lockage.phase ≠ .whole) := by decide

/-- R44, R48, R56: the hull 101 goes in WHOLE alone, and the slots of the node at its address go with it. -/
theorem test_retire_of_a_barge :
    let holding (h : Header) : State := { loose h with tow := { (loose h).tow with
      nodes := [{ node20 with slots := [some { command := .hold, stamp := 1, failures := 2 }] }] } }
    (∀ h ∈ [clean, scarred 4], after .retire (serving (holding h) (ask 0x05 1 [(1, 101)])) (fun t =>
      t.barges.map (·.hull) = [102, 103] ∧ t.strings = [1, 2, 2, 2, 2, 2] ∧ t.tow.nodes.map (·.slots) = [[none]])) ∧
      after .retire (serving { loose clean with
          lockage := { phase := .split, breaks := [1], boatCut := .none, remaining := 0 } } (ask 0x05 1 [(1, 101)]))
        (fun t => t.console.responses.map (·.result) = [.wrongState] ∧ t.barges = (loose clean).barges) := by
  decide +kernel

theorem witness_RetireRemovesEveryRecord :
    (∀ p ∈ ([(3, 1), (3, 2), (4, 1), (4, 5), (6, 1), (6, 3), (7, 1)] : List (Nat × Nat)),
      (ask 0x05 (byte p.1) [(1, p.2)]).carries 0x05 (byte p.1) [⟨1, p.2⟩]) ∧
      fleet.coupling? 1 = some wire ∧ fleet.coupling? 2 = some ratchet ∧
      (∀ sent ∈ ([0, 1] : List Int), (thrusting sent 0).engine? 1 = some { engine1 with sent := sent } ∧
        (thrusting sent 0).engine? 5 = some { engine5 with sent := sent, state := .running }) ∧
      (thrusting 0 0).context? 1 = some (context 1 .engine 1 (.engine 300)) ∧ (thrusting 0 0).context? 6 = some meter6 ∧
      (thrusting 0 0).context? 7 = some (context 7 .gauge 1 (.gauge 1000)) ∧
      (∃ tr ∈ fleet.transfers, tr.source = 1 ∨ tr.destination = 1) ∧
      (∀ e ∈ fleet.engines, e.supply ≠ some 1) ∧ tank1.content ≠ 0 ∧ fleet.transfer? 1 = some transfer1 ∧
      fleet.context? 9 = some (context 9 .pump 1 (.factor 5000)) := by decide +kernel

/-- The barge 101 is damaged. -/
def holed : State := fleet.modHeader .barges 101 fun _ => scarred 4

def mending : Request := ask 0x06 1 [(1, 101), (4, 4000), (5, 600), (7, 0)]

theorem witness_RestoreRewritesABarge :
    (serving holed mending).serves mending [] ∧ holed.recordLaw = true ∧
      mending.carries 0x06 1 [⟨1, 101⟩, ⟨4, 4000⟩, ⟨5, 600⟩, ⟨7, 0⟩] ∧
      holed.barge? 101 = some { barge1 with header := scarred 4 } ∧ holed.errorFree = true := by decide

/-- The channel 1 is damaged. -/
def jammed (state : ContextState) : State := (steering 20 state).modHeader .rudders 1 fun _ => scarred 5

def rehanging : Request := ask 0x06 5 [(1, 1), (2, 2), (5, 450), (6, 10)]

theorem witness_RestoreRewritesAChannel :
    (serving (jammed .rejected) rehanging).serves rehanging [] ∧ (jammed .rejected).recordLaw = true ∧
      rehanging.carries 0x06 5 [⟨1, 1⟩, ⟨2, 2⟩, ⟨5, 450⟩, ⟨6, 10⟩] ∧
      (jammed .exchange).rudder? 1 = some { rudder1 with sent := 20, header := scarred 5 } ∧
      (jammed .exchange).errorFree = true ∧
      (jammed .exchange).servedBy (context 2 .rudder 1 (.rudder 350 50)) .rudder 1 := by decide

/-- One record is damaged, and the engine 1 and the transfer hold an amount. -/
def wrecked (t : Tbl) (key held : Nat) : State :=
  State.modHeader { fleet with
    engines := [{ engine1 with undebited := held }, engine5]
    transfers := [{ transfer1 with heldVolume := held }] } t key fun _ => scarred ((wordsOf t).headD 0)

theorem witness_RestoreRewritesEveryRecord :
    (ask 0x06 3 [(1, 2), (8, 2000)]).carries 0x06 3 [⟨1, 2⟩, ⟨8, 2000⟩] ∧
      (wrecked .couplings 2 0).coupling? 2 = some { ratchet with header := scarred 8 } ∧
      (ask 0x06 4 [(1, 1), (4, 600), (6, 100)]).carries 0x06 4 [⟨1, 1⟩, ⟨4, 600⟩, ⟨6, 100⟩] ∧
      (ask 0x06 4 [(1, 5), (4, 50)]).carries 0x06 4 [⟨1, 5⟩, ⟨4, 50⟩] ∧
      (wrecked .engines 1 0).engine? 1 = some { engine1 with header := scarred 4 } ∧
      (wrecked .engines 1 0).servedBy (context 1 .engine 1 (.engine 300)) .engine 1 ∧
      (wrecked .engines 1 0).servedBy meter6 .meter 1 ∧ (wrecked .engines 5 0).recordLaw = true ∧
      (wrecked .engines 5 0).engine? 5 = some { engine5 with header := scarred 4 } ∧
      (ask 0x06 6 [(1, 3), (3, 100), (4, 99), (7, 100000)]).carries 0x06 6 [⟨1, 3⟩, ⟨3, 100⟩, ⟨4, 99⟩, ⟨7, 100000⟩] ∧
      (∀ held ∈ [0, 9], (wrecked .tanks 3 held).errorFree = true ∧ (wrecked .tanks 3 held).recordLaw = true ∧
        (wrecked .tanks 3 held).tank? 3 = some { tank3 with header := scarred 3 } ∧
        (wrecked .tanks 3 held).engines.filter (fun e => e.supply == some 3 && !e.header.damaged && e.undebited != 0) =
          (if held = 0 then [] else [{ engine1 with undebited := held }])) ∧
      (wrecked .tanks 1 9).engines.filter (fun e => e.supply == some 1 && !e.header.damaged && e.undebited != 0) = [] ∧
      (wrecked .tanks 1 9).transfers.filter (fun tr =>
        (tr.source == 1 || tr.destination == 1) && !tr.header.damaged && tr.heldVolume != 0) =
          [{ transfer1 with heldVolume := 9 }] ∧
      (ask 0x06 7 [(1, 1), (3, 100), (6, 10), (7, 2), (9, 100000), (8, 1)]).carries 0x06 7
        [⟨1, 1⟩, ⟨3, 100⟩, ⟨6, 10⟩, ⟨7, TransferMode.counted.code⟩, ⟨9, 100000⟩, ⟨8, 1⟩] ∧
      (wrecked .transfers 1 0).errorFree = true ∧ (wrecked .transfers 1 0).recordLaw = true ∧
      (wrecked .transfers 1 0).servedBy (context 9 .pump 1 (.factor 5000)) .pump 1 := by decide +kernel

/-- R163: a draw of 9 ml held is taken from the opening of 100 L. R176: a volume held is carried across. -/
theorem test_restore_of_a_tank_posts_what_is_held :
    let contents (a b : Nat) (t : State) : Bool := t.tanks.map (·.content) = [a, b]
    after .restore (serving { wrecked .tanks 3 9 with transfers := [] }
        (ask 0x06 6 [(1, 3), (3, 100), (4, 99), (7, 100000)])) (contents 500000 99991) ∧
      after .restore (serving (wrecked .tanks 1 9) (ask 0x06 6 [(1, 1), (3, 100), (4, 99), (7, 5)]))
        (contents 0 100009) := by decide +kernel

theorem witness_StepCopiesStagedValues :
    (serving fleet (ask 0x10 0 [])).serves (ask 0x10 0 []) [] ∧ (ask 0x10 0 []).carries 0x10 0 [] ∧
      fleet.errorFree = true ∧ fleet.recordLaw = true := by decide

/-- A coupling between the ranks 1 and 2, alone at winch 1 of the node of hull 101. -/
def strap (state : CouplingState) (crossing : Bool) : Coupling :=
  { wire with number := 2, kind := .long, endA := .barge 101, endB := 102, state := state, crossing := crossing }
def strapped : State := { fleet with couplings := [{ wire with tending := .hand }, strap .made false] }

theorem witness_BreakDividesTheTow :
    (serving strapped (ask 0x11 0 [(2, 1)])).serves (ask 0x11 0 [(2, 1)]) [] ∧
      (ask 0x11 0 [(2, 1)]).carries 0x11 0 [⟨2, 1⟩] ∧ strapped.errorFree = true ∧ strapped.recordLaw = true ∧
      strapped.lockage.phase = .whole ∧ 1 < strapped.highestRank ∧ strapped.highestRank ≤ 8 ∧
      (∀ e ∈ strapped.engines, e.number ≠ 5 → e.header.damaged = false →
        e.sent.natAbs ≤ strapped.policy.breakLimit) ∧
      (strap .made false).tending = .winch (.barge 101) 1 ∧
      ({ strapped with lockage := { strapped.lockage with breaks := [1] } }).endsCross (.barge 101) 102 = true ∧
      strapped.nodeOf (.barge 101) = some node20 ∧ node20.slots.length = node20.winches := by decide

/-- A string of four barges, with an engine at an order, in a phase. -/
def longTow (phase : Phase) (breaks : List Nat) (order : Int) : State :=
  { strapped with
    barges := [barge1, barge2, { barge2 with hull := 104 }, { barge2 with hull := 105 }], strings := [4, 4, 4, 4, 4, 4]
    engines := [{ engine1 with sent := order }]
    lockage := { phase := phase, breaks := breaks, boatCut := .none, remaining := 0 } }

/-- Ranks in and out of order in the frame, ranks that fail, lists with a gap, the sent order at and beyond the limit. -/
theorem witness_BreakTakesUpToThreeRanks :
    (∀ s ∈ [longTow .whole [] 150, longTow .whole [] (-151), longTow .breaking [1] 0, longTow .split [2] 0,
        longTow .remaking [1, 3] 151],
      s.errorFree = true ∧ s.recordLaw = true ∧ s.rosterLaw = true ∧ s.lockageLaw = true ∧
        s.policy.breakLimit = 150) ∧
      (∀ items ∈ ([[(2, 3)], [(2, 1), (3, 2)], [(4, 3), (2, 1), (3, 2)], [(2, 0)], [(2, 8)], [(2, 2), (3, 2)],
          [(2, 1), (3, 2), (4, 4)], [(3, 1)], [(2, 1), (4, 2)], [], [(2, 1)], [(2, 1), (3, 3), (4, 4)]] :
            List (List (Nat × Int))),
        (ask 0x11 0 items).carries 0x11 0 (items.map fun p => ⟨p.1, p.2⟩)) ∧
      ([⟨4, 3⟩, ⟨2, 1⟩, ⟨3, 2⟩] : List Item).Perm [⟨2, 1⟩, ⟨3, 2⟩, ⟨4, 3⟩] ∧
      (longTow .whole [] 0).barges.map (fun b => (longTow .whole [] 0).rank? b.hull) = [some 1, some 2, some 3, some 4] := by
  decide +kernel

/-- R180, R181: the cuts of four ranks at breaks 1 and 3; three ranks in any order of the frame divide the tow, and
each rank that fails is named. -/
theorem test_break_ranks :
    let answers (s : State) (items : List (Nat × Int)) (r : Result) : Bool :=
      after .breakTow (serving s (ask 0x11 0 items)) (fun t => t.console.responses.map (·.result) = [r])
    (let s := longTow .split [1, 3] 0
     s.barges.map (fun b => s.cut? b.hull) = [some 1, some 2, some 2, some 3] ∧
      s.endsCross (.barge 101) 102 = true ∧ s.endsCross (.barge 102) 104 = false ∧ s.endsCross .boat 105 = false) ∧
      after .breakTow (serving (longTow .whole [] 150) (ask 0x11 0 [(4, 3), (2, 1), (3, 2)])) (fun t =>
        t.lockage.breaks = [1, 2, 3] ∧ t.lockage.phase = .breaking ∧ t.console.responses.map (·.result) = [.done]) ∧
      answers (longTow .whole [] 0) [(2, 1), (3, 2), (4, 4)] (.badField 4) ∧
      answers (longTow .whole [] 0) [(2, 2), (3, 2)] (.badField 3) ∧
      answers (longTow .split [2] 0) [(2, 0)] (.badField 2) ∧
      answers (longTow .split [2] 0) [(2, 3)] .wrongState ∧
      answers (longTow .whole [] (-151)) [(2, 3)] .wrongState ∧
      answers (longTow .remaking [1, 3] 0) [(2, 1)] (.badField 3) ∧
      answers (longTow .whole [] 0) [(2, 1), (4, 2)] .badRequest := by decide +kernel

/-- The tow is joined up again behind its ranks. -/
def rejoining (breaks : List Nat) : State :=
  { fleet with
    couplings := [{ wire with tending := .hand }, strap .made true]
    lockage := { phase := .remaking, breaks := breaks, boatCut := .none, remaining := 1 } }

theorem witness_BreakIsTakenInRemaking :
    (∀ e ∈ (rejoining [1]).engines, e.number ≠ 5 → e.header.damaged = false →
      e.sent.natAbs ≤ (rejoining [1]).policy.breakLimit) ∧ (rejoining [1, 2, 7]).errorFree = true ∧
      (rejoining [1, 2, 7]).recordLaw = true ∧
      (ask 0x11 0 [(2, 1), (3, 2), (4, 7)]).carries 0x11 0 [⟨2, 1⟩, ⟨3, 2⟩, ⟨4, 7⟩] ∧
      ((rejoining [1, 2, 7]).lockage.breaks.zipIdx.map fun p => (⟨p.2 + 2, p.1⟩ : Item)) = [⟨2, 1⟩, ⟨3, 2⟩, ⟨4, 7⟩] ∧
      (rejoining [1]).lockage.breaks = [1] ∧ (ask 0x11 0 [(2, 2)]).carries 0x11 0 [⟨2, 2⟩] ∧
      (rejoining [1]).nodeOf (.barge 101) = some node20 := by decide

/-- A BREAK behind rank 1 with face wires at 101 and 102: both MADE hold the boat to two cuts, and one to its own. -/
theorem test_break_decides_the_boat_cut :
    let wired (first second : CouplingState) : State := serving { fleet with couplings :=
      [{ wire with tending := .hand, state := first },
        { wire with number := 3, endB := 102, tending := .hand, state := second }] } (ask 0x11 0 [(2, 1)])
    after .breakTow (wired .made .slack) (fun t => t.lockage.boatCut = .conflict ∧ (t.notices.get .lockage).count = 2) ∧
      after .breakTow (wired .overload .strained) (fun t =>
        t.lockage.boatCut = .cut 2 ∧ (t.notices.get .lockage).count = 1) := by decide +kernel

/-- The tow is split behind rank 1, across the strap. -/
def split (state : CouplingState) : State :=
  { fleet with
    couplings := [{ wire with tending := .hand }, strap state true]
    lockage := { phase := .split, breaks := [1], boatCut := .none, remaining := 0 } }

theorem witness_RemakeJoinsTheTow :
    (serving (split .lost) (ask 0x12 0 [])).serves (ask 0x12 0 []) [] ∧ (ask 0x12 0 []).carries 0x12 0 [] ∧
      (split .lost).errorFree = true ∧ (split .lost).recordLaw = true ∧ (split .lost).lockage.phase = .split ∧
      (split .lost).lockageLaw = true ∧ (strap .lost true).crossing = true ∧
      (∀ d ∈ (split .lost).couplings, ∀ j, d.tending = .winch (.barge 101) j → d = strap .lost true ∨ (1 ≤ j ∧ j ≠ 1)) ∧
      (split .lost).nodeOf (.barge 101) = some node20 ∧
      (split .made).lockage.phase = .split ∧ (split .made).crossing (strap .made true) = true ∧
      (strap .made true).presents.inMadeGroup = true := by
  refine ⟨by decide, by decide, by decide, by decide, by decide, by decide, by decide, fun d hd j hj => ?_, by decide,
    by decide, by decide, by decide⟩
  simp only [split, List.mem_cons, List.not_mem_nil, or_false] at hd
  rcases hd with rfl | rfl
  · cases hj
  · exact .inl rfl

/-- R74, R187: each end and kind that is refused; a LONG coupling across the cut in each phase, and what it ends. -/
theorem test_enrol_of_a_coupling :
    let answers (s : State) (q : Request) (r : Result) (phase : Phase) (crossing : Bool) : Bool :=
      after .enrol (serving s q) (fun t =>
        t.console.responses.map (·.result) = [r] ∧ t.lockage.phase = phase ∧
          (r = .done → (t.couplings.find? (·.number == 3)).map (fun c => (c.state, c.crossing)) =
            some (.unlashed, crossing)))
    let inPhase (phase : Phase) : State := { split .unlashed with
      lockage := { phase := phase, breaks := [1], boatCut := .none, remaining := 0 } }
    answers fleet (lashing 2 999 102 [(5, 0)]) (.badField 3) .whole false ∧
      answers fleet (lashing 2 102 102 [(5, 0)]) (.badField 4) .whole false ∧
      answers fleet (lashing 2 101 103 [(5, 0)]) (.badField 2) .whole false ∧
      answers fleet (lashing 3 103 102 [(5, 0)]) (.badField 2) .whole false ∧
      answers fleet (lashing 2 102 101 [(5, 1), (6, 103), (7, 1)]) (.badField 6) .whole false ∧
      answers lashedUp (lashing 3 103 101 [(5, 0)]) .full .whole false ∧
      answers fleet (lashing 3 103 101 [(5, 1), (6, 101), (7, 1)]) .done .whole false ∧
      answers (inPhase .split) (lashing 2 102 101 [(5, 0)]) .done .split true ∧
      answers (inPhase .split) (lashing 2 102 101 [(5, 0), (10, 1)]) .wrongState .split false ∧
      answers (inPhase .breaking) (lashing 1 0 103 [(5, 0)]) .done .split false ∧
      answers (inPhase .remaking) (lashing 2 102 101 [(5, 0)]) .done .remaking true := by decide +kernel

/-- A REMAKE takes an UNLASHED strap on, and one with the strap MADE is over at once. -/
theorem test_remake_ends :
    after .remake (serving (split .unlashed) (ask 0x12 0 [])) (fun t => t.lockage.phase = .remaking ∧ t.lockage.remaining = 1) ∧
      after .remake (serving (split .made) (ask 0x12 0 [])) (fun t => t.lockage = .initial) := by decide +kernel

theorem witness_SweepSetsTheMark : (sweeping 0).serves (ask 0x13 0 []) [] ∧ (ask 0x13 0 []).carries 0x13 0 [] := by
  decide

/-- A request of the transfer 1. -/
def ofTransfer (code : Byte) : Request := ask code 7 [(1, 1)]

/-- The transfer's pump is not admitted. -/
def pumpless : State := { fleet with link := MachineryLink.initial }

theorem witness_TransferGoTakesTheBatchCheck :
    (serving fleet (ofTransfer 0x20)).serves (ofTransfer 0x20) [] ∧ (ofTransfer 0x20).carries 0x20 7 [⟨1, 1⟩] ∧
      fleet.transfer? 1 = some transfer1 ∧ transfer1.state.atRest = true ∧ fleet.tank? 1 = some tank1 ∧
      fleet.tank? 3 = some tank3 ∧ (fleet.context? 9).map (·.state) = some .exchange ∧
      tank1.lowMark * 1000 + transfer1.batchVolume * 1000 ≤ tank1.content ∧
      (tank3.content : Int) + transfer1.batchVolume * 1000 ≤
        ((tank3.capacity : Int) - fleet.policy.overfillMargin) * 1000 ∧ pumpless.context? 9 = none := by decide

/-- The transfer 1 in a state, with some of its batch moved. -/
def pumping (state : TransferState) : State :=
  { fleet with transfers := [{ transfer1 with state := state, batchMoved := 99999, pumpRun := state == .running }] }

theorem witness_StopAtGapAndAbort :
    (serving (pumping .running) (ofTransfer 0x24)).serves (ofTransfer 0x24) [] ∧
      (ofTransfer 0x24).carries 0x24 7 [⟨1, 1⟩] ∧ (ofTransfer 0x21).carries 0x21 7 [⟨1, 1⟩] ∧
      (pumping .running).recordLaw = true ∧ (pumping .running).errorFree = true ∧
      ((pumping .running).transfer? 1).map (·.state) = some .running ∧
      ((pumping (.stopping .batchEnd)).transfer? 1).map (·.state) = some (.stopping .batchEnd) ∧
      ((pumping (.held .pumpLost)).transfer? 1).map (·.state) = some (.held .pumpLost) ∧
      ((pumping .idle).transfer? 1).map (·.state.atRest) = some true := by decide

theorem witness_ContinueAndConfirmRunOn :
    let s := pumping (.held .checkpoint)
    (serving s (ofTransfer 0x23)).serves (ofTransfer 0x23) [] ∧ (ofTransfer 0x23).carries 0x23 7 [⟨1, 1⟩] ∧
      (ofTransfer 0x22).carries 0x22 7 [⟨1, 1⟩] ∧ s.errorFree = true ∧ s.recordLaw = true ∧
      (s.transfer? 1).map (·.state) = some (.held .checkpoint) ∧
      ((pumping (.held .gapRequest)).transfer? 1).map (·.state) = some (.held .gapRequest) ∧ 99999 < 100 * 1000 ∧
      (s.context? 9).map (·.state) = some .exchange ∧ s.tank? 1 = some tank1 ∧ s.tank? 3 = some tank3 ∧
      tank1.lowMark * 1000 + (100 * 1000 - 99999) ≤ tank1.content := by decide

def receiving (n : Int) : Request := ask 0x25 6 [(1, 3), (8, n)]
def sounding (n : Int) : Request := ask 0x26 6 [(1, 3), (6, n)]

theorem witness_ReceiveAndSoundKeepTheAccount :
    (serving fleet (receiving 0)).serves (receiving 0) [] ∧ fleet.tank? 3 = some tank3 ∧
      (receiving 0).carries 0x25 6 [⟨1, 3⟩, ⟨8, 0⟩] ∧ (receiving 400000000).carries 0x25 6 [⟨1, 3⟩, ⟨8, 400000000⟩] ∧
      (receiving 400000001).carries 0x25 6 [⟨1, 3⟩, ⟨8, 400000001⟩] ∧
      (sounding 1000000).carries 0x26 6 [⟨1, 3⟩, ⟨6, 1000000⟩] ∧
      (sounding 1000001).carries 0x26 6 [⟨1, 3⟩, ⟨6, 1000001⟩] := by decide

theorem witness_NoticesMaskAndAcknowledge :
    (serving fleet (ask 0x30 0 [])).serves (ask 0x30 0 []) [] ∧ (ask 0x30 0 []).carries 0x30 0 [] ∧
      (ask 0x32 0 [(9, 0)]).carries 0x32 0 [⟨Cause.console.number, 0⟩] ∧
      (ask 0x31 0 [(1, 255)]).carries 0x31 0 [⟨Cause.coupling.number, 255⟩] ∧
      (ask 0x32 0 [(10, 0)]).carries 0x32 0 [⟨10, 0⟩] ∧ (ask 0x31 0 [(0, 0)]).carries 0x31 0 [⟨0, 0⟩] := by decide

theorem witness_EndOfNoticeHoldsTheLine :
    (serving fleet (ask 0x33 0 [])).serves (ask 0x33 0 []) [] ∧ (ask 0x33 0 []).carries 0x33 0 [] := by decide

/-- A node stands at the bow barge, and the strap is still to be made. -/
def remaking : State :=
  { split .lost with
    barges := [barge1, barge2, { barge3 with node := some 21 }]
    lockage := { phase := .remaking, breaks := [1], boatCut := .none, remaining := 1 }
    tow := { TowLine.initial with nodes := [node20, newNode 21 true 1] }
    transfers := [{ transfer1 with state := .running, pumpRun := true }] }

/-- The strap and engine 5 are damaged while a REMAKING is under way. -/
theorem witness_ResetLinksMeetsDamage :
    let s := (remaking.modHeader .couplings 2 fun _ => scarred 11).modHeader .engines 5 fun _ => scarred 15
    s.errorFree = true ∧ s.recordLaw = true ∧ s.crossingRemaining ≠ 0 ∧
      (s.coupling? 2).map (fun c => (c.tending, c.header)) = some (.winch (.barge 101) 1, scarred 11) ∧
      (s.nodeOf (.barge 101)).isSome = true ∧ s.bowBarge? = some 103 := by decide

theorem witness_ResetLinksStartsTheLinksAfresh :
    (serving remaking (ask 0x40 0 [])).serves (ask 0x40 0 []) [] ∧ (ask 0x40 0 []).carries 0x40 0 [] ∧
      remaking.tow.nodes ≠ [] ∧ remaking.errorFree = true ∧ remaking.recordLaw = true ∧
      remaking.crossingRemaining ≠ 0 ∧ remaking.bowBarge? = some 103 ∧ (remaking.nodeOf (.barge 103)).isSome = true ∧
      (remaking.nodeOf (.barge 101)).isSome = true ∧ (remaking.link.contexts.map (·.address)).Nodup ∧
      (remaking.link.contexts.map fun c => (c.kind, c.state)) =
        [(.engine, .exchange), (.rudder, .exchange), (.meter, .exchange), (.pump, .exchange)] ∧
      (remaking.transfer? 1).map (·.state) = some .running := by decide

theorem witness_ClearStoreEmptiesTheTables :
    (serving fleet (ask 0x41 0 [])).serves (ask 0x41 0 []) [] ∧ (ask 0x41 0 []).carries 0x41 0 [] ∧
      fleet.errorFree = true ∧ (∀ e ∈ fleet.engines, e.header.damaged = false → e.sent = 0) ∧
      (∀ t ∈ fleet.transfers, t.header.damaged = false → t.state.inFlight = false) ∧
      (∃ t ∈ (pumping .running).transfers, t.header.damaged = false ∧ t.state.inFlight = true) := by decide

/-- The silence timer runs; its transaction is granted. -/
def watching : State :=
  { fleet with console := { fleet.console with silence := some { start := 0, period := 1000000 } } }
def silenced : State :=
  State.ask { fleet with console := { fleet.console with askedSilence := true } } .console

theorem witness_ConsoleSilenceStagesZero :
    watching.console.silence = some { start := 0, period := 1000000 } ∧ silenced.granted .console = true ∧
      silenced.console.askedSilence = true ∧ silenced.errorFree = true ∧ silenced.recordLaw = true ∧
      (let s := State.ask { battered with console := { fleet.console with askedSilence := true } } .console
       s.granted .console = true ∧ s.errorFree = true ∧ s.recordLaw = true) := by decide

/-- The Patrol stands behind a place, with its visit granted. -/
def patrolling (s : State) (t : Tbl) (place : Nat) : State :=
  State.ask { s with patrol := { position := some (t, place), start := 0 } } .patrol

theorem witness_PatrolRepairsWhatItVisits :
    (State.reset.ask .patrol).granted .patrol = true ∧ (State.reset.ask .patrol).soundRound = [] ∧
      (let s := patrolling (struck [38]) .barges 2
       s.granted .patrol = true ∧ (s.soundBehind ++ s.soundRound).head? = some (.barges, 3, 103) ∧
        7 ∈ wordsOf .barges ∧ s.header? .barges 103 = some { damaged := false, bad := [(7, 38)] }) ∧
      (let s := patrolling (struck []) .transfers 1
       s.soundBehind = [] ∧ s.soundRound.head? = some (.barges, 1, 101) ∧ s.header? .barges 101 = some clean) := by
  decide

theorem witness_PatrolFindsDamage :
    ∀ p ∈ ([(.barges, 2, 3, 103, 7), (.couplings, 0, 1, 1, 15), (.engines, 1, 5, 5, 11), (.transfers, 0, 1, 1, 20)] :
        List (Tbl × Nat × Nat × Nat × Nat)),
      let bad : List (Nat × Nat) := [(p.2.2.2.2, 0), (p.2.2.2.2, 38)]
      let s := patrolling (fleet.modHeader p.1 p.2.2.2.1 fun h => { h with bad := bad }) p.1 p.2.1
      s.granted .patrol = true ∧ (s.soundBehind ++ s.soundRound).head? = some (p.1, p.2.2.1, p.2.2.2.1) ∧
        s.header? p.1 p.2.2.2.1 = some { clean with bad := bad } ∧ p.2.2.2.2 ∈ wordsOf p.1 ∧
        s.lockage.phase = .whole ∧ s.recordLaw = true ∧
        (s.modHeader p.1 p.2.2.2.1 fun h => { h with bad := [] }).errorFree = true := by decide

/-- R15: a visit counts every word with one bad bit and leaves a word that it finds damaged as it is. -/
theorem test_patrol_visit :
    let s (bad : List (Nat × Nat)) : State :=
      patrolling (fleet.modHeader .barges 103 fun h => { h with bad := bad }) .barges 2
    after .patrolVisit (s [(4, 1), (7, 2)]) (fun t =>
        t.status.corrected = 2 ∧ t.header? .barges 103 = some clean) ∧
      after .patrolVisit (s [(4, 1), (4, 2), (7, 2)]) (fun t =>
        t.status.corrected = 1 ∧ t.status.damagedEvents = 1 ∧
          t.header? .barges 103 = some { damaged := true, bad := [(4, 1), (4, 2), (7, 2)] }) := by decide +kernel

theorem witness_StatusCallVisitsTheNextNode :
    fleet.tow.phase = .ready ∧ fleet.tow.faults = [] ∧ fleet.tow.rateChange = none ∧ fleet.tow.sweep = none ∧
      fleet.tow.nodes.find? (fun n => decide (fleet.tow.round < n.address)) = some node20 := by decide

def reading : LineReply := replied 127 20 0x11 [1, 0x0F, 0xFF, 1]

theorem witness_StatusReplyAsksForPosting :
    let s := fleet.towPhase (.statusCall 20)
    s.tow.phase = .statusCall 20 ∧ s.tow.discard = false ∧ s.node? 20 = some node20 ∧ node20.bow = false ∧
      node20.winches = 1 ∧ reading.payload = [1, 0x0F, 0xFF, 1] ∧ 0x0F * 256 + 0xFF ≤ 4095 ∧
      reading.good 1000 127 20 0x11 4 := by decide +kernel

/-- The node 20 as a BOW node of four winches, and its reply at the ends of its ranges. -/
def bowReading : LineReply :=
  replied 127 20 0x11 [4, 0x0F, 0xFF, 1, 0, 0, 0, 0, 1, 1, 0, 0, 0, 0x80, 0, 1]

theorem witness_BowStatusReply :
    let n := newNode 20 true 4
    let s := { fleet with tow := { fleet.tow with phase := .statusCall 20, nodes := [n] } }
    let winches : List (Byte × Byte × Bool) := [(0x0F, 0xFF, true), (0, 0, false), (0, 1, true), (0, 0, false)]
    s.tow.discard = false ∧ s.node? 20 = some n ∧ n.winches = winches.length ∧ n.winches ≤ 4 ∧
      (∀ w ∈ winches, w.1.toNat * 256 + w.2.1.toNat ≤ 4095) ∧
      bowReading.payload = byte n.winches :: (winches.flatMap fun w => [w.1, w.2.1, if w.2.2 then 1 else 0]) ++
        [0x80, 0, 1] ∧ bowReading.good 1000 127 20 0x11 16 := by
  refine ⟨by decide, by decide, by decide, by decide, by simp, by decide, ?_⟩
  exact replied_good 1000 127 20 0x11 _

theorem witness_MissesAreCountedAndTheThirdDrops :
    (fleet.towPhase (.statusCall 20)).node? 20 = some node20 ∧ node20.misses < 2 ∧
      (fleet.towPhase (.presence 126)).tow.phase = .presence 126 := by decide

/-- A reading of the wire, which stands in a state with a tend order and whose debounce time has just passed. -/
def postedTo (state : CouplingState) (order : TendOrder) (t : Nat) (seated : Bool) : State :=
  let c : Coupling :=
    { wire with state := state, tendOrder := order, debounce := if state = .settling then some 0 else none }
  towGrant { fleet with couplings := [c, ratchet], clock := 2000000 } (.posting 20 [(t, seated)] none)

theorem witness_PostingMovesACoupling :
    let meets (state : CouplingState) (order : TendOrder) (t : Nat) (seated : Bool) : Bool :=
      let s := postedTo state order t seated
      s.granted .towLine && s.tow.phase == .posting 20 [(t, seated)] none && s.node? 20 == some node20 &&
        s.bound 20 == some (.barge 101) && s.bowBarge?.map Member.barge != some (.barge 101) && s.errorFree &&
        s.recordLaw && s.lockage.phase == .whole &&
        (s.couplings.filter (·.tendedByWinch (.barge 101) 1)).map (fun c => (c.state, c.header.damaged)) == [(state, false)]
    1 ≤ node20.winches ∧ meets .unlashed .none 0 false ∧ meets .unlashed .make 4095 true ∧
      meets .settling .make 19 true ∧ meets .settling .none 0 false ∧ meets .made .none 400 true ∧
      meets .overload .none 319 true ∧ meets .strained .none 0 false ∧ meets .lost .none 0 true ∧
      meets .lost .release 0 true ∧ meets .lost .release 0 false ∧ meets .lost .make 0 true ∧ meets .lost .make 0 false ∧
      meets .releasing .release 0 true ∧ meets .releasing .release 0 false := by decide +kernel

/-- A reading of the strap in a lockage phase. -/
def strapReading (phase : Phase) (state : CouplingState) (seated : Bool) : State :=
  towGrant { split state with lockage := { phase := phase, breaks := [1], boatCut := .none, remaining := 1 } }
    (.posting 20 [(100, seated)] none)

theorem witness_PostingEndsTheLockage :
    let meets (phase : Phase) (state : CouplingState) (seated : Bool) : Bool :=
      let s := strapReading phase state seated
      s.granted .towLine && s.lockage.phase == phase && s.errorFree && s.recordLaw && s.bound 20 == some (.barge 101) &&
        s.couplings.filter (·.tendedByWinch (.barge 101) 1) == [strap state true]
    meets .breaking .releasing false ∧ meets .breaking .releasing true ∧ meets .remaking .made true ∧
      meets .remaking .unlashed true := by decide

/-- R183: the posting that unlashes the last crossing coupling ends BREAKING, and one that makes it ends REMAKING. -/
theorem test_posting_ends_the_lockage :
    after .postingTransaction (strapReading .breaking .releasing false) (fun t =>
        t.lockage.phase = .split ∧ t.lockage.remaining = 0 ∧ (t.notices.get .lockage).count = 1) ∧
      after .postingTransaction (strapReading .breaking .releasing true) (fun t =>
        t.lockage.phase = .breaking ∧ t.lockage.remaining = 1) ∧
      after .postingTransaction (strapReading .remaking .made true) (fun t =>
        t.lockage = .initial ∧ (t.notices.get .lockage).count = 1) := by decide +kernel

/-- The engine 5 in a state, its node posting a report or, as a node of kind WINCH, none. -/
def bowPosting (state : UnitState) (report : Option (Int × Bool)) : State :=
  towGrant { fleet with
    barges := [barge1, barge2, { barge3 with node := some 21 }]
    engines := [engine1, { engine5 with state := state }]
    tow := { TowLine.initial with nodes := [node20, newNode 21 report.isSome 1] } } (.posting 21 [(0, false)] report)

theorem witness_PostingAnswersForTheBow :
    ∀ state ∈ [UnitState.offline, .running, .rejected], ∀ report ∈ [none, some ((-1000 : Int), true)],
      let s := bowPosting state report
      s.granted .towLine = true ∧ s.node? 21 = some (newNode 21 report.isSome 1) ∧ s.bound 21 = some (.barge 103) ∧
        s.bowBarge? = some 103 ∧ s.engine? 5 = some { engine5 with state := state } ∧ s.errorFree = true ∧
        s.recordLaw = true ∧ (∀ c ∈ s.couplings, c.tendedBy (.barge 103) = false) ∧
        (let d := s.modHeader .engines 5 fun _ => scarred 15
         d.engine? 5 = some { engine5 with state := state, header := scarred 15 } ∧ d.errorFree = true) := by decide

/-- R11, R144: a REJECTED engine 5 has its state written again, which renews the word; no NODE is raised. -/
theorem test_rejected_bow_is_written_again :
    let s := (bowPosting .rejected none).modHeader .engines 5 fun h => { h with bad := [(15, 3)] }
    after .postingTransaction s (fun t =>
      t.header? .engines 5 = some clean ∧ (t.notices.get .node).count = 0 ∧ t.status.corrected = 1) := by decide +kernel

/-- R79: the wire makes the MADE group at the debounce time, parts when it comes off, and heaves when it returns. -/
theorem test_reading_moves :
    after .postingTransaction (postedTo .settling .make 400 true) (fun t =>
        t.couplings.head?.map (fun c => (c.state, c.tendOrder)) = some (.overload, .none) ∧
          t.tow.nodes.head?.map (·.slots.map (·.map (·.command))) = some [some (.ease 320)]) ∧
      after .postingTransaction (postedTo .slack .none 400 false) (fun t =>
        t.couplings.head?.map (·.state) = some .lost ∧
          t.tow.nodes.head?.map (·.slots.map (·.map (·.command))) = some [some .stop]) := by decide +kernel

/-- Winch 2 of the node 20 holds a command. -/
def holding (failures : Nat) : Slot := { command := .heave 60, stamp := 4, failures := failures }
def twoWinches (failures : Nat) (p : TowPhase) : State :=
  towGrant { fleet with tow := { fleet.tow with
    nodes := [{ node20 with winches := 2, slots := [none, some (holding failures)] }] } } p

theorem witness_DeliveryCarriesHeldCommands :
    (twoWinches 2 .ready).node? 20 = some { node20 with winches := 2, slots := [none, some (holding 2)] } ∧
      (twoWinches 2 (.enquiryDue 20)).tow.phase = .enquiryDue 20 ∧
      (twoWinches 2 (.commandDue 20)).tow.phase = .commandDue 20 ∧
      (twoWinches 1 (.enquiry 20 [(2, 4)])).tow.phase = .enquiry 20 [(2, (holding 1).stamp)] ∧
      (twoWinches 1 (.commanding 20 [(2, 4)])).tow.phase = .commanding 20 [(2, (holding 1).stamp)] ∧
      (twoWinches 1 .ready).tow.discard = false ∧ (replied 127 20 0x13 []).good 1000 127 20 0x13 0 := by
  decide +kernel

/-- Winch 1 of the node 20 holds a command that has failed. -/
def failing (failures : Nat) (p : TowPhase) : State :=
  towGrant { fleet with tow := { fleet.tow with
    nodes := [{ node20 with slots := [some (holding failures)] }]
    faults := [{ member := .barge 101, winch := 1 }] } } p

theorem witness_WinchFaultsFollowDeliveries :
    let s := failing 3 (.delivering 20 [])
    s.granted .towLine = true ∧ s.errorFree = true ∧ s.lockage.phase = .whole ∧
      s.couplings.filter (·.tendedByWinch (.barge 101) 1) = [wire] ∧ s.coupling? 1 = some wire ∧
      s.node? 20 = some { node20 with slots := [some (holding 3)] } ∧ s.bound 20 = some (.barge 101) ∧
      (failing 2 (.delivering 20 [1])).tow.phase = .delivering 20 [1] ∧
      (towGrant fleet (.delivering 20 [1])).node? 20 = some node20 ∧ node20.slots = [none] ∧
      (failing 0 .faulting).tow.phase = .faulting ∧
      (failing 0 .faulting).tow.faults = [{ member := .barge 101, winch := 1 }] := by decide

/-- The fault owed of a winch is set also when its node has gone since; the accepted command clears the flag. -/
theorem test_owed_faults :
    let flags (fs : List Bool) (t : State) : Bool := t.couplings.map (·.winchFault) = fs
    after .winchFaultTransaction (failing 0 .faulting) (flags [true, false]) ∧
      after .winchFaultTransaction ((failing 0 .faulting).modTow fun t => { t with nodes := [] }) (flags [true, false]) ∧
      after .deliveryTransaction { towGrant fleet (.delivering 20 [1]) with
        couplings := [{ wire with winchFault := true }, ratchet] } (flags [false, false]) := by decide +kernel

/-- The Controller is at the end of a round, with the pointer at an address. -/
def pointing (pointer : Nat) (sweep : Option Nat) : State :=
  { fleet with tow := { fleet.tow with pointer := pointer, round := 20, sweep := sweep, visitLast := true } }

theorem witness_PresenceCallTakesTheNextUnlistedAddress :
    (pointing 20 none).tow.phase = .ready ∧ (pointing 20 none).tow.faults = [] ∧
      (pointing 20 none).tow.rateChange = none ∧ (pointing 20 none).tow.sweep = none ∧
      (∀ n ∈ (pointing 20 none).tow.nodes, n.address ≤ (pointing 20 none).tow.round) ∧
      (pointing 20 none).tow.pointer = 20 ∧ (∀ n ∈ (pointing 20 none).tow.nodes, n.address ≠ 21) ∧
      (∀ x, x ≤ 126 → 20 ≤ x → x < 21 → ∃ n ∈ (pointing 20 none).tow.nodes, n.address = x) ∧
      (pointing 20 (some 21)).tow.sweep = some 21 ∧ (pointing 20 (some 21)).tow.visitLast = true ∧
      (pointing 126 (some 1)).tow.phase = .ready ∧ (pointing 126 (some 1)).tow.faults = [] ∧
      (pointing 126 (some 1)).tow.rateChange = none ∧ (pointing 126 (some 1)).tow.pointer = 126 ∧
      (pointing 126 (some 1)).tow.sweep = some 1 ∧ (pointing 126 (some 1)).tow.visitLast = true ∧
      (∀ n ∈ (pointing 126 (some 1)).tow.nodes, n.address ≠ 126) := by decide

/-- A list of 32 nodes. -/
def fullList : State :=
  { fleet with tow := { fleet.tow with nodes := (List.range 32).map fun a => newNode (a + 1) false 1 } }

theorem witness_PresenceReplyEntersOrTurnsAway :
    (fleet.towPhase (.presence 126)).tow.phase = .presence 126 ∧ fleet.tow.nodes.length < 32 ∧
      32 ≤ fullList.tow.nodes.length ∧ (replied 127 126 0x17 [2, 4]).payload = [2, 4] ∧
      (replied 127 126 0x17 [2, 4]).good 1000 127 126 0x17 2 := by decide +kernel

/-- The wire is MADE and its node is about to be dropped. -/
def dropping : State :=
  towGrant { fleet with couplings := [{ wire with state := .made, tension := some 60, seated := some true }, ratchet] }
    (.dropping 20)

theorem witness_DropLosesTheCoupling :
    dropping.granted .towLine = true ∧ dropping.node? 20 = some node20 ∧ dropping.bound 20 = some (.barge 101) ∧
      dropping.bowBarge?.map Member.barge ≠ some (.barge 101) ∧ dropping.errorFree = true ∧
      dropping.couplings.filter (·.tendedBy (.barge 101)) =
        [{ wire with state := .made, tension := some 60, seated := some true }] := by decide

/-- The bow unit runs and its node, which serves a wire, is about to be dropped. -/
def bowDropping : State :=
  let face : Coupling := { wire with endB := 103, tending := .winch (.barge 103) 1, state := .made }
  { bowPosting .running (some (0, false)) with couplings := [face] }.towPhase (.dropping 21)

theorem witness_DropStopsTheBowUnit :
    bowDropping.granted .towLine = true ∧ bowDropping.tow.phase = .dropping 21 ∧
      bowDropping.bound 21 = some (.barge 103) ∧ bowDropping.bowBarge?.map Member.barge = some (.barge 103) ∧
      bowDropping.recordLaw = true ∧ bowDropping.errorFree = true ∧
      (bowDropping.couplings.filter (·.tendedBy (.barge 103))).map (fun c => (c.number, c.state)) = [(1, .made)] ∧
      (let s := bowDropping.modHeader .engines 5 fun _ => scarred 17
       s.recordLaw = true ∧ s.errorFree = true) := by
  decide

/-- A new line rate waits to be announced. -/
def retuning : State := { fleet with tow := { fleet.tow with rateChange := some 192 } }

theorem witness_LineRateIsAnnouncedTwice :
    retuning.tow.phase = .ready ∧ retuning.tow.rateChange = some 192 := by decide

/-- An AMEND of a policy field. -/
def ordering (field : Nat) (v : Nat) : Request := ask 0x04 8 [(field, v)]

/-- The boat has a node, and the wire is tended by the boat. -/
def boatTended (state : CouplingState) : State :=
  { fleet with
    policy := { fleet.policy with boatNode := 126 }
    couplings := [{ wire with tending := .winch .boat 1, tension := some 5, state := state }] }

theorem witness_PolicyFieldsAreAmended :
    (∀ f ∈ policyFields, (ordering f.1 f.2.2.1).carries 0x04 8 [⟨f.1, f.2.2.1⟩] ∧
        (ordering f.1 f.2.1).carries 0x04 8 [⟨f.1, f.2.1⟩] ∧
        (ordering f.1 (f.2.2.1 + 1)).carries 0x04 8 [⟨f.1, f.2.2.1 + 1⟩]) ∧
      (∀ v ∈ ([0, 60, 61] : List Nat), (ordering 16 v).carries 0x04 8 [⟨16, v⟩]) ∧
      (∀ v ∈ ([0, 20, 125] : List Nat), (ordering 15 v).carries 0x04 8 [⟨15, v⟩]) ∧
      (∃ b ∈ fleet.barges, b.node = some 20) ∧ (∀ b ∈ fleet.barges, b.node ≠ some 125) ∧
      (∃ c ∈ (boatTended .lost).couplings, c.tendedBy .boat = true ∧ c.presents ≠ .unlashed) ∧
      (∀ c ∈ (boatTended .unlashed).couplings, c.tendedBy .boat = true → c.presents = .unlashed) ∧
      (∀ n ∈ (boatTended .unlashed).tow.nodes, n.address ≠ 125 ∧ n.address ≠ 126) ∧
      (boatTended .unlashed).errorFree = true ∧ (boatTended .unlashed).recordLaw = true := by decide

theorem witness_TowLineRateIsAmended :
    let s := serving { fleet with tow := { fleet.tow with phase := .statusCall 20 } } (ordering 14 192)
    s.serves (ordering 14 192) [] ∧ (ordering 14 192).carries 0x04 8 [⟨14, 192⟩] ∧
      (ordering 14 1535).carries 0x04 8 [⟨14, 1535⟩] ∧ (ordering 14 1536).carries 0x04 8 [⟨14, 1536⟩] ∧
      s.policy.towLineRate = 1536 ∧ (∀ c ∈ s.couplings, c.winchTended = true → c.presents = .unlashed) ∧
      (∃ c ∈ lostWire.couplings, c.winchTended = true ∧ c.presents ≠ .unlashed) ∧ s.recordLaw = true ∧
      s.errorFree = true ∧ s.tow.nodes = [node20] ∧ s.tow.faults = [] ∧ s.advanceCycle = s ∧
      s.lockage.phase ≠ .remaking ∧
      ({ rejoining [1] with couplings := [strap .unlashed true] } : State).crossingRemaining = 1 := by decide

/-- R71: a change of rate empties the list, abandons the exchange under way and leaves the rate to be announced. -/
theorem test_rate_change_empties_the_list :
    after .amend (serving { fleet with tow := { fleet.tow with phase := .statusCall 20 } } (ordering 14 192)) (fun t =>
      t.tow.nodes = [] ∧ t.tow.rateChange = some 192 ∧ t.tow.phase = .ready ∧ (t.notices.get .node).count = 1) := by
  decide +kernel

def outputs : OutputSet := { cycleCount := 4294967295, stepNumber := 255, orders := [(1, -1000), (5, 0)], angles := [(1, 20)] }

/-- The link as an expiry has left it: a fresh output set and no cycle. -/
def fresh : State := { fleet with link := { fleet.link with latest := some outputs, fresh := true } }

theorem witness_CycleTimerAndCycleStart :
    fresh.link.cycle = none ∧ fresh.link.fresh = true ∧ fresh.link.latest = some outputs := by decide

/-- The slot of a context has come. -/
def inSlot (c : Context) : State :=
  { fleet with clock := 1000000, link := { fleet.link with
    contexts := [c], cycle := some { copy := outputs, slots := [c.address] } } }

theorem witness_SlotsSendTheFrameOfTheState :
    let e := context 1 .engine 1 (.engine 300)
    let r := context 2 .rudder 1 (.rudder 350 50)
    let p := { context 9 .pump 1 (.factor 100000) with state := .offline }
    (inSlot e).link.cycle = some { copy := outputs, slots := [1] } ∧ (inSlot e).link.exchange = none ∧
      (inSlot e).context? 1 = some e ∧ e.state = .exchange ∧ outputs.orders.find? (·.1 == e.key) = some (1, -1000) ∧
      outputs.orders.find? (·.1 == 2) = none ∧ outputs.angles.find? (·.1 == r.key) = some (1, 20) ∧
      outputs.angles.find? (·.1 == 2) = none ∧ (inSlot r).context? 2 = some r ∧ (inSlot meter6).context? 6 = some meter6 ∧
      (inSlot p).transfer? p.key = some transfer1 ∧ p.parameters = .factor 100000 ∧ p.retry = some 0 ∧
      (inSlot p).context? 9 = some p ∧ 1000000 ≤ (inSlot p).clock - 0 := by decide

/-- An exchange is under way with a context. -/
def exchanging (address : Nat) (held : ContextState) : State :=
  { fleet with link := { fleet.link with exchange := some { address := address, held := held, stale := false } } }

theorem witness_AnswersEndTheSlot :
    (exchanging 6 .exchange).link.exchange = some { address := 6, held := .exchange, stale := false } ∧
      (exchanging 6 .exchange).context? 6 = some meter6 ∧
      (replied 32 6 0x47 [0xFF, 0xFF, 0x80, 0]).good 400 32 6 0x47 4 ∧ (replied 32 6 0x42 []).good 400 32 6 0x42 0 ∧
      (replied 32 6 0x43 []).good 400 32 6 0x43 0 ∧ (replied 32 6 0x45 [3, 1]).good 400 32 6 0x45 2 := by
  decide +kernel

theorem witness_InputsOfEveryKind :
    (fleet.context? 1).map (·.kind) = some .engine ∧ (replied 32 1 0x47 [0x80, 0, 2]).good 400 32 1 0x47 3 ∧
      (fleet.context? 2).map (·.kind) = some .rudder ∧ (replied 32 2 0x47 [3, 0x85]).good 400 32 2 0x47 2 ∧
      (fleet.context? 9).map (·.kind) = some .pump ∧ (replied 32 9 0x47 [0, 0, 0, 0, 1]).good 400 32 9 0x47 5 ∧
      (let s := { fleet with link := { fleet.link with contexts := [context 7 .gauge 1 (.gauge 1000)] } }
       (s.context? 7).map (·.kind) = some .gauge ∧ (replied 32 7 0x47 [0, 6, 0x1A, 0x81]).good 400 32 7 0x47 4) := by
  decide +kernel

/-- One result waits and its posting is granted. -/
def posting (c : Context) (outcome : SlotOutcome) : State :=
  State.ask { fleet with link := { fleet.link with
    contexts := [c]
    results := [{ address := c.address, held := c.state, outcome := outcome, stale := false }] } } .machinery

theorem witness_PostingAppliesAResult :
    let e := context 1 .engine 1 (.engine 300)
    let configuring := { e with state := .configure }
    let missing := { e with misses := 2 }
    (posting configuring (.configuration 1 1)).granted .machinery = true ∧
      (posting configuring (.configuration 1 1)).errorFree = true ∧
      (posting configuring (.configuration 1 1)).context? 1 = some configuring ∧
      (posting missing .miss).context? 1 = some missing ∧
      (posting meter6 (.input (.meter 65535 none))).context? 6 = some meter6 ∧
      ((posting missing .miss).link.contexts.map (·.address)).Nodup := by decide

theorem witness_PostingAppliesEveryOutcome :
    let c := context 2 .rudder 1 (.rudder 350 50)
    let ready (c : Context) (outcome : SlotOutcome) : Bool :=
      let s := posting c outcome
      s.granted .machinery && s.errorFree && s.recordLaw && s.context? c.address == some c
    ready { c with state := .offline } .paramOk ∧ ready { c with state := .parameterize } .paramFault ∧
      ready { c with state := .configure } (.configuration 2 2) ∧ ready { c with state := .configure } .miss ∧
      ready { c with misses := 1 } .miss ∧ ready { c with misses := 2 } .miss ∧
      ready (context 9 .pump 1 (.factor 5000)) (.input (.pump 0 (some 800) true)) ∧ ready c (.input (.rudder 900)) ∧
      ready (context 7 .gauge 1 (.gauge 1000)) (.input (.gauge 400000)) ∧ fleet.rudder? 1 = some rudder1 ∧
      fleet.tank? 1 = some tank1 ∧ fleet.transfer? 1 = some transfer1 ∧ fleet.engine? 1 = some engine1 := by decide

/-- The engine, the channel and the tank of a posting may be damaged, by bits of the words that it writes. -/
theorem witness_PostingMeetsDamage :
    ∀ p ∈ ([(.engines, 1, context 1 .engine 1 (.engine 300)), (.rudders, 1, context 2 .rudder 1 (.rudder 350 50)),
        (.tanks, 1, context 7 .gauge 1 (.gauge 1000))] : List (Tbl × Nat × Context)),
      ∀ c ∈ [{ p.2.2 with misses := 2 }, { p.2.2 with state := .offline }, { p.2.2 with state := .configure }],
        let s := (posting c .miss).modHeader p.1 p.2.1 fun _ => scarred (if p.1 = .rudders then 13 else 15)
        s.granted .machinery = true ∧ s.errorFree = true ∧ s.recordLaw = true ∧ s.context? c.address = some c ∧
          (s.header? p.1 p.2.1).map (·.damaged) = some true := by decide +kernel

theorem witness_PostingDiscardsAResult :
    let result (address : Nat) (held : ContextState) (stale : Bool) : SlotResult :=
      { address := address, held := held, outcome := .paramFault, stale := stale }
    let s (r : SlotResult) : State := State.ask { fleet with link := { fleet.link with results := [r] } } .machinery
    (s (result 2 .exchange true)).link.results = [result 2 .exchange true] ∧ fleet.context? 31 = none ∧
      (s (result 31 .offline false)).granted .machinery = true ∧
      (fleet.context? 2).map (·.state) = some .exchange ∧ (s (result 2 .offline false)).granted .machinery = true := by
  decide

/-- R104: a servo that reports a wrong configuration is REJECTED, with STATION. -/
theorem test_wrong_configuration_is_rejected :
    after .machineryPosting
      (posting { context 2 .rudder 1 (.rudder 350 50) with state := .configure } (.configuration 2 2)) (fun t =>
        t.link.contexts.map (·.state) = [.rejected] ∧ t.rudders.map (·.state) = [.rejected] ∧
          (t.notices.get .station).count = 1) := by decide +kernel

/-- A reading of the meter of engine 1, whose baseline stands just before the wrap. -/
def metered : State :=
  State.ask { fleet with
    link := { fleet.link with contexts := [{ meter6 with baseline := some 65534, residual := 999000000 }] }
    readings := [{ address := 6, count := 1, temperature := some 452, running := false }] } .fuel

theorem witness_ConversionDrawsFromTheSupplyTank :
    metered.granted .fuel = true ∧ metered.errorFree = true ∧ metered.recordLaw = true ∧
      (metered.link.contexts.map (·.address)).Nodup ∧
      metered.context? 6 = some { meter6 with baseline := some 65534, residual := 999000000 } ∧
      metered.policy.expansion ≤ 200 ∧ metered.engine? 1 = some engine1 ∧ engine1.supply = some tank3.number ∧
      metered.tank? 3 = some tank3 ∧
      0 < ((1500 * 1000000 - 1500 * 83 * (452 - 150) + 999000000 : Int) / 1000000000).toNat ∧ 2 ≤ tank3.content := by
  decide

/-- A reading of the meter of engine 1 with a baseline, a temperature, a last temperature and a content of tank 3. -/
def metering (baseline : Option Nat) (t last : Option Int) (content : Nat) : State :=
  State.ask { fleet with
    tanks := [tank1, { tank3 with content := content, low := true }]
    link := { fleet.link with contexts := [{ meter6 with baseline := baseline, lastTemperature := last }] }
    readings := [{ address := 6, count := 20, temperature := t, running := false }] } .fuel

/-- With and without a baseline, a temperature and a last temperature, at the ends of their ranges; an empty tank, one
that holds less than the draw, and damaged records. -/
theorem witness_ConversionMeetsEveryCase :
    (∀ b ∈ [none, some 0, some (20 : Nat), some 65535], ∀ t ∈ [none, some (-201), some (801 : Int)],
      ∀ last ∈ [none, some (-200), some (800 : Int)], ∀ content ∈ [0, 5],
        let s := metering b t last content
        s.granted .fuel = true ∧ s.errorFree = true ∧ s.recordLaw = true ∧
          s.context? 6 = some { meter6 with baseline := b, lastTemperature := last }) ∧
      (∀ p ∈ ([(.engines, 1, 19), (.tanks, 3, 6)] : List (Tbl × Nat × Nat)),
        let s := (metering (some 0) none none 5).modHeader p.1 p.2.1 fun _ => scarred p.2.2
        s.errorFree = true ∧ s.recordLaw = true ∧ (s.header? p.1 p.2.1).map (·.damaged) = some true) ∧
      0 < ((20 * 500 * 1000000 : Int) / 1000000000).toNat ∧ ((20 * 500 * 1000000 : Int) / 1000000000).toNat = 10 := by
  decide +kernel

/-- R152, R155 to R157, R162: 20 pulses of 500 µl at 15 °C are 10 ml. A tank of 5 ml gives them with a shortfall of 5 ml
and FUEL; a damaged tank leaves them undebited; a damaged engine's go unposted; a first reading posts nothing. -/
theorem test_meter_readings :
    after .fuelConversion (metering (some 0) none none 5) (fun t =>
        t.tanks.map (fun k => (k.content, k.drawn, k.shortfall)) = [(500000, 0, 0), (0, 10, 5)] ∧
          t.engines.map (·.consumed) = [10, 0] ∧ (t.notices.get .fuel).count = 1) ∧
      after .fuelConversion ((metering (some 0) none none 5).modHeader .tanks 3 fun _ => scarred 6) (fun t =>
        t.tanks.map (·.content) = [500000, 5] ∧ t.engines.map (fun e => (e.consumed, e.undebited)) = [(10, 10), (0, 0)]) ∧
      after .fuelConversion ((metering (some 0) none none 5).modHeader .engines 1 fun _ => scarred 19) (fun t =>
        t.tanks.map (·.content) = [500000, 5] ∧ t.engines.map (·.consumed) = [0, 0] ∧
          t.status.unpostedReadings = 1 ∧ t.status.unpostedPulses = 20) ∧
      after .fuelConversion (metering none (some 900) (some 7) 5) (fun t =>
        t.tanks.map (·.content) = [500000, 5] ∧
          t.link.contexts.map (fun c => (c.baseline, c.lastTemperature)) = [(some 20, some 800)]) := by decide +kernel

/-- Section 1.8: the low mark of a DAY tank is read at every draw, and counted at each of two draws of one
transaction. -/
theorem test_each_draw_counts_a_corrected_word :
    after .fuelConversion (State.ask { (metered.modHeader .tanks 3 fun h => { h with bad := [(4, 0)] }) with
        readings := [{ address := 6, count := 1, temperature := none, running := false },
          { address := 6, count := 11, temperature := none, running := false }] } .fuel)
      (fun t => t.status.corrected = 2 ∧ t.status.damagedEvents = 0) := by decide +kernel

/-- A reading of the pump of transfer 1, 20 pulses of 5 ml on. -/
def pumped (state : TransferState) (running : Bool) (moved quiet : Nat) : State :=
  State.ask { pumping state with
    transfers := [{ transfer1 with
      state := state, batchMoved := moved, totalMoved := moved, pumpRun := state == .running, quiet := quiet }]
    link := { fleet.link with contexts := [{ context 9 .pump 1 (.factor 5000) with baseline := some 65530 }] }
    readings := [{ address := 9, count := 14, temperature := some 150, running := running }] } .fuel

theorem witness_ConversionMovesFuel :
    let s := pumped .running true 99900 0
    s.granted .fuel = true ∧ s.errorFree = true ∧ s.recordLaw = true ∧ (s.link.contexts.map (·.address)).Nodup ∧
      (s.context? 9).map (·.kind) = some .pump ∧
      (s.context? 9).bind (·.baseline) = some 65530 ∧ (s.transfer? 1).map (·.state) = some .running ∧
      s.tank? 1 = some tank1 ∧ s.tank? 3 = some tank3 ∧ tank1.number ≠ tank3.number ∧ 100 ≤ tank1.content ∧
      ((pumped (.stopping .batchEnd) false 100000 1).transfer? 1).map (·.state) = some (.stopping .batchEnd) ∧
      ((pumped .idle false 0 0).transfer? 1).map (·.state.inFlight) = some false := by decide

/-- The posting that fills the batch stops the transfer, and the second quiet reading ends the batch. -/
theorem test_batch_end :
    after .fuelConversion (pumped .running true 99900 0) (fun t =>
        (t.transfer? 1).map (·.state) = some (.stopping .batchEnd) ∧ t.tanks.map (·.content) = [499900, 100100]) ∧
      after .fuelConversion (pumped (.stopping .batchEnd) false 100000 1) (fun t =>
        (t.transfer? 1).map (fun u => (u.batchesDone, u.batchMoved)) = some (1, 0)) := by decide +kernel

/-- The transfer, its source or its destination is damaged, and no pulse has come. -/
theorem witness_ConversionMeetsDamagedTanks :
    (∀ p ∈ ([(.tanks, 1, 3), (.tanks, 3, 6), (.transfers, 1, 12)] : List (Tbl × Nat × Nat)),
      ∀ state ∈ [TransferState.running, .stopping .sourceLow],
        let s := (pumped state false 99900 1).modHeader p.1 p.2.1 fun _ => scarred p.2.2
        s.granted .fuel = true ∧ s.errorFree = true ∧ s.recordLaw = true ∧
          (s.header? p.1 p.2.1).map (·.damaged) = some true) ∧
      (let s := { pumped .running true 99900 0 with
         readings := [{ address := 9, count := 65530, temperature := none, running := true }] }
       s.granted .fuel = true ∧ (s.context? 9).bind (·.baseline) = some 65530) := by decide +kernel

/-- R162, R171, R172: from a damaged source 100 ml are held; RUNNING stops for TANK_DAMAGED, and STOPPING ends in it. -/
theorem test_damaged_source_holds_the_volume :
    let s (state : TransferState) : State := (pumped state false 99800 1).modHeader .tanks 1 fun _ => scarred 3
    after .fuelConversion (s .running) (fun t =>
        t.tanks.map (·.content) = [500000, 100000] ∧
          t.transfers.map (fun u => (u.state, u.heldVolume, u.totalMoved)) = [(.stopping .tankDamaged, 100, 99900)]) ∧
      after .fuelConversion (s (.stopping .tankDamaged)) (fun t =>
        t.transfers.map (fun u => (u.state, u.heldVolume)) = [(.held .tankDamaged, 100)]) := by decide +kernel

theorem witness_ConversionIsExact : (200 : Nat) ≤ 200 ∧ (-200 : Int) ≤ -200 ∧ (800 : Int) ≤ 800 := by decide

/-- The cycle computation is granted, with a step waiting. -/
def computing : State := State.ask { fleet with status := { fleet.status with stepWaiting := true } } .coordination

theorem witness_CycleComputationWritesItsResults :
    computing.granted .coordination = true ∧ computing.errorFree = true ∧ computing.recordLaw = true ∧
      computing.lockage.phase = .whole ∧ computing.barges ≠ [] := by decide

/-- Each of the cases of R123 stands in some such state. -/
theorem witness_CycleComputationOutsideWhole :
    let s (cut : BoatCut) : State := State.ask { split .lost with
      lockage := { (split .lost).lockage with boatCut := cut } } .coordination
    (s (.cut 1)).granted .coordination = true ∧ (s (.cut 1)).errorFree = true ∧ (s (.cut 1)).recordLaw = true ∧
      (s .conflict).lockage.boatCut = .conflict ∧ (s .none).lockage.boatCut = .none ∧
      (s (.cut 1)).cut? 101 = some 1 ∧ State.reset.barges = [] := by decide

theorem witness_SlewNeverPassesTheAllowedOrder :
    computing.granted .coordination = true ∧ computing.errorFree = true ∧ computing.recordLaw = true ∧
      engine1 ∈ computing.engines ∧ engine1.state = .running ∧ engine1.header.damaged = false := by decide

theorem witness_TensionDecidesTheState :
    10 ≤ ({ wire with rated := 10 } : Coupling).rated ∧ ({ Policy.default with strainLimit := 950 }).strainLimit ≤ 950 ∧
      500 ≤ Policy.default.strainLimit ∧ ({ Policy.default with slackLimit := 300 }).slackLimit ≤ 300 := by decide

/-- A step from the small part keeps every law, with the cycle computation at the front. -/
theorem witness_StepsKeepTheLaws :
    computing.portLaw = true ∧ computing.rosterLaw = true ∧ computing.recordLaw = true ∧ computing.lockageLaw = true ∧
      computing.orderLaw = true ∧ computing.tankLaw = true ∧ computing.pumpLaw = true ∧ computing.thrustLaw = true ∧
      computing.nodeLaw = true ∧ ∃ t, step { computing with pending := [.cycleComputation] } = .next t :=
  ⟨by decide, by decide, by decide, by decide, by decide, by decide, by decide, by decide, by decide, _, rfl⟩

end Sys2Proof.Tests
end

section
/-! The record store after either reset (R19). -/
namespace Sys2Proof.Machine

theorem exec_powerOnReset (s : State) : exec .powerOnReset s = .next s.resetPart := rfl

theorem exec_resetPin (s : State) : exec .resetPin s = .next s.resetPart := rfl

/-- R19, Store: no slot of a table is occupied, so no store word holds an error. -/
theorem State.resetPart_tables_empty (s : State) :
    s.resetPart.barges = [] ∧ s.resetPart.couplings = [] ∧ s.resetPart.engines = [] ∧ s.resetPart.rudders = [] ∧
      s.resetPart.tanks = [] ∧ s.resetPart.transfers = [] := ⟨rfl, rfl, rfl, rfl, rfl, rfl⟩

theorem State.resetPart_strings (s : State) : s.resetPart.strings = [0, 0, 0, 0, 0, 0] := rfl

@[simp] theorem State.resetPart_arbiter (s : State) : s.resetPart.arbiter = .initial := rfl

/-- R19, Patrol: its timer is started at the reset, and it lies before the first barge place. -/
theorem State.resetPart_patrol (s : State) :
    s.resetPart.patrol = { position := none, start := s.resetPart.clock } := rfl

@[simp] theorem State.resetPart_policy (s : State) : s.resetPart.policy = .default := rfl

@[simp] theorem State.resetPart_status (s : State) : s.resetPart.status = .zero := rfl

/-- R10, R19: the waiting set is empty, the Patrol's request included. -/
@[simp] theorem Arbiter.waits_initial (r : Requester) : Arbiter.initial.waits r = false := by
  cases r <;> rfl

@[simp] theorem Arbiter.pointer_initial : Arbiter.initial.pointer = .console := rfl

/-- Settles O4: both resets lead to `s.resetPart`, whose parts the lemmas above give; the figures of the policy and
of the tow status are those of `Policy.default` and `TowStatus.zero`. -/
theorem resetStandsAsStated : Obligations.ResetStandsAsStated := by
  intro s
  obtain ⟨barges, couplings, engines, rudders, tanks, transfers⟩ := s.resetPart_tables_empty
  have waits (r : Requester) : s.resetPart.arbiter.waits r = false := by simp
  have pointer : s.resetPart.arbiter.pointer = .console := by simp
  have position : s.resetPart.patrol.position = none := by rw [s.resetPart_patrol]
  have start : s.resetPart.patrol.start = s.resetPart.clock := by rw [s.resetPart_patrol]
  exact ⟨s.resetPart, exec_powerOnReset s, exec_resetPin s,
    barges, s.resetPart_strings, couplings, engines, rudders, tanks, transfers,
    waits, pointer, position, start, s.resetPart_policy, s.resetPart_status⟩

end Sys2Proof.Machine
end

section
/-! The Tow-Line Controller's own frames: when it is ready, and what makes a reply good (R53, R54, R57). -/
namespace Sys2Proof.Machine

/-- R57: a ready Controller owes no winch fault transaction and no change of line rate. -/
theorem State.towReady_iff (s : State) :
    s.towReady = true ↔ s.tow.phase = .ready ∧ s.tow.faults = [] ∧ s.tow.rateChange = none := by
  simp [State.towReady, and_assoc]

/-- R53, R54, R190: a good reply passes the checks that do not depend on its contents. -/
theorem State.towFramed_of_good (s : State) (r : LineReply) (a kind length : Nat) (short : length ≤ Config.maxPayload)
    (good : r.good (replyTimeout s.tow.lineRate) 127 a kind length) : s.towFramed r a kind length = true := by
  obtain ⟨delay, payload, dest, source, check⟩ := good
  simp only [State.towFramed, LineReply.framed, Bool.and_eq_true, decide_eq_true_eq, beq_iff_eq]
  exact ⟨⟨⟨⟨⟨delay, payload ▸ short⟩, payload⟩, dest⟩, source⟩, check⟩

end Sys2Proof.Machine
end

section
/-! The polling cycle: the visit or the newcomer slot that a ready Controller begins (R57, R58, R64, R67). -/
namespace Sys2Proof.Machine

/-! ## The visit (R57, R58) -/

theorem exec_statusCall (s : State) : exec .statusCall s = .next s.statusCall := rfl

/-- The first node above an address is the first of its own address, which is above it too. -/
theorem State.node?_of_first_above (s : State) (round : Nat) (n : Node)
    (first : s.tow.nodes.find? (fun n => decide (round < n.address)) = some n) : s.node? n.address = some n := by
  obtain ⟨above, before, after, hsplit, hbefore⟩ := List.find?_eq_some_iff_append.mp first
  refine List.find?_eq_some_iff_append.mpr ⟨beq_self_eq_true _, before, after, hsplit, fun m hm => ?_⟩
  have hne : m.address ≠ n.address := fun same => by
    have notAbove := hbefore m hm
    rw [same, above] at notAbove
    contradiction
  simpa using hne

theorem TowLine.betweenVisits_eq_false {t : TowLine} (h : t.sweep = none ∨ t.visitLast = false) :
    t.betweenVisits = false := by
  rcases h with h | h <;> simp [TowLine.betweenVisits, h]

theorem TowLine.visitNext_of_first_above {t : TowLine} {n : Node} (between : t.betweenVisits = false)
    (first : t.nodes.find? (fun n => decide (t.round < n.address)) = some n) : t.visitNext = some n.address := by
  simp [TowLine.visitNext, between, first]

/-- R58: the visit of a listed node. -/
theorem State.statusCall_of_visit (s : State) (n : Node) (ready : s.towReady = true)
    (visit : s.tow.visitNext = some n.address) (listed : s.node? n.address = some n) :
    s.statusCall = { s with tow := { s.tow with
      phase := .statusCall n.address, discard := false, round := n.address, visitLast := true
      sent := [LineFrame.bytes { dest := n.address, kind := 0x10, payload := intBytes 2 (s.bowOrder n) } 127] } } := by
  simp only [State.statusCall, ready, if_true, visit, listed, Option.map_some, Option.getD_some]
  rfl

/-- Settles O33: the node visited is the first above the round position, and the order is `s.bowOrder` of it. -/
theorem statusCallVisitsTheNextNode : Obligations.StatusCallVisitsTheNextNode := by
  intro s n phase faults rate noSlot first
  have ready := s.towReady_iff.mpr ⟨phase, faults, rate⟩
  have visit := TowLine.visitNext_of_first_above (TowLine.betweenVisits_eq_false noSlot) first
  have listed := s.node?_of_first_above s.tow.round n first
  rw [exec_statusCall, s.statusCall_of_visit n ready visit listed]
  rfl

/-! ## The newcomer slot (R57, R64, R67) -/

theorem exec_presenceCall (s : State) : exec .presenceCall s = .next s.presenceCall := rfl

/-- R57: a slot is due after a visit of a sweep, at the end of a round without one, and with an empty list. -/
theorem TowLine.visitNext_eq_none {t : TowLine}
    (due : t.sweep = none ∧ (∀ n ∈ t.nodes, n.address ≤ t.round) ∨
      (∃ mark, t.sweep = some mark) ∧ t.visitLast = true ∨ t.nodes = []) : t.visitNext = none := by
  rcases due with ⟨noSweep, roundOver⟩ | ⟨⟨mark, sweep⟩, last⟩ | empty
  · have noneAbove : t.nodes.find? (fun n => decide (t.round < n.address)) = none := by simpa using roundOver
    simp [TowLine.visitNext, noneAbove, noSweep]
  · simp [TowLine.visitNext, TowLine.betweenVisits, sweep, last]
  · simp [TowLine.visitNext, empty]

/-- R64: the rotation runs from the pointer to 126, and then from 1 to the address before the pointer. -/
theorem rotation_eq {p : Nat} (low : 1 ≤ p) (high : p ≤ 126) :
    rotation p = List.range' p (127 - p) ++ List.range' 1 (p - 1) := by
  have all : (List.range 126).map (· + 1) = List.range' 1 (p - 1) ++ List.range' p (127 - p) := by
    have joined := List.range'_append_1 (s := 1) (m := p - 1) (n := 127 - p)
    rw [show 1 + (p - 1) = p by omega, show p - 1 + (127 - p) = 126 by omega] at joined
    rw [joined, List.range'_eq_map_range]
    simp only [Nat.add_comm]
  have below : ∀ x ∈ List.range' 1 (p - 1), x < p := fun x hx => by
    rw [List.mem_range'_1] at hx
    omega
  have above : ∀ x ∈ List.range' p (127 - p), p ≤ x := fun x hx => (List.mem_range'_1.mp hx).1
  have fromPointer : ((List.range 126).map (· + 1)).filter (p ≤ ·) = List.range' p (127 - p) := by
    rw [all, List.filter_append, List.filter_eq_nil_iff.mpr fun x hx => by simpa using below x hx,
      List.filter_eq_self.mpr fun x hx => by simpa using above x hx, List.nil_append]
  have beforePointer : ((List.range 126).map (· + 1)).filter (· < p) = List.range' 1 (p - 1) := by
    rw [all, List.filter_append, List.filter_eq_self.mpr fun x hx => by simpa using below x hx,
      List.filter_eq_nil_iff.mpr fun x hx => by simpa using above x hx, List.append_nil]
  simp only [rotation, Config.lastNodeAddress, fromPointer, beforePointer]

/-- A run of addresses around one of them. -/
theorem range'_split {start count a : Nat} (low : start ≤ a) (high : a < start + count) :
    List.range' start count = List.range' start (a - start) ++ a :: List.range' (a + 1) (start + count - 1 - a) := by
  have joined := List.range'_append_1 (s := start) (m := a - start) (n := start + count - 1 - a + 1)
  rw [show start + (a - start) = a by omega, List.range'_succ,
    show a - start + (start + count - 1 - a + 1) = count by omega] at joined
  exact joined.symm

/-- R64: the rotation around an address `a`: what stands before it lies at or after the pointer and before `a`. -/
theorem rotation_split {p a : Nat} (low : 1 ≤ p) (high : p ≤ 126) (alow : 1 ≤ a) (ahigh : a ≤ 126) :
    ∃ before after, rotation p = before ++ a :: after ∧
      before.length = (if p ≤ a then a - p else 126 - p + a) ∧
      ∀ x ∈ before, 1 ≤ x ∧ x ≤ 126 ∧ (if p ≤ a then p ≤ x ∧ x < a else p ≤ x ∨ x < a) := by
  rw [rotation_eq low high]
  by_cases hpa : p ≤ a
  · rw [range'_split hpa (by omega)]
    refine ⟨List.range' p (a - p), _, List.append_assoc .., by simp [hpa], fun x hx => ?_⟩
    rw [List.mem_range'_1] at hx
    rw [if_pos hpa]
    omega
  · rw [range'_split (count := p - 1) alow (by omega), ← List.append_assoc]
    refine ⟨List.range' p (127 - p) ++ List.range' 1 (a - 1), _, rfl, ?_, fun x hx => ?_⟩
    · rw [List.length_append, List.length_range', List.length_range', if_neg hpa]
      omega
    · rw [List.mem_append, List.mem_range'_1, List.mem_range'_1] at hx
      rw [if_neg hpa]
      omega

/-- R64: a slot passes over the listed addresses from the pointer on, and calls the first that is not listed. -/
theorem TowLine.newcomer_eq {t : TowLine} {a : Nat} (low : 1 ≤ t.pointer) (high : t.pointer ≤ 126) (alow : 1 ≤ a)
    (ahigh : a ≤ 126) (unlisted : ∀ n ∈ t.nodes, n.address ≠ a)
    (listed : ∀ x, 1 ≤ x → x ≤ 126 →
      (if t.pointer ≤ a then t.pointer ≤ x ∧ x < a else t.pointer ≤ x ∨ x < a) → ∃ n ∈ t.nodes, n.address = x) :
    t.passedOver = (if t.pointer ≤ a then a - t.pointer else 126 - t.pointer + a) ∧ t.newcomer = a := by
  obtain ⟨before, after, split, count, between⟩ := rotation_split low high alow ahigh
  have passed : ∀ x ∈ before, t.nodes.any (·.address == x) = true := fun x hx => by
    obtain ⟨xlow, xhigh, xbetween⟩ := between x hx
    simpa using listed x xlow xhigh xbetween
  have stops : ¬ t.nodes.any (·.address == a) = true := by simpa using unlisted
  have passedOver : t.passedOver = before.length := by
    have noMore : (a :: after).takeWhile (fun x => t.nodes.any (·.address == x)) = [] := List.takeWhile_cons_of_neg stops
    rw [TowLine.passedOver, split, List.takeWhile_append_of_pos passed, noMore, List.append_nil]
  exact ⟨passedOver.trans count, by simp [TowLine.newcomer, passedOver, split]⟩

/-- R67: a sweep stands until a slot brings the pointer back to its mark. -/
theorem TowLine.sweptTo_eq (t : TowLine) :
    t.sweptTo = t.sweep.bind fun mark => if toMark t.pointer mark ≤ t.passedOver + 1 then none else some mark := by
  cases h : t.sweep <;> simp [TowLine.sweptTo, h]

theorem nextAddress_eq (a : Nat) : nextAddress a = if a = 126 then 1 else a + 1 := rfl

theorem toMark_eq (pointer mark : Nat) :
    toMark pointer mark = if pointer < mark then mark - pointer else 126 - (pointer - mark) := rfl

/-- R67: the call of the pointer itself brings it back to the mark exactly when the mark follows it. -/
theorem toMark_le_one_iff {pointer mark : Nat} (low : 1 ≤ pointer) (high : pointer ≤ 126) (mlow : 1 ≤ mark)
    (mhigh : mark ≤ 126) : toMark pointer mark ≤ 1 ↔ nextAddress pointer = mark := by
  rw [toMark_eq, nextAddress_eq]
  split_ifs <;> omega

/-- R57, R64, R67: the newcomer slot that calls `a`. -/
theorem State.presenceCall_of_slot (s : State) (a : Nat) (ready : s.towReady = true) (slot : s.tow.visitNext = none)
    (newcomer : s.tow.newcomer = a) :
    s.presenceCall = { s with tow := { s.tow with
      phase := .presence a, discard := false, pointer := nextAddress a, visitLast := false
      round := if s.tow.betweenVisits then s.tow.round else 0
      sweep := s.tow.sweptTo
      sent := [LineFrame.bytes { dest := a, kind := 0x16, payload := [] } 127] } } := by
  simp only [State.presenceCall, ready, slot, newcomer, Option.isNone_none, Bool.and_self, if_true]
  rfl

/-- Settles O39: both clauses are `State.presenceCall_of_slot`; the address called is that of `TowLine.newcomer_eq`,
in the second clause the pointer itself, with no address passed over. -/
theorem presenceCallTakesTheNextUnlistedAddress : Obligations.PresenceCallTakesTheNextUnlistedAddress := by
  constructor
  · intro s a phase faults rate due low high alow ahigh unlisted listed
    have ready := s.towReady_iff.mpr ⟨phase, faults, rate⟩
    obtain ⟨passedOver, newcomer⟩ := TowLine.newcomer_eq low high alow ahigh unlisted listed
    rw [exec_presenceCall, s.presenceCall_of_slot a ready (TowLine.visitNext_eq_none due) newcomer,
      TowLine.sweptTo_eq, passedOver]
    simp only [TowLine.betweenVisits, Bool.and_eq_true]
    rfl
  · intro s mark phase faults rate sweep last mlow mhigh low high unlisted
    have ready := s.towReady_iff.mpr ⟨phase, faults, rate⟩
    have slot := TowLine.visitNext_eq_none (.inr (.inl ⟨⟨mark, sweep⟩, last⟩))
    obtain ⟨passedOver, newcomer⟩ := TowLine.newcomer_eq low high low high unlisted fun x _ _ between => by
      rw [if_pos (Nat.le_refl _)] at between
      omega
    have nonePassed : s.tow.passedOver = 0 := by simpa using passedOver
    have swept : s.tow.sweptTo = if nextAddress s.tow.pointer = mark then none else some mark := by
      simp only [TowLine.sweptTo_eq, sweep, Option.bind_some, nonePassed, Nat.zero_add,
        toMark_le_one_iff low high mlow mhigh]
    have between : s.tow.betweenVisits = true := by simp [TowLine.betweenVisits, sweep, last]
    rw [exec_presenceCall, s.presenceCall_of_slot _ ready slot newcomer, swept, between]
    rfl

/-! ## The answer to a newcomer slot (R65, R66) -/

theorem exec_presenceReply (r : LineReply) (s : State) :
    exec (.presenceReply r) s = .next (settle (s.presenceReply r)) := rfl

theorem presenceContents_node (bow : Bool) (count : Byte) (low : 1 ≤ count.toNat) (high : count.toNat ≤ 4) :
    presenceContents [if bow then 2 else 1, count] = some (bow, count.toNat) := by
  cases bow <;> simp [presenceContents, low, high]

/-- R65: a good PRESENCE REPLY enters the node that it describes, and the exchange ends. -/
theorem State.presenceReply_of_good (s : State) (r : LineReply) (a : Nat) (bow : Bool) (winches : Nat)
    (phase : s.tow.phase = .presence a) (keep : s.tow.discard = false) (framed : s.towFramed r a 0x17 2 = true)
    (contents : presenceContents r.payload = some (bow, winches)) :
    s.presenceReply r = (s.enterNode (newNode a bow winches)).towIdle := by
  simp [State.presenceReply, phase, keep, framed, contents]

/-- R65: the list takes a node while it holds fewer than 32. -/
theorem State.enterNode_of_room (s : State) (n : Node) (room : s.tow.nodes.length < 32) :
    s.enterNode n = s.modTow fun t => { t with nodes := insertByKey (·.address) n t.nodes } := if_pos room

/-- R66: a full list turns the node away. -/
theorem State.enterNode_of_full (s : State) (n : Node) (full : 32 ≤ s.tow.nodes.length) :
    s.enterNode n =
      State.raise { s with status := { s.status with turnedAway := saturate s.status.turnedAway 1 } } .node :=
  if_neg (Nat.not_lt.mpr full)

theorem State.enterNode_discard (s : State) (n : Node) : (s.enterNode n).tow.discard = s.tow.discard := by
  unfold State.enterNode
  split <;> rfl

/-- With nothing to discard, the end of an exchange changes the phase alone. -/
theorem State.towIdle_of_keep (s : State) (keep : s.tow.discard = false) : s.towIdle = s.towPhase .ready := by
  simp only [State.towIdle, State.towPhase, State.modTow, ← keep]

/-- Settles O40: the reply passes the checks, so the node is entered or turned away by the room in the list. -/
theorem presenceReplyEntersOrTurnsAway : Obligations.PresenceReplyEntersOrTurnsAway := by
  intro s r a bow count phase keep payload low high good
  have framed := s.towFramed_of_good r a 0x17 2 (by decide) good
  have contents : presenceContents r.payload = some (bow, count.toNat) := by
    rw [payload, presenceContents_node bow count low high]
  rw [exec_presenceReply, s.presenceReply_of_good r a bow count.toNat phase keep framed contents]
  have kept : (s.enterNode (newNode a bow count.toNat)).tow.discard = false := by rw [State.enterNode_discard, keep]
  rw [State.towIdle_of_keep _ kept]
  constructor
  · intro room
    rw [s.enterNode_of_room _ room]
    rfl
  · intro full
    rw [s.enterNode_of_full _ full]
    rfl

end Sys2Proof.Machine
end

namespace Sys2Proof.Machine
set_option Elab.async false

/-! What the shared operations of a transaction can change in the store: a relation between the state at a grant and
a later one, record by record, which every operation but the entry, amendment and removal of records keeps. -/

/-! ## Changes of records that every law tolerates -/

namespace Engine

/-- R112: the five orders of an engine. -/
def orders (e : Engine) : List Int := [e.staged, e.next, e.live, e.allowed, e.sent]

/-- A change of an engine's figures: its directory fields and rated thrust stand, an order is written 0 or with another
order of the engine, the allowed order stands or becomes 0, and an engine that becomes damaged is sent nothing and stays
damaged. -/
structure Routine (e f : Engine) : Prop where
  number : f.number = e.number
  station : f.station = e.station
  bowBarge : f.bowBarge = e.bowBarge
  meter : f.meter = e.meter
  supply : f.supply = e.supply
  rated : f.rated = e.rated
  meterFactor : f.meterFactor = e.meterFactor
  orders : ∀ o ∈ f.orders, o = 0 ∨ o ∈ e.orders
  sent : f.sent = e.sent ∨ f.sent = 0
  damage : f.header.damaged = true → e.header.damaged = true ∨ f.sent = 0
  allowed : f.allowed = e.allowed ∨ f.allowed = 0
  stays : e.header.damaged = true → f.header.damaged = true

end Engine

/-- A change of a barge's figures. -/
structure Barge.Routine (b c : Barge) : Prop where
  hull : c.hull = b.hull
  string : c.string = b.string
  node : c.node = b.node

/-- A change of a coupling's figures: no crossing flag is set, and no damage mended. -/
structure Coupling.Routine (c d : Coupling) : Prop where
  number : d.number = c.number
  crossing : d.crossing = true → c.crossing = true
  damage : c.header.damaged = true → d.header.damaged = true

/-- A change of a rudder channel's figures. -/
structure Rudder.Routine (r q : Rudder) : Prop where
  channel : q.channel = r.channel

/-- A change of a tank's figures that keeps its account. -/
structure Tank.Routine (t u : Tank) : Prop where
  number : u.number = t.number
  account : (t.header.damaged || t.balanced) = true → (u.header.damaged || u.balanced) = true

/-- A change of a transfer's figures: the pump runs in RUNNING alone. -/
structure Transfer.Routine (t u : Transfer) : Prop where
  number : u.number = t.number
  pump : (!t.pumpRun || t.state == .running) = true → (!u.pumpRun || u.state == .running) = true

theorem Engine.Routine.refl (e : Engine) : e.Routine e :=
  ⟨rfl, rfl, rfl, rfl, rfl, rfl, rfl, fun _ h => .inr h, .inl rfl, .inl, .inl rfl, id⟩
theorem Barge.Routine.refl (b : Barge) : b.Routine b := ⟨rfl, rfl, rfl⟩
theorem Coupling.Routine.refl (c : Coupling) : c.Routine c := ⟨rfl, id, id⟩
theorem Rudder.Routine.refl (r : Rudder) : r.Routine r := ⟨rfl⟩
theorem Tank.Routine.refl (t : Tank) : t.Routine t := ⟨rfl, id⟩
theorem Transfer.Routine.refl (t : Transfer) : t.Routine t := ⟨rfl, id⟩

theorem Engine.Routine.trans {e f g : Engine} (h : e.Routine f) (k : f.Routine g) : e.Routine g where
  number := k.number.trans h.number
  station := k.station.trans h.station
  bowBarge := k.bowBarge.trans h.bowBarge
  meter := k.meter.trans h.meter
  supply := k.supply.trans h.supply
  rated := k.rated.trans h.rated
  meterFactor := k.meterFactor.trans h.meterFactor
  orders o ho := (k.orders o ho).elim .inl (h.orders o)
  sent := by have := h.sent; have := k.sent; grind
  damage hd := by have := k.damage hd; have := h.damage; have := k.sent; grind
  allowed := by have := h.allowed; have := k.allowed; grind
  stays := k.stays ∘ h.stays
theorem Barge.Routine.trans {b c d : Barge} (h : b.Routine c) (k : c.Routine d) : b.Routine d :=
  ⟨k.hull.trans h.hull, k.string.trans h.string, k.node.trans h.node⟩
theorem Coupling.Routine.trans {b c d : Coupling} (h : b.Routine c) (k : c.Routine d) : b.Routine d :=
  ⟨k.number.trans h.number, h.crossing ∘ k.crossing, k.damage ∘ h.damage⟩
theorem Rudder.Routine.trans {b c d : Rudder} (h : b.Routine c) (k : c.Routine d) : b.Routine d :=
  ⟨k.channel.trans h.channel⟩
theorem Tank.Routine.trans {b c d : Tank} (h : b.Routine c) (k : c.Routine d) : b.Routine d :=
  ⟨k.number.trans h.number, k.account ∘ h.account⟩
theorem Transfer.Routine.trans {b c d : Transfer} (h : b.Routine c) (k : c.Routine d) : b.Routine d :=
  ⟨k.number.trans h.number, k.pump ∘ h.pump⟩

/-- Records changed one by one, in the places where they stand. -/
theorem forall₂_update {α : Type} {R : α → α → Prop} (refl : ∀ a, R a a) (p : α → Bool) (f : α → α) (l : List α)
    (h : ∀ a ∈ l, p a = true → R a (f a)) : List.Forall₂ R l (update p f l) := by
  rewrite [update, List.forall₂_map_right_iff, List.forall₂_same]
  intro a ha
  split
  · exact h a ha ‹_›
  · exact refl a

theorem forall₂_comp {α : Type} {R S T : α → α → Prop} (comp : ∀ a b c, R a b → S b c → T a c) {l m n : List α}
    (h : List.Forall₂ R l m) (k : List.Forall₂ S m n) : List.Forall₂ T l n := by
  induction h generalizing n with
  | nil => cases k; exact .nil
  | cons hab _ ih =>
    cases k with
    | cons hbc hrest => exact .cons (comp _ _ _ hab hbc) (ih hrest)

/-! ## Routine changes of the state -/

namespace State

/-- The part of the state that a transaction leaves to the Console Port, the arbiter and the command queue. -/
structure SamePort (s t : State) : Prop where
  pending : t.pending = s.pending
  arbiter : t.arbiter = s.arbiter
  requests : t.console.requests = s.console.requests
  responses : t.console.responses = s.console.responses
  asked : t.console.askedSilence = s.console.askedSilence

/-- A change of the state that keeps every record's place, the roster, the policy, the lockage record and the two limits,
and changes records as their laws tolerate. -/
structure Calm (s t : State) : Prop where
  strings : t.strings = s.strings
  policy : t.policy = s.policy
  lockage : t.lockage = s.lockage
  limitAhead : t.status.limitAhead = s.status.limitAhead
  limitAstern : t.status.limitAstern = s.status.limitAstern
  barges : List.Forall₂ Barge.Routine s.barges t.barges
  couplings : List.Forall₂ Coupling.Routine s.couplings t.couplings
  engines : List.Forall₂ Engine.Routine s.engines t.engines
  rudders : List.Forall₂ Rudder.Routine s.rudders t.rudders
  tanks : List.Forall₂ Tank.Routine s.tanks t.tanks
  transfers : List.Forall₂ Transfer.Routine s.transfers t.transfers

/-- The work of a transaction that enters, amends and removes no record. -/
structure Routine (s t : State) : Prop where
  port : s.SamePort t
  calm : s.Calm t

namespace SamePort

theorem refl (s : State) : s.SamePort s := ⟨rfl, rfl, rfl, rfl, rfl⟩
theorem trans {s t u : State} (h : s.SamePort t) (k : t.SamePort u) : s.SamePort u :=
  ⟨k.pending.trans h.pending, k.arbiter.trans h.arbiter, k.requests.trans h.requests, k.responses.trans h.responses,
    k.asked.trans h.asked⟩

end SamePort

namespace Calm

theorem refl (s : State) : s.Calm s :=
  ⟨rfl, rfl, rfl, rfl, rfl, List.forall₂_same.mpr fun b _ => .refl b, List.forall₂_same.mpr fun b _ => .refl b,
    List.forall₂_same.mpr fun b _ => .refl b, List.forall₂_same.mpr fun b _ => .refl b,
    List.forall₂_same.mpr fun b _ => .refl b, List.forall₂_same.mpr fun b _ => .refl b⟩
theorem trans {s t u : State} (h : s.Calm t) (k : t.Calm u) : s.Calm u where
  strings := k.strings.trans h.strings
  policy := k.policy.trans h.policy
  lockage := k.lockage.trans h.lockage
  limitAhead := k.limitAhead.trans h.limitAhead
  limitAstern := k.limitAstern.trans h.limitAstern
  barges := forall₂_comp (R := Barge.Routine) (S := Barge.Routine) (fun _ _ _ => Barge.Routine.trans) h.barges k.barges
  couplings := forall₂_comp (R := Coupling.Routine) (S := Coupling.Routine) (fun _ _ _ => Coupling.Routine.trans) h.couplings k.couplings
  engines := forall₂_comp (R := Engine.Routine) (S := Engine.Routine) (fun _ _ _ => Engine.Routine.trans) h.engines k.engines
  rudders := forall₂_comp (R := Rudder.Routine) (S := Rudder.Routine) (fun _ _ _ => Rudder.Routine.trans) h.rudders k.rudders
  tanks := forall₂_comp (R := Tank.Routine) (S := Tank.Routine) (fun _ _ _ => Tank.Routine.trans) h.tanks k.tanks
  transfers := forall₂_comp (R := Transfer.Routine) (S := Transfer.Routine) (fun _ _ _ => Transfer.Routine.trans) h.transfers k.transfers

end Calm

namespace Routine

theorem refl (s : State) : s.Routine s := ⟨.refl s, .refl s⟩
theorem trans {s t u : State} (h : s.Routine t) (k : t.Routine u) : s.Routine u :=
  ⟨h.port.trans k.port, h.calm.trans k.calm⟩

end Routine

theorem Calm.of_same {s t : State} (h1 : t.strings = s.strings) (h2 : t.policy = s.policy)
    (h3 : t.lockage = s.lockage) (h4 : t.status.limitAhead = s.status.limitAhead)
    (h5 : t.status.limitAstern = s.status.limitAstern) (h6 : t.barges = s.barges) (h7 : t.couplings = s.couplings)
    (h8 : t.engines = s.engines) (h9 : t.rudders = s.rudders) (h10 : t.tanks = s.tanks)
    (h11 : t.transfers = s.transfers) : s.Calm t := by
  have := State.Calm.refl s
  exact ⟨h1, h2, h3, h4, h5, h6 ▸ this.barges, h7 ▸ this.couplings, h8 ▸ this.engines, h9 ▸ this.rudders,
    h10 ▸ this.tanks, h11 ▸ this.transfers⟩

end State

/-! ## The elementary changes of a transaction -/

section
variable {s : State} {x : Txn}

namespace State.Routine

/-- A change of the state alone, outside the tables. -/
theorem same (h : s.Routine x.st) (t : State) (port : x.st.SamePort t := by exact ⟨rfl, rfl, rfl, rfl, rfl⟩)
    (calm : x.st.Calm t := by exact .of_same rfl rfl rfl rfl rfl rfl rfl rfl rfl rfl rfl) : s.Routine t :=
  h.trans ⟨port, calm⟩

theorem raise (h : s.Routine x.st) (c : Cause) : s.Routine (x.raise c).st := h.same _
theorem raiseIf (h : s.Routine x.st) (b : Bool) (c : Cause) : s.Routine (x.raiseIf b c).st := by
  cases b
  · exact h
  · exact h.raise c
theorem touch (h : s.Routine x.st) : s.Routine x.touch.st := h
theorem place (h : s.Routine x.st) (m : Member) (k : Nat) (c : WinchCommand) :
    s.Routine (x.place m k c).st := h
theorem placeFor (h : s.Routine x.st) (c : Coupling) (w : WinchCommand) :
    s.Routine (x.placeFor c w).st := by rewrite [Txn.placeFor_spec]; exact h
theorem modStatus (h : s.Routine x.st) (f : TowStatus → TowStatus)
    (ahead : ∀ u, (f u).limitAhead = u.limitAhead := by exact fun _ => rfl)
    (astern : ∀ u, (f u).limitAstern = u.limitAstern := by exact fun _ => rfl) : s.Routine (x.modStatus f).st :=
  h.same _ ⟨rfl, rfl, rfl, rfl, rfl⟩ (.of_same rfl rfl rfl (ahead _) (astern _) rfl rfl rfl rfl rfl rfl)
theorem modTow (h : s.Routine x.st) (f : TowLine → TowLine) : s.Routine (x.modTow f).st := h.same _
theorem modNotices (h : s.Routine x.st) (f : NoticeUnit → NoticeUnit) : s.Routine (x.modNotices f).st :=
  h.same _
theorem forKeys (h : s.Routine x.st) (keys : List Nat) (f : Nat → Txn → Txn)
    (hf : ∀ k y, s.Routine y.st → s.Routine (f k y).st) : s.Routine (x.forKeys keys f).st :=
  Txn.forKeys_keeps (fun y => s.Routine y.st) f keys x h fun k _ y => hf k y

theorem updateBarges (h : s.Routine x.st) (p : Barge → Bool) (f : Barge → Barge)
    (hf : ∀ b : Barge, b.Routine (f b)) : s.Routine (x.on fun s => { s with barges := update p f s.barges }).st :=
  h.same _ ⟨rfl, rfl, rfl, rfl, rfl⟩
    { State.Calm.refl x.st with barges := forall₂_update .refl p f _ fun b _ _ => hf b }
theorem updateCouplings (h : s.Routine x.st) (p : Coupling → Bool) (f : Coupling → Coupling)
    (hf : ∀ b : Coupling, b.Routine (f b)) : s.Routine (x.on fun s => { s with couplings := update p f s.couplings }).st :=
  h.same _ ⟨rfl, rfl, rfl, rfl, rfl⟩
    { State.Calm.refl x.st with couplings := forall₂_update .refl p f _ fun b _ _ => hf b }
theorem updateEngines (h : s.Routine x.st) (p : Engine → Bool) (f : Engine → Engine)
    (hf : ∀ b : Engine, b.Routine (f b)) : s.Routine (x.on fun s => { s with engines := update p f s.engines }).st :=
  h.same _ ⟨rfl, rfl, rfl, rfl, rfl⟩
    { State.Calm.refl x.st with engines := forall₂_update .refl p f _ fun b _ _ => hf b }
theorem updateRudders (h : s.Routine x.st) (p : Rudder → Bool) (f : Rudder → Rudder)
    (hf : ∀ b : Rudder, b.Routine (f b)) : s.Routine (x.on fun s => { s with rudders := update p f s.rudders }).st :=
  h.same _ ⟨rfl, rfl, rfl, rfl, rfl⟩
    { State.Calm.refl x.st with rudders := forall₂_update .refl p f _ fun b _ _ => hf b }
theorem updateTanks (h : s.Routine x.st) (p : Tank → Bool) (f : Tank → Tank)
    (hf : ∀ b : Tank, b.Routine (f b)) : s.Routine (x.on fun s => { s with tanks := update p f s.tanks }).st :=
  h.same _ ⟨rfl, rfl, rfl, rfl, rfl⟩
    { State.Calm.refl x.st with tanks := forall₂_update .refl p f _ fun b _ _ => hf b }
theorem updateTransfers (h : s.Routine x.st) (p : Transfer → Bool) (f : Transfer → Transfer)
    (hf : ∀ b : Transfer, b.Routine (f b)) : s.Routine (x.on fun s => { s with transfers := update p f s.transfers }).st :=
  h.same _ ⟨rfl, rfl, rfl, rfl, rfl⟩
    { State.Calm.refl x.st with transfers := forall₂_update .refl p f _ fun b _ _ => hf b }

theorem modCoupling (h : s.Routine x.st) (k : Nat) (ws : List Nat) (f : Coupling → Coupling)
    (hf : ∀ c : Coupling, c.Routine ((f c).renew ws) := by exact fun _ => ⟨rfl, id, id⟩) : s.Routine (x.modCoupling k ws f).st :=
  h.updateCouplings _ _ hf
theorem modRudder (h : s.Routine x.st) (k : Nat) (ws : List Nat) (f : Rudder → Rudder)
    (hf : ∀ c : Rudder, c.Routine ((f c).renew ws) := by exact fun _ => ⟨rfl⟩) : s.Routine (x.modRudder k ws f).st :=
  h.updateRudders _ _ hf
theorem modTank (h : s.Routine x.st) (k : Nat) (ws : List Nat) (f : Tank → Tank)
    (hf : ∀ c : Tank, c.Routine ((f c).renew ws) := by exact fun _ => ⟨rfl, id⟩) : s.Routine (x.modTank k ws f).st :=
  h.updateTanks _ _ hf
theorem modTransfer (h : s.Routine x.st) (k : Nat) (ws : List Nat) (f : Transfer → Transfer)
    (hf : ∀ c : Transfer, c.Routine ((f c).renew ws) := by exact fun _ => ⟨rfl, id⟩) : s.Routine (x.modTransfer k ws f).st :=
  h.updateTransfers _ _ hf
theorem modEngine (h : s.Routine x.st) (k : Nat) (ws : List Nat) (f : Engine → Engine)
    (hf : ∀ c : Engine, c.Routine ((f c).renew ws)
      := by exact fun _ => ⟨rfl, rfl, rfl, rfl, rfl, rfl, rfl, fun _ => .inr, .inl rfl, .inl, .inl rfl, id⟩) :
    s.Routine (x.modEngine k ws f).st :=
  h.updateEngines _ _ hf

end State.Routine

end

/-! Every shared operation of a transaction is routine: reads with the damage they find, the end of a transaction,
tanks, transfers, contexts and couplings. -/

section
variable {s : State} {x y : Txn}

/-! ## Reads (R11 to R14) -/

namespace State.Routine

/-- A change of headers that leaves every damaged flag as it is. -/
theorem modHeader (h : s.Routine x.st) (t : Tbl) (key : Nat) (f : Header → Header)
    (hf : ∀ d, (f d).damaged = d.damaged) : s.Routine (x.on fun s => s.modHeader t key f).st := by
  cases t with
  | barges => exact h.updateBarges _ _ fun _ => ⟨rfl, rfl, rfl⟩
  | couplings => exact h.updateCouplings _ _ fun _ => ⟨rfl, id, (hf _).trans⟩
  | engines =>
    exact h.updateEngines _ _ fun _ =>
      ⟨rfl, rfl, rfl, rfl, rfl, rfl, rfl, fun _ => .inr, .inl rfl, fun hd => .inl ((hf _).symm.trans hd), .inl rfl,
        (hf _).trans⟩
  | rudders => exact h.updateRudders _ _ fun _ => ⟨rfl⟩
  | tanks =>
    refine h.updateTanks _ _ fun t => ⟨rfl, fun ha => ?_⟩
    rewrite [← ha, hf]
    rfl
  | transfers => exact h.updateTransfers _ _ fun _ => ⟨rfl, id⟩

theorem of_scan {h : Header} {ws : List Nat} {b : Bool} (e : x.scan h ws = (y, b)) (hx : s.Routine x.st) :
    s.Routine y.st := by
  obtain ⟨n, hn⟩ := Txn.scan_spec h ws x
  rewrite [e] at hn
  subst hn
  exact hx.modStatus fun u => { u with corrected := n }

theorem couplingDamaged (h : s.Routine x.st) (key : Nat) : s.Routine (x.couplingDamaged key).st := by
  unfold Txn.couplingDamaged
  split
  · exact h
  · exact ((h.modCoupling ..).placeFor ..).touch

theorem markDamaged {t : Tbl} {key : Nat}
    (h : s.Routine (x.on fun s => s.modHeader t key fun d => { d with damaged := true }).st) :
    s.Routine (x.markDamaged t key).st := (h.modStatus _).raise _

/-- R12, R131: a record found damaged, with what follows: an engine's flag and its sent order change together. -/
theorem damaged (h : s.Routine x.st) (t : Tbl) (key : Nat) :
    s.Routine ((x.markDamaged t key).damageFollows t key).st := by
  cases t with
  | barges =>
    refine .markDamaged (h.updateBarges _ _ ?_)
    exact fun _ => ⟨rfl, rfl, rfl⟩
  | couplings =>
    refine .couplingDamaged (.markDamaged (h.updateCouplings _ _ ?_)) key
    exact fun _ => ⟨rfl, id, fun _ => rfl⟩
  | engines =>
    have both := update_update (·.number == key) (fun e : Engine => { e with header := { e.header with damaged := true } })
      (fun e => Engine.renew { e with allowed := 0, sent := 0 } [11, 12]) x.st.engines fun _ => rfl
    refine h.same _ ⟨rfl, rfl, rfl, rfl, rfl⟩ { State.Calm.refl x.st with engines := ?_ }
    refine (congrArg (List.Forall₂ Engine.Routine x.st.engines) both).mpr (forall₂_update .refl _ _ _ fun e _ _ => ?_)
    exact ⟨rfl, rfl, rfl, rfl, rfl, rfl, rfl, by simp [Engine.orders, Engine.renew], .inr rfl, fun _ => .inr rfl, .inr rfl, fun _ => rfl⟩
  | rudders =>
    refine .modRudder (.markDamaged (h.updateRudders _ _ ?_)) ..
    exact fun _ => ⟨rfl⟩
  | tanks =>
    refine .markDamaged (h.updateTanks _ _ ?_)
    exact fun _ => ⟨rfl, fun _ => rfl⟩
  | transfers =>
    refine .modTransfer (.markDamaged (h.updateTransfers _ _ ?_)) _ _ _ ?_
    · exact fun _ => ⟨rfl, id⟩
    · exact fun _ => ⟨rfl, fun _ => rfl⟩

theorem of_readRecord {t : Tbl} {k : Nat} {ws : List Nat} {b : Bool} (e : x.readRecord t k ws = (y, b))
    (h : s.Routine x.st) : s.Routine y.st := by
  unfold Txn.readRecord at e
  split at e
  · cases e; exact h
  · split at e
    · cases e; exact h
    · split at e <;> rename_i hs <;> cases e
      · exact .of_scan hs h
      · exact (State.Routine.of_scan hs h).damaged t k

theorem enterTransfer (h : s.Routine x.st) (k : Nat) (new : TransferState) :
    s.Routine (x.enterTransfer k new).st := by
  unfold Txn.enterTransfer
  split
  · exact h
  · split
    · exact h
    · refine .raise (h.modTransfer _ _ _ ?_) _
      refine fun t => ⟨rfl, fun _ => ?_⟩
      simp only [Transfer.enter, Transfer.renew]
      cases new == TransferState.running <;> rfl

theorem tankDamaged (h : s.Routine x.st) (key : Nat) : s.Routine (x.tankDamaged key).st := by
  refine h.forKeys _ _ fun k y hy => ?_
  split <;> rename_i hz
  · exact .of_readRecord hz hy
  · have hz := hy.of_readRecord hz
    split
    · exact hz
    · split
      · exact hz.enterTransfer ..
      · exact hz

theorem of_read {t : Tbl} {k : Nat} {ws : List Nat} {b : Bool} (e : x.read t k ws = (y, b))
    (h : s.Routine x.st) : s.Routine y.st := by
  unfold Txn.read at e
  split at e <;> rename_i hr
  · cases e; exact .of_readRecord hr h
  · have hy := h.of_readRecord hr
    split at e <;> cases e
    · exact hy.tankDamaged k
    · exact hy

theorem read (h : s.Routine x.st) (t : Tbl) (k : Nat) (ws : List Nat) : s.Routine (x.read t k ws).1.st :=
  .of_read (b := (x.read t k ws).2) rfl h

theorem readAll (h : s.Routine x.st) (t : Tbl) (keys ws : List Nat) :
    s.Routine (x.readAll t keys ws).st := h.forKeys _ _ fun k _ hy => hy.read t k ws

/-! ## The end of a transaction -/

theorem readBow (h : s.Routine x.st) : s.Routine x.readBow.st := h.read ..

theorem releaseBow (h : s.Routine x.st) : s.Routine x.releaseBow.st := by
  unfold Txn.releaseBow
  split
  · exact h
  · exact h.readBow.updateEngines _ _ fun _ => ⟨rfl, rfl, rfl, rfl, rfl, rfl, rfl, fun _ => .inr, .inl rfl, .inl, .inl rfl, id⟩

theorem settleBindings (h : s.Routine x.st) (before : State) :
    s.Routine (x.settleBindings before).st := by
  unfold Txn.settleBindings
  split
  · exact h
  · refine State.Routine.releaseBow ?_
    exact h.same _

theorem placeCommands (h : s.Routine x.st) (cs : List (Member × Nat × WinchCommand)) :
    s.Routine (x.st.placeCommands cs) := by
  obtain ⟨t, ht⟩ := State.placeCommands_spec cs x.st
  rewrite [ht]
  exact h.same _

/-! ## Tanks (R152, R153) -/

theorem evaluateLow (h : s.Routine x.st) (k : Nat) : s.Routine (x.evaluateLow k).st := by
  unfold Txn.evaluateLow
  split
  · exact h
  · exact (h.modTank ..).raiseIf ..

end State.Routine

theorem Tank.Routine.of_balanced {t u : Tank} (number : u.number = t.number)
    (damage : u.header.damaged = t.header.damaged) (balanced : t.balanced = true → u.balanced = true) : t.Routine u :=
  ⟨number, fun ha => by
    rewrite [Bool.or_eq_true] at ha ⊢
    exact ha.imp damage.trans balanced⟩

namespace State.Routine

theorem debit (h : s.Routine x.st) (k amount : Nat) (draw : Bool) :
    s.Routine (x.debit k amount draw).st := by
  unfold Txn.debit
  split
  · exact h
  · split
    · exact h
    · refine .raiseIf (.evaluateLow (h.modTank _ _ _ ?_) k) ..
      exact fun t => .of_balanced rfl rfl (t.debited_balanced amount draw)

theorem credit (h : s.Routine x.st) (k amount : Nat) : s.Routine (x.credit k amount).st := by
  unfold Txn.credit
  split
  · exact h
  · refine .evaluateLow (h.modTank _ _ _ ?_) k
    refine fun t => .of_balanced rfl rfl fun hb => ?_
    simp only [Tank.balanced, Tank.renew, beq_iff_eq] at hb ⊢
    omega

theorem receipt (h : s.Routine x.st) (k amount : Nat) : s.Routine (x.receipt k amount).st := by
  unfold Txn.receipt
  split
  · exact h
  · refine .evaluateLow (h.modTank _ _ _ ?_) k
    refine fun t => .of_balanced rfl rfl fun hb => ?_
    simp only [Tank.balanced, Tank.renew, beq_iff_eq] at hb ⊢
    omega

theorem sounding (h : s.Routine x.st) (k content : Nat) : s.Routine (x.sounding k content).st := by
  refine .evaluateLow (h.modTank _ _ _ ?_) k
  refine fun t => .of_balanced rfl rfl fun hb => ?_
  simp only [Tank.balanced, Tank.renew, beq_iff_eq] at hb ⊢
  omega

theorem drawFor (h : s.Routine x.st) (engine tank amount : Nat) :
    s.Routine (x.drawFor engine tank amount).st := by
  unfold Txn.drawFor
  split <;> rename_i hr
  · exact (h.of_read hr).debit ..
  · split <;> rename_i hz
    · exact .of_read hz (.of_read hr h)
    · exact (State.Routine.of_read hz (.of_read hr h)).modEngine ..

theorem debitHeld (h : s.Routine x.st) (engine tank : Nat) : s.Routine (x.debitHeld engine tank).st := by
  unfold Txn.debitHeld
  split <;> rename_i hr
  · exact .of_read hr h
  · have hy := h.of_read hr
    split
    · exact hy
    · split
      · exact hy
      · split <;> rename_i hz
        · exact .of_read hz hy
        · exact ((hy.of_read hz).debit ..).modEngine ..

/-! ## Transfers (R167 to R176) -/

theorem moveMark (h : s.Routine x.st) (k : Nat) : s.Routine (x.moveMark k).st := by
  unfold Txn.moveMark
  split
  · exact h
  · exact h.modTransfer ..

theorem readTanks (h : s.Routine x.st) (t : Transfer) : s.Routine (x.readTanks t).st :=
  (h.read ..).read ..

theorem batchCheck (h : s.Routine x.st) (k : Nat) : s.Routine (x.batchCheck k).st := by
  unfold Txn.batchCheck
  split
  · exact h
  · rename_i t _
    have hy := h.readTanks t
    dsimp only
    refine State.Routine.enterTransfer ?_ ..
    by_cases start : (x.readTanks t).st.batchOutcome t
        (if (t.batchMoved == 0 || t.full) = true then t.batchVolume * 1000 else t.remaining) = .running ∧
        (t.batchMoved == 0 || t.full) = true
    · rewrite [if_pos start]
      exact hy.modTransfer ..
    · rewrite [if_neg start]
      exact hy

theorem endOfBatch (h : s.Routine x.st) (k : Nat) : s.Routine (x.endOfBatch k).st := by
  unfold Txn.endOfBatch
  have hy := h.modTransfer k [10, 11] fun t => { t with batchesDone := saturate t.batchesDone 1, batchMoved := 0 }
  dsimp only
  split
  · exact hy
  · split
    · exact hy.enterTransfer ..
    · split
      · exact (hy.modTransfer ..).enterTransfer ..
      · exact hy.batchCheck _

theorem stopTests (h : s.Routine x.st) (k : Nat) : s.Routine (x.stopTests k).st := by
  unfold Txn.stopTests
  split
  · exact h
  · rename_i t _
    have hy := h.readTanks t
    dsimp only
    split
    · exact hy
    · split
      · split
        · exact hy
        · exact hy.enterTransfer ..
      · exact hy

theorem endOfStopping (h : s.Routine x.st) (k : Nat) : s.Routine (x.endOfStopping k).st := by
  unfold Txn.endOfStopping
  have hy := h.moveMark k
  dsimp only
  split
  · exact hy
  · repeat' split
    all_goals first
      | exact hy.enterTransfer ..
      | exact hy.endOfBatch ..

theorem unpostedPulses (h : s.Routine x.st) (d : Nat) : s.Routine (x.unpostedPulses d).st :=
  h.modStatus _

theorem moveFuel (h : s.Routine x.st) (k amount : Nat) : s.Routine (x.moveFuel k amount).st := by
  unfold Txn.moveFuel
  split
  · exact h
  · split
    · exact h
    · dsimp only
      split
      · exact (((h.read ..).read ..).debit ..).credit ..
      · exact ((h.read ..).read ..).modTransfer ..

theorem takeRunning (h : s.Routine x.st) (k : Nat) (running : Bool) :
    s.Routine (x.takeRunning k running).st := by
  unfold Txn.takeRunning
  have hy := h.modTransfer k [] fun t => { t with quiet := if running then 0 else t.quiet + 1 }
  dsimp only
  split
  · exact hy
  · split
    · exact hy.endOfStopping k
    · exact hy

theorem postPump (h : s.Routine x.st) (k amount d : Nat) (running : Bool) :
    s.Routine (x.postPump k amount d running).1.st := by
  unfold Txn.postPump
  split <;> rename_i hr <;> have hy := h.of_read hr
  · exact hy.unpostedPulses d
  · split
    · exact hy.unpostedPulses d
    · split
      · split <;> rename_i hz <;> have hz := hy.of_read hz
        · exact hz.unpostedPulses d
        · have hw := State.Routine.moveFuel (hz.modTransfer k ([11] ++ wide 12) fun t =>
            { t with batchMoved := t.batchMoved + amount, totalMoved := t.totalMoved + amount }) k amount
          dsimp only
          split
          · exact hw.stopTests k
          · exact hw.takeRunning k running
      · exact hy.unpostedPulses d

theorem pumpLost (h : s.Routine x.st) (k : Nat) : s.Routine (x.pumpLost k).st := by
  unfold Txn.pumpLost
  split <;> rename_i hr <;> have hy := h.of_read hr
  · exact hy
  · split
    · exact hy
    · split
      · split <;> rename_i hz <;> have hz := hy.of_read hz
        · exact hz
        · exact (hz.moveMark k).enterTransfer ..
      · exact hy

theorem postHeld (h : s.Routine x.st) (k : Nat) : s.Routine (x.postHeld k).st := by
  unfold Txn.postHeld
  split <;> rename_i hr <;> have hy := h.of_read hr
  · exact hy
  · split
    · exact hy
    · split
      · exact hy
      · dsimp only
        split
        · exact ((((hy.read ..).read ..).debit ..).credit ..).modTransfer ..
        · exact (hy.read ..).read ..

/-! ## Contexts (R97 to R109) -/

theorem mirror (h : s.Routine x.st) (kind : StationKind) (key : Nat) (state : ContextState) :
    s.Routine (x.mirror kind key state).st := by
  cases kind with
  | engine => exact h.modEngine ..
  | rudder => exact h.modRudder ..
  | meter => exact h
  | pump => exact h
  | gauge => exact h

theorem modContext (h : s.Routine x.st) (a : Nat) (f : Context → Context) :
    s.Routine (x.modContext a f).st := h.same _

theorem withdraw (h : s.Routine x.st) (a : Nat) : s.Routine (x.withdraw a).st := h.same _

theorem engineLeavesRunning (h : s.Routine x.st) (key : Nat) :
    s.Routine (x.engineLeavesRunning key).st :=
  h.modEngine _ _ _ fun e =>
    ⟨rfl, rfl, rfl, rfl, rfl, rfl, rfl, by simp [Engine.orders, Engine.renew], .inr rfl, fun _ => .inr rfl, .inr rfl, id⟩

theorem leaveExchange (h : s.Routine x.st) (c : Context) : s.Routine (x.leaveExchange c).st := by
  unfold Txn.leaveExchange
  split
  · exact h.engineLeavesRunning _
  · exact h.modRudder ..
  · exact (h.modContext ..).withdraw _
  · exact ((h.modContext ..).withdraw _).pumpLost _
  · exact h.modTank ..

theorem enterContext (h : s.Routine x.st) (a : Nat) (new : ContextState) :
    s.Routine (x.enterContext a new).st := by
  unfold Txn.enterContext
  split
  · exact h
  · rename_i c _
    have hy := h.modContext a fun c => { c with state := new }
    have hz : s.Routine (if c.state = .exchange ∧ new ≠ .exchange then
        (x.modContext a fun c => { c with state := new }).leaveExchange c
        else x.modContext a fun c => { c with state := new }).st := by
      split
      · exact hy.leaveExchange c
      · exact hy
    dsimp only
    split
    · exact hz
    · exact hz.mirror ..

theorem createContext (h : s.Routine x.st) (a : Nat) (kind : StationKind) (key : Nat) (p : Parameters) :
    s.Routine (x.createContext a kind key p).st := State.Routine.mirror (h.same _) ..

theorem removeContext (h : s.Routine x.st) (a : Nat) : s.Routine (x.removeContext a).st := by
  unfold Txn.removeContext
  split
  · exact h
  · rename_i c _
    have hy : s.Routine (if c.state = .exchange then x.leaveExchange c else x).st := by
      split
      · exact h.leaveExchange c
      · exact h
    exact State.Routine.withdraw (hy.same _) a

theorem foldl {α : Type} (l : List α) (f : Txn → α → Txn)
    (hf : ∀ a y, s.Routine y.st → s.Routine (f y a).st) : ∀ x : Txn, s.Routine x.st → s.Routine (l.foldl f x).st := by
  induction l with
  | nil => exact fun _ h => h
  | cons a l ih => exact fun x h => ih _ (hf a x h)

theorem moveContexts (h : s.Routine x.st) (key : Nat) (fields : List AddressField) :
    s.Routine (x.moveContexts key fields).st := by
  refine State.Routine.foldl _ _ (fun f y hy => ?_) _ (State.Routine.foldl _ _ (fun f y hy => ?_) _ h)
  · split
    · exact hy.createContext ..
    · exact hy
  · split
    · exact hy.removeContext _
    · exact hy

theorem markStale (h : s.Routine x.st) (a : Nat) : s.Routine (x.markStale a).st := h.same _

theorem restartRetry (h : s.Routine x.st) (a : Nat) : s.Routine (x.restartRetry a).st := h.modContext ..

theorem giveParameters (h : s.Routine x.st) (a : Nat) (p : Parameters) :
    s.Routine (x.giveParameters a p).st := by
  unfold Txn.giveParameters
  split
  · exact h
  · have hy := h.modContext a fun c => { c with parameters := p }
    dsimp only
    split
    · exact (hy.enterContext ..).restartRetry a
    · exact (hy.enterContext ..).restartRetry a
    · exact hy.markStale a
    · exact hy.markStale a
    · exact hy.enterContext ..

theorem retryRejected (h : s.Routine x.st) (a : Nat) : s.Routine (x.retryRejected a).st := by
  unfold Txn.retryRejected
  repeat' split
  · exact h
  · exact h.enterContext ..
  · exact h

theorem retryAll (h : s.Routine x.st) (as : List Nat) : s.Routine (x.retryAll as).st :=
  h.forKeys _ _ fun a _ hy => hy.retryRejected a

/-! ## Couplings (R79 to R93) -/

theorem giveRelease (h : s.Routine x.st) (k : Nat) : s.Routine (x.giveRelease k).st := by
  unfold Txn.giveRelease
  split
  · exact h
  · have released (c : Coupling) : s.Routine ((x.modCoupling k [9, 11] fun c =>
        { c with state := .releasing, tendOrder := .release, debounce := none, slackTimer := none }).placeFor c
          .payOut).touch.st := ((h.modCoupling ..).placeFor ..).touch
    dsimp only
    split
    case h_6 => exact h.placeFor ..
    case h_7 => exact ((h.modCoupling ..).placeFor ..).touch
    case h_8 =>
      split
      · exact ((h.modCoupling ..).placeFor ..).touch
      · exact h
      · exact h
    all_goals exact released _

theorem giveMake (h : s.Routine x.st) (k : Nat) : s.Routine (x.giveMake k).st := by
  unfold Txn.giveMake
  split
  · exact h
  · rename_i c _
    have followed : s.Routine (if c.seated = some true then
        x.modCoupling k [9, 11] fun d => { d with state := .settling, tendOrder := .make, debounce := some x.st.clock }
        else x.modCoupling k [9, 11] fun d => { d with state := .unlashed, tendOrder := .make }).st := by
      split <;> exact h.modCoupling ..
    dsimp only
    split
    case h_4 => exact ((h.modCoupling ..).placeFor ..).touch
    case h_5 => exact h.placeFor ..
    all_goals first
      | exact (followed.placeFor ..).touch
      | exact h

theorem giveNone (h : s.Routine x.st) (k : Nat) : s.Routine (x.giveNone k).st := by
  unfold Txn.giveNone
  repeat' split
  · exact h
  · exact (h.modCoupling ..).placeFor ..
  · exact h
  · exact h

theorem giveTendOrder (h : s.Routine x.st) (k : Nat) (o : TendOrder) :
    s.Routine (x.giveTendOrder k o).st := by
  cases o with
  | none => exact h.giveNone k
  | make => exact h.giveMake k
  | release => exact h.giveRelease k

theorem giveDeclare (h : s.Routine x.st) (k : Nat) (made : Bool) :
    s.Routine (x.giveDeclare k made).st := by
  unfold Txn.giveDeclare
  split
  · exact h
  · split
    · exact (h.modCoupling ..).touch
    · exact (h.modCoupling ..).touch

theorem giveOrders (h : s.Routine x.st) (k : Nat) (is : List Item) : s.Routine (x.giveOrders k is).st := by
  unfold Txn.giveOrders
  split <;> split
  · exact (h.giveTendOrder ..).giveDeclare ..
  · exact h.giveTendOrder ..
  · exact h.giveDeclare ..
  · exact h

theorem takeTension (h : s.Routine x.st) (k : Nat) (c : Coupling) (t : Nat) :
    s.Routine (x.takeTension k c t).st := by
  unfold Txn.takeTension
  dsimp only
  split
  · exact (h.modCoupling ..).raiseIf ..
  · exact ((h.modCoupling ..).raiseIf ..).placeFor ..

theorem settleCoupling (h : s.Routine x.st) (k : Nat) : s.Routine (x.settleCoupling k).st :=
  h.modCoupling ..

theorem unlash (h : s.Routine x.st) (k : Nat) (keeps : Bool) : s.Routine (x.unlash k keeps).st :=
  h.modCoupling ..

theorem moveCoupling (h : s.Routine x.st) (k : Nat) (c : Coupling) (t : Nat) (seated : Bool) :
    s.Routine (x.moveCoupling k c t seated).st := by
  have group : s.Routine (if seated then x.takeTension k c t else
      ((x.modCoupling k [11] fun c => { c with state := .lost, debounce := none, slackTimer := none }).placeFor c
        .stop).raise .coupling).st := by
    split
    · exact h.takeTension ..
    · exact ((h.modCoupling ..).placeFor ..).raise _
  unfold Txn.moveCoupling
  dsimp only
  split
  case h_1 =>
    split
    · exact h.settleCoupling k
    · exact h
  case h_2 =>
    split
    · split
      · exact (h.modCoupling ..).takeTension ..
      · exact h
    · exact h.unlash ..
  case h_7 =>
    split
    · split
      · exact h.settleCoupling k
      · exact h
    · split
      · exact (h.modCoupling ..).placeFor ..
      · exact h.unlash ..
    · split
      · exact (h.settleCoupling k).placeFor ..
      · exact (h.modCoupling ..).placeFor ..
  case h_8 =>
    split
    · exact h
    · exact h.unlash ..
  all_goals exact group

theorem postReading (h : s.Routine x.st) (k t : Nat) (seated : Bool) :
    s.Routine (x.postReading k t seated).st := by
  unfold Txn.postReading
  dsimp only
  split <;> rename_i hr <;> have hy := h.of_read hr
  · exact hy
  · split
    · exact hy
    · exact ((hy.modCoupling ..).moveCoupling ..).touch

theorem dropDamaged (h : s.Routine x.st) (k : Nat) : s.Routine (x.dropDamaged k).st := by
  unfold Txn.dropDamaged
  repeat' split
  · exact h
  · exact h
  · exact (h.modCoupling ..).raise _

theorem loseCoupling (h : s.Routine x.st) (k : Nat) : s.Routine (x.loseCoupling k).st := by
  unfold Txn.loseCoupling
  split <;> rename_i hr <;> have hy := h.of_read hr
  · exact hy.dropDamaged k
  · repeat' split
    · exact hy
    · exact hy.modCoupling ..
    · exact (hy.modCoupling ..).raise _

theorem loseMember (h : s.Routine x.st) (m : Member) : s.Routine (x.loseMember m).st :=
  (h.forKeys _ _ fun k _ hy => hy.loseCoupling k).touch

theorem clearReadings (h : s.Routine x.st) (m : Member) : s.Routine (x.clearReadings m).st :=
  h.forKeys _ _ fun _ _ hy => hy.modCoupling ..

theorem anyLashed (h : s.Routine x.st) (pick : Coupling → Bool) : s.Routine (x.anyLashed pick).1.st :=
  h.readAll ..

theorem setWinchFault (h : s.Routine x.st) (k : Nat) : s.Routine (x.setWinchFault k).st := by
  unfold Txn.setWinchFault
  split <;> rename_i hr <;> have hy := h.of_read hr
  · exact hy.modCoupling ..
  · split
    · exact hy
    · exact (hy.modCoupling ..).raiseIf ..

theorem clearWinchFault (h : s.Routine x.st) (k : Nat) : s.Routine (x.clearWinchFault k).st :=
  h.modCoupling ..

end State.Routine

end

/-! The routine work of whole transactions: requests that enter, amend and remove no record, the tow line's, the
machinery link's, the Fuel Accountant's and the Patrol's transactions, and the stages of the cycle computation that move
no order. -/

section
variable {s : State} {x y : Txn}

namespace State.Routine

theorem ite {p : Prop} [Decidable p] (hx : s.Routine x.st) (hy : s.Routine y.st) :
    s.Routine (if p then x else y).st := by
  split
  · exact hx
  · exact hy

/-! ## Nodes (R68, R144) -/

theorem setBow (h : s.Routine x.st) (new : UnitState) : s.Routine (x.setBow new).st := by
  unfold Txn.setBow
  split
  · exact h
  · dsimp only
    split
    · exact (h.engineLeavesRunning 5).modEngine ..
    · exact h.modEngine ..

theorem enterBow (h : s.Routine x.st) (new : UnitState) : s.Routine (x.enterBow new).st := by
  unfold Txn.enterBow
  split
  · exact h.setBow new
  · exact h.readBow.setBow new

theorem dropNode (h : s.Routine x.st) (a : Nat) : s.Routine (x.dropNode a).st := by
  unfold Txn.dropNode
  have hy := h.modTow fun t => { t with nodes := t.nodes.filter (·.address != a) }
  dsimp only
  refine State.Routine.raise ?_ _
  have hz : s.Routine (match x.st.bound a with
      | some m => (x.modTow fun t => { t with nodes := t.nodes.filter (·.address != a) }).loseMember m
      | none => x.modTow fun t => { t with nodes := t.nodes.filter (·.address != a) }).st := by
    split
    · exact hy.loseMember _
    · exact hy
  exact .ite (hz.enterBow _) hz

theorem emptyList (h : s.Routine x.st) : s.Routine x.emptyList.st :=
  (h.forKeys _ _ fun a _ hy => hy.dropNode a).modTow _

theorem changeRate (h : s.Routine x.st) (rate : Nat) : s.Routine (x.changeRate rate).st :=
  h.emptyList.modTow _

theorem bowFitted (h : s.Routine x.st) (v : Int) : s.Routine (x.bowFitted v).1.st := by
  unfold Txn.bowFitted
  split
  · exact h
  · split <;> rename_i hr
    · exact h.of_read hr
    · exact h.of_read hr

theorem bowRunning (h : s.Routine x.st) (hull : Nat) : s.Routine (x.bowRunning hull).1.st := by
  unfold Txn.bowRunning
  split
  · exact h.readBow
  · exact h

/-! ## Requests -/

theorem refuse (h : s.Routine x.st) (r : Result) : s.Routine (refuse x r).1.st := h
theorem answer (h : s.Routine x.st) (is : List ResponseItem) : s.Routine (answer x is).1.st := h

theorem lookRecord (h : s.Routine x.st) (t : Tbl) (v : Int) : s.Routine (lookRecord x t v).1.st := by
  unfold Machine.lookRecord
  split
  · exact h
  · split
    · exact h
    · split <;> rename_i hr
      · exact h.of_read hr
      · exact h.of_read hr

theorem requestLook (h : s.Routine x.st) (q : Request) : s.Routine (requestLook q x).1.st := by
  unfold Machine.requestLook
  split
  · exact h
  · split
    · dsimp only
      split
      · exact h.lookRecord ..
      · repeat' split
        all_goals exact h
    · exact h

theorem lookNextRecord (h : s.Routine x.st) (t : Tbl) (k : Nat) :
    s.Routine (lookNextRecord x t k).1.st := by
  unfold Machine.lookNextRecord
  split
  · exact h
  · split <;> rename_i hr
    · exact h.of_read hr
    · exact h.of_read hr

theorem requestLookNext (h : s.Routine x.st) (q : Request) : s.Routine (requestLookNext q x).1.st := by
  unfold Machine.requestLookNext
  split
  · exact h
  · split
    · dsimp only
      split
      · split
        · exact h.lookNextRecord ..
        · repeat' split
          all_goals exact h
      · exact h
    · exact h

theorem stepEngines (h : s.Routine x.st) : s.Routine x.stepEngines.st := by
  refine h.forKeys _ _ fun k y hy => ?_
  split <;> rename_i hr
  · exact hy.of_read hr
  · refine State.Routine.modEngine (hy.of_read hr) _ _ _ ?_
    exact fun e => ⟨rfl, rfl, rfl, rfl, rfl, rfl, rfl, by simp [Engine.orders, Engine.renew], .inl rfl, .inl, .inl rfl, id⟩

theorem stepRudders (h : s.Routine x.st) : s.Routine x.stepRudders.st := by
  refine h.forKeys _ _ fun k y hy => ?_
  split <;> rename_i hr
  · exact hy.of_read hr
  · exact (hy.of_read hr).modRudder ..

theorem performStep (h : s.Routine x.st) : s.Routine x.performStep.st :=
  h.stepEngines.stepRudders.modStatus _

theorem requestStep (h : s.Routine x.st) (q : Request) : s.Routine (requestStep q x).1.st := by
  unfold Machine.requestStep
  split
  · exact h.performStep
  · exact h

theorem stageZero (h : s.Routine x.st) : s.Routine (x.on State.stageZero).st := by
  let order (e : Engine) : Engine := Engine.renew { e with staged := 0 } [8]
  let angle (r : Rudder) : Rudder := Rudder.renew { r with staged := 0 } [7]
  refine State.Routine.updateRudders (x := x.on fun s => { s with engines := update (fun e => !e.header.damaged) order s.engines })
    (h.updateEngines _ _ ?_) (fun r => !r.header.damaged) angle fun _ => ⟨rfl⟩
  exact fun e => ⟨rfl, rfl, rfl, rfl, rfl, rfl, rfl, by simp [Engine.orders, order, Engine.renew], .inl rfl, .inl, .inl rfl, id⟩

theorem silenceWork (h : s.Routine x.st) : s.Routine x.silenceWork.st :=
  (h.stageZero.performStep.modStatus _).raise _

theorem requestSweep (h : s.Routine x.st) (q : Request) : s.Routine (requestSweep q x).1.st := by
  unfold Machine.requestSweep
  split
  · exact h.modTow _
  · exact h

theorem onTransfer (h : s.Routine x.st) (q : Request) (body : Nat → Transfer → Txn → Answer)
    (hb : ∀ k t y, s.Routine y.st → s.Routine (body k t y).1.st) : s.Routine (onTransfer q x body).1.st := by
  unfold Machine.onTransfer
  split
  · exact h
  · split
    · exact h
    · split
      · exact h
      · split <;> rename_i hr
        · exact h.of_read hr
        · split
          · exact h.of_read hr
          · exact hb _ _ _ (h.of_read hr)

theorem transferAnswer (h : s.Routine x.st) (k : Nat) : s.Routine (transferAnswer x k).1.st := by
  unfold Machine.transferAnswer
  split <;> exact h

theorem goAnswer (h : s.Routine x.st) (k : Nat) : s.Routine (goAnswer x k).1.st := by
  unfold Machine.goAnswer
  split <;> exact h

theorem requestGo (h : s.Routine x.st) (q : Request) : s.Routine (requestGo q x).1.st := by
  refine h.onTransfer q _ fun k t y hy => ?_
  split
  · exact ((hy.modTransfer ..).batchCheck k).goAnswer k
  · exact hy

theorem requestStopAtGap (h : s.Routine x.st) (q : Request) :
    s.Routine (requestStopAtGap q x).1.st := by
  refine h.onTransfer q _ fun k t y hy => State.Routine.transferAnswer ?_ k
  split
  · exact hy
  · exact hy.modTransfer ..

theorem requestContinue (h : s.Routine x.st) (q : Request) : s.Routine (requestContinue q x).1.st := by
  refine h.onTransfer q _ fun k t y hy => ?_
  split
  · exact (hy.batchCheck k).transferAnswer k
  · exact hy

theorem requestConfirm (h : s.Routine x.st) (q : Request) : s.Routine (requestConfirm q x).1.st := by
  refine h.onTransfer q _ fun k t y hy => ?_
  split
  · refine State.Routine.transferAnswer ?_ k
    split
    · exact hy.endOfBatch k
    · exact hy.batchCheck k
  · exact hy

theorem pendAbort (h : s.Routine x.st) (k : Nat) : s.Routine (x.pendAbort k).st := h.modTransfer ..

theorem requestAbort (h : s.Routine x.st) (q : Request) : s.Routine (requestAbort q x).1.st := by
  refine h.onTransfer q _ fun k t y hy => ?_
  split
  · exact ((hy.pendAbort k).enterTransfer ..).transferAnswer k
  · exact (hy.pendAbort k).transferAnswer k
  · exact (hy.enterTransfer ..).transferAnswer k
  · exact hy
  · exact hy

theorem onTank (h : s.Routine x.st) (q : Request) (field : Nat) (limit : Tank → Int)
    (body : Nat → Tank → Nat → Txn → Answer) (hb : ∀ k t v y, s.Routine y.st → s.Routine (body k t v y).1.st) :
    s.Routine (onTank q field x limit body).1.st := by
  unfold Machine.onTank
  split
  · exact h
  · split
    · exact h
    · split
      · exact h
      · split <;> rename_i hr
        · exact h.of_read hr
        · split
          · exact h.of_read hr
          · dsimp only
            split
            · exact hb _ _ _ _ (h.of_read hr)
            · exact h.of_read hr

theorem requestReceive (h : s.Routine x.st) (q : Request) : s.Routine (requestReceive q x).1.st :=
  h.onTank q _ _ _ fun _ _ _ _ hy => (hy.receipt ..).answer _

theorem requestSound (h : s.Routine x.st) (q : Request) : s.Routine (requestSound q x).1.st :=
  h.onTank q _ _ _ fun _ _ _ _ hy => (hy.sounding ..).answer _

theorem requestNotices (h : s.Routine x.st) (q : Request) : s.Routine (requestNotices q x).1.st := by
  unfold Machine.requestNotices
  split <;> exact h

theorem requestMask (h : s.Routine x.st) (q : Request) : s.Routine (requestMask q x).1.st := by
  unfold Machine.requestMask
  split
  · exact h
  · split
    · exact h
    · exact h.modNotices _

theorem requestAcknowledge (h : s.Routine x.st) (q : Request) :
    s.Routine (requestAcknowledge q x).1.st := by
  unfold Machine.requestAcknowledge
  split
  · exact h
  · split
    · exact h
    · exact h.modNotices _

theorem requestEndOfNotice (h : s.Routine x.st) (q : Request) :
    s.Routine (requestEndOfNotice q x).1.st := by
  unfold Machine.requestEndOfNotice
  split
  · exact h.modNotices _
  · exact h

theorem resetContext (h : s.Routine x.st) (a : Nat) : s.Routine (x.resetContext a).st :=
  (h.enterContext ..).modContext ..

theorem resetLinksWork (h : s.Routine x.st) : s.Routine x.resetLinksWork.st :=
  State.Routine.same ((h.emptyList.modTow _).forKeys _ _ fun a _ hz => hz.resetContext a) _

theorem requestResetLinks (h : s.Routine x.st) (q : Request) :
    s.Routine (requestResetLinks q x).1.st := by
  unfold Machine.requestResetLinks
  split
  · exact h.resetLinksWork
  · exact h

theorem orderCrossing (h : s.Routine x.st) (words : List Nat) (give : Nat → Txn → Txn)
    (hg : ∀ k y, s.Routine y.st → s.Routine (give k y).st) : s.Routine (x.orderCrossing words give).st := by
  refine h.forKeys _ _ fun k y hy => ?_
  split <;> rename_i hz <;> have hz := hy.of_read hz
  · exact hz
  · split
    · exact hz
    · split
      · split <;> rename_i hw <;> have hw := hz.of_read hw
        · exact hw
        · exact hg _ _ hw
      · exact hz

/-! ## The cycle computation, but for the orders -/

theorem handEngines (h : s.Routine x.st) : s.Routine x.handEngines.st := by
  refine h.forKeys _ _ fun k y hy => ?_
  split <;> rename_i hr
  · exact hy.of_read hr
  · refine State.Routine.modEngine (hy.of_read hr) _ _ _ ?_
    exact fun e => ⟨rfl, rfl, rfl, rfl, rfl, rfl, rfl, by simp [Engine.orders, Engine.renew], .inl rfl, .inl, .inl rfl, id⟩

theorem handRudders (h : s.Routine x.st) : s.Routine x.handRudders.st := by
  refine h.forKeys _ _ fun k y hy => ?_
  split <;> rename_i hr
  · exact hy.of_read hr
  · exact (hy.of_read hr).modRudder ..

theorem handover (h : s.Routine x.st) : s.Routine x.handover.st := by
  unfold Txn.handover
  split
  · exact h.handEngines.handRudders.modStatus _
  · exact h

theorem readCouplings (h : s.Routine x.st) : s.Routine x.readCouplings.st := h.readAll ..

theorem readRunning (h : s.Routine x.st) (words : List Nat) : s.Routine (x.readRunning words).st :=
  h.readAll ..

theorem readEngines (h : s.Routine x.st) : s.Routine x.readEngines.st := (h.readAll ..).readRunning _

theorem towMass (h : s.Routine x.st) : s.Routine x.towMass.1.st := h.readAll ..

theorem steerChannel (h : s.Routine x.st) (l : Limits) (k period : Nat) :
    s.Routine (x.steerChannel l k period).st := by
  unfold Txn.steerChannel
  split <;> rename_i hr
  · exact h.of_read hr
  · refine State.Routine.modRudder (h.of_read hr) _ _ _ ?_
    intro r
    constructor
    unfold Rudder.steer
    split <;> rfl

theorem steerAll (h : s.Routine x.st) (l : Limits) (period : Nat) :
    s.Routine (x.steerAll l period).st :=
  State.Routine.forKeys ((h.readAll ..).readAll ..) _ _ fun k _ hy => hy.steerChannel l k period

/-! ## The Fuel Accountant (R154 to R157) -/

theorem postMeter (h : s.Routine x.st) (key amount d : Nat) :
    s.Routine (x.postMeter key amount d).1.st := by
  unfold Txn.postMeter
  split <;> rename_i hr <;> have hy := h.of_read hr
  · exact hy.modStatus _
  · split
    · exact hy
    · have hz := hy.modEngine key (wide 18) fun e => { e with consumed := e.consumed + amount }
      dsimp only
      split
      · exact hz
      · exact hz.drawFor ..

theorem postConversion (h : s.Routine x.st) (c : Context) (amount d : Nat) (running : Bool) :
    s.Routine (x.postConversion c amount d running).1.st := by
  unfold Txn.postConversion
  split
  · exact h.postMeter ..
  · exact h.postPump ..
  · exact h
  · exact h
  · exact h

theorem convert (h : s.Routine x.st) (r : Reading) : s.Routine (x.convert r).st := by
  unfold Txn.convert
  split
  · exact h
  · have hy := h.modContext r.address fun c =>
      { c with baseline := some r.count, lastTemperature := lastTemperatureAfter r.temperature c.lastTemperature }
    dsimp only
    split
    · exact hy
    · split
      · exact (hy.postConversion ..).modContext ..
      · exact hy.postConversion ..

theorem convertAll (h : s.Routine x.st) : s.Routine x.convertAll.st :=
  State.Routine.foldl _ _ (fun r _ hy => hy.convert r) _ (h.same _)

/-! ## The machinery link (R102 to R108) -/

theorem writeInput (h : s.Routine x.st) (key : Nat) (v : InputValues) :
    s.Routine (x.writeInput key v).st := by
  unfold Txn.writeInput
  split
  · split <;> rename_i hr <;> have hy := h.of_read hr
    · exact hy
    · split
      · exact hy
      · exact (hy.modEngine ..).raiseIf ..
  · split
    · exact h.modRudder ..
    · exact h
  · split
    · exact h.modTank ..
    · exact h
  · exact h
  · exact h

theorem applyOutcome (h : s.Routine x.st) (c : Context) (o : SlotOutcome) :
    s.Routine (x.applyOutcome c o).1.st := by
  unfold Txn.applyOutcome
  split
  · exact h.enterContext ..
  · exact (h.enterContext ..).raise _
  · dsimp only
    split
    · exact (h.enterContext ..).modContext ..
    · exact (h.enterContext ..).raise _
  · exact (h.modContext ..).writeInput ..
  · dsimp only
    split
    · unfold Txn.inputMissed
      split
      · exact h.modContext ..
      · exact ((h.enterContext ..).modContext ..).raise _
    · unfold Txn.contextMissed
      split
      · exact h
      · exact h.enterContext ..

theorem applyResult (h : s.Routine x.st) (r : SlotResult) : s.Routine (x.applyResult r).1.st := by
  unfold Txn.applyResult
  split
  · exact h
  · split
    · exact h.applyOutcome ..
    · exact h

theorem applyResults (rs : List SlotResult) : ∀ x : Txn, s.Routine x.st →
    s.Routine (x.applyResults rs).1.st := by
  induction rs with
  | nil => exact fun _ h => h
  | cons r rs ih => exact fun x h => ih _ (h.applyResult r)

theorem postResults (h : s.Routine x.st) : s.Routine x.postResults.st := by
  refine State.Routine.same (State.Routine.applyResults x.st.link.results
    (x.on fun s => s.modLink fun l => { l with results := [] }) ?_) _
  exact h.same _

/-! ## The Patrol (R15) -/

theorem readEvery (h : s.Routine x.st) (t : Tbl) (key : Nat) (words : List Nat) :
    s.Routine (x.readEvery t key words).1.st := by
  unfold Txn.readEvery
  split
  · exact h
  · exact (h.read ..).read ..

theorem visit (h : s.Routine x.st) : s.Routine x.visit.st := by
  unfold Txn.visit
  split
  · exact h
  · rename_i p _
    have hr := h.readEvery p.table p.key (wordsOf p.table)
    dsimp only
    split
    · exact State.Routine.same (hr.modHeader p.table p.key (·.renew (wordsOf p.table)) fun _ => rfl) _
    · exact hr.same _

/-! ## The tow line (R60 to R68) -/

theorem postWinches (m : Member) (rs : List (Nat × Bool)) : ∀ (k : Nat) (x : Txn), s.Routine x.st →
    s.Routine (x.postWinches m k rs).st := by
  induction rs with
  | nil => exact fun _ _ h => h
  | cons r rs ih => exact fun k x h => ih (k + 1) _ (h.forKeys _ _ fun _ _ hy => hy.postReading ..)

theorem bowAnswered (h : s.Routine x.st) (bow : Bool) : s.Routine (x.bowAnswered bow).st := by
  unfold Txn.bowAnswered
  split
  · exact h.enterBow _
  · have hy := h.readBow
    dsimp only
    split
    · exact hy
    · exact (hy.setBow _).raiseIf ..

theorem postBow (h : s.Routine x.st) (report : Int × Bool) : s.Routine (x.postBow report).st := by
  unfold Txn.postBow
  split <;> rename_i hr <;> have hy := h.of_read hr
  · exact hy
  · split
    · exact hy
    · exact (hy.modEngine ..).raiseIf ..

theorem postMember (h : s.Routine x.st) (m : Member) (n : Node) (readings : List (Nat × Bool))
    (bow : Option (Int × Bool)) : s.Routine (x.postMember m n readings bow).st := by
  unfold Txn.postMember
  have hy := State.Routine.postWinches m readings 1 x h
  dsimp only
  split
  · split
    · exact hy.bowAnswered _
    · exact (hy.bowAnswered _).postBow _
  · exact hy

theorem postingWork (h : s.Routine x.st) (a : Nat) (readings : List (Nat × Bool))
    (bow : Option (Int × Bool)) : s.Routine (Txn.postingWork a readings bow x).st := by
  unfold Txn.postingWork
  split
  · exact h.modTow _
  · refine State.Routine.modTow ?_ _
    split
    · exact h
    · exact h.postMember ..

theorem faultWinch (h : s.Routine x.st) (m : Member) (k : Nat) : s.Routine (x.faultWinch m k).st :=
  State.Routine.touch (h.forKeys _ _ fun c _ hy => hy.setWinchFault c)

theorem clearWinch (h : s.Routine x.st) (m : Member) (k : Nat) : s.Routine (x.clearWinch m k).st :=
  State.Routine.touch (h.forKeys _ _ fun c _ hy => hy.clearWinchFault c)

theorem deliveryWork (h : s.Routine x.st) (a : Nat) (accepted : List Nat) :
    s.Routine (Txn.deliveryWork a accepted x).st := by
  unfold Txn.deliveryWork
  have hi := h.modTow fun t => { t with phase := .ready }
  dsimp only
  split
  · exact hi
  · split
    · exact hi.modTow _
    · exact ((hi.modTow _).forKeys _ _ fun k _ hw => hw.faultWinch ..).forKeys _ _ fun k _ hw => hw.clearWinch ..

theorem faultWork (h : s.Routine x.st) : s.Routine x.faultWork.st :=
  State.Routine.foldl _ _ (fun _ _ hy => hy.faultWinch ..) _ (h.modTow _)

theorem dropWork (h : s.Routine x.st) (a : Nat) : s.Routine (Txn.dropWork a x).st := by
  unfold Txn.dropWork
  dsimp only
  split
  · exact h.modTow _
  · exact (h.modTow _).dropNode a

end State.Routine

end

/-! The laws of the store, each as what its parts say, and what keeps them: routine changes, and changes of one table. -/

/-! ## The laws, part by part -/

namespace State

theorem rosterLaw_iff (s : State) : s.rosterLaw = true ↔
    s.strings.length = 6 ∧ boundaries 0 s.strings = true ∧ s.strings.getLast? = some s.barges.length ∧
      s.barges.length ≤ 48 ∧ (s.barges.map (·.hull)).Nodup ∧
      ∀ p ∈ (s.barges.map (·.string)).zipIdx, p.1 = s.stringAt (p.2 + 1) := by
  have strings : (∀ p ∈ (s.barges.map (·.string)).zipIdx, p.1 = s.stringAt (p.2 + 1)) ↔
      ∀ p ∈ s.barges.zipIdx, p.1.string = s.stringAt (p.2 + 1) := by
    rewrite [List.zipIdx_map, List.forall_mem_map]
    rfl
  simp only [State.rosterLaw, Bool.and_eq_true, decide_eq_true_eq, beq_iff_eq, List.all_eq_true, and_assoc, strings]
  rfl

theorem nodeLaw_iff (s : State) : s.nodeLaw = true ↔
    ((s.barges.map (·.node)).filterMap id).Nodup ∧
      ∀ n ∈ s.barges.map (·.node), n ≠ some 0 ∧ n ≠ some s.policy.boatNode := by
  simp [State.nodeLaw, List.filterMap_map]

theorem recordLaw_iff (s : State) : s.recordLaw = true ↔
    (s.barges.map (·.hull)).Nodup ∧ (s.couplings.map (·.number)).Nodup ∧ (s.engines.map (·.number)).Nodup ∧
      (s.rudders.map (·.channel)).Nodup ∧ (s.tanks.map (·.number)).Nodup ∧ (s.transfers.map (·.number)).Nodup ∧
      ∀ e ∈ s.engines, e.shaped = true := by
  simp [State.recordLaw, and_assoc]

/-- R179: in WHOLE no undamaged coupling carries a crossing flag. -/
def uncrossed (s : State) : Prop := ∀ c ∈ s.couplings, c.header.damaged = true ∨ c.crossing = false

theorem lockageLaw_iff (s : State) : s.lockageLaw = true ↔
    (s.lockage.phase = .whole ↔ s.lockage.breaks = []) ∧ ascendingRanks 0 s.lockage.breaks = true ∧
      s.lockage.breaks.length ≤ 3 ∧
      (s.lockage.phase = .whole → s.lockage.boatCut = .none ∧ s.lockage.remaining = 0 ∧ s.uncrossed) ∧
      (s.lockage.phase = .split → s.lockage.remaining = 0) := by
  have same : (s.lockage.phase == .whole) = (s.lockage.breaks == []) ↔
      (s.lockage.phase = .whole ↔ s.lockage.breaks = []) := by
    rw [Bool.eq_iff_iff, beq_iff_eq, beq_iff_eq]
  have cleared : (s.couplings.all fun c => c.header.damaged || !c.crossing) = true ↔ s.uncrossed := by
    simp only [List.all_eq_true, Bool.or_eq_true, Bool.not_eq_eq_eq_not, Bool.not_true, State.uncrossed]
  have guarded (p : Phase) (b : Bool) : (s.lockage.phase != p || b) = true ↔ (s.lockage.phase = p → b = true) := by
    rw [Bool.or_eq_true, bne_iff_ne, Ne, ← imp_iff_not_or]
  simp only [State.lockageLaw, Bool.and_eq_true, same, decide_eq_true_eq, guarded, cleared, beq_iff_eq, and_assoc]

theorem orderLaw_iff (s : State) :
    s.orderLaw = true ↔ ∀ e ∈ s.engines, ∀ o ∈ e.orders, orderInRange o = true := by
  simp [State.orderLaw, Engine.orders, and_assoc]

end State

theorem orderInRange_iff (o : Int) : orderInRange o = true ↔ -1000 ≤ o ∧ o ≤ 1000 := by
  simp [orderInRange]

namespace State

theorem tankLaw_iff (s : State) :
    s.tankLaw = true ↔ ∀ t ∈ s.tanks, (t.header.damaged || t.balanced) = true := by
  simp [State.tankLaw]

theorem pumpLaw_iff (s : State) :
    s.pumpLaw = true ↔ ∀ t ∈ s.transfers, (!t.pumpRun || t.state == .running) = true := by
  simp only [State.pumpLaw, List.all_eq_true]

theorem thrustLaw_iff (s : State) : s.thrustLaw = true ↔
    (∀ e ∈ s.engines, e.header.damaged = true → e.sent = 0) ∧
      (s.engines.map (·.sentThrust true)).sum ≤ s.status.limitAhead ∧
      (s.engines.map (·.sentThrust false)).sum ≤ s.status.limitAstern := by
  have damaged (e : Engine) : (!e.header.damaged || e.sent == 0) = true ↔ (e.header.damaged = true → e.sent = 0) := by
    cases e.header.damaged <;> simp
  simp only [State.thrustLaw, Bool.and_eq_true, List.all_eq_true, damaged, decide_eq_true_eq, and_assoc]

/-! ## What keeps the laws -/

/-- A change of the state that keeps every law of the store but the one of the sent thrust. -/
structure Keeps (s t : State) : Prop where
  roster : s.rosterLaw = true → t.rosterLaw = true ∧ (s.nodeLaw = true → t.nodeLaw = true)
  record : s.recordLaw = true → t.recordLaw = true
  lockage : s.lockageLaw = true → t.lockageLaw = true
  order : s.orderLaw = true → t.orderLaw = true
  tank : s.tankLaw = true → t.tankLaw = true
  pump : s.pumpLaw = true → t.pumpLaw = true

/-- The work of a transaction: it keeps the laws of the store and leaves the port, the arbiter and the queue alone. -/
structure Works (s t : State) : Prop where
  port : s.SamePort t
  keeps : s.Keeps t
  thrust : s.recordLaw = true → s.thrustLaw = true → t.thrustLaw = true

namespace Keeps

theorem refl (s : State) : s.Keeps s := ⟨fun h => ⟨h, id⟩, id, id, id, id, id⟩
theorem trans {s t u : State} (h : s.Keeps t) (k : t.Keeps u) : s.Keeps u where
  roster r := ⟨(k.roster (h.roster r).1).1, (k.roster (h.roster r).1).2 ∘ (h.roster r).2⟩
  record := k.record ∘ h.record
  lockage := k.lockage ∘ h.lockage
  order := k.order ∘ h.order
  tank := k.tank ∘ h.tank
  pump := k.pump ∘ h.pump

end Keeps

namespace Works
theorem refl (s : State) : s.Works s := ⟨.refl s, .refl s, fun _ => id⟩
theorem trans {s t u : State} (h : s.Works t) (k : t.Works u) : s.Works u :=
  ⟨h.port.trans k.port, h.keeps.trans k.keeps, fun r l => k.thrust (h.keeps.record r) (h.thrust r l)⟩

end Works

end State

/-! ### Routine changes -/

theorem map_eq_of_forall₂ {α β : Type} {R : α → α → Prop} {l m : List α} {f : α → β} (h : List.Forall₂ R l m)
    (hf : ∀ a b, R a b → f b = f a) : m.map f = l.map f := by
  induction h with
  | nil => rfl
  | cons hab _ ih => rw [List.map_cons, List.map_cons, ih, hf _ _ hab]

theorem forall_mem_of_forall₂ {α : Type} {R : α → α → Prop} {p : α → Prop} {l m : List α} (h : List.Forall₂ R l m)
    (hp : ∀ a b, R a b → p a → p b) (hl : ∀ a ∈ l, p a) : ∀ b ∈ m, p b := by
  induction h with
  | nil => exact fun _ hb => absurd hb List.not_mem_nil
  | cons hab _ ih =>
    rewrite [List.forall_mem_cons] at hl ⊢
    exact ⟨hp _ _ hab hl.1, ih hl.2⟩

namespace Engine.Routine

theorem shaped {e f : Engine} (h : e.Routine f) : f.shaped = e.shaped := by
  simp only [Engine.shaped, h.number, h.station, h.bowBarge, h.meter, h.meterFactor, h.supply]

/-- R126: an engine that is sent its order or 0 is sent no more thrust than before. -/
theorem sentThrust_le {e f : Engine} (h : e.Routine f) (ahead : Bool) :
    f.sentThrust ahead ≤ e.sentThrust ahead := by
  obtain same | zero := h.sent
  · simp only [Engine.sentThrust, h.number, h.rated, same, le_refl]
  · simp [Engine.sentThrust, zero]

end Engine.Routine

namespace State

/-- The law of the roster sees hulls and strings of the barges. -/
theorem rosterLaw_congr {s t : State} (strings : t.strings = s.strings)
    (hulls : t.barges.map (·.hull) = s.barges.map (·.hull)) (names : t.barges.map (·.string) = s.barges.map (·.string)) :
    t.rosterLaw = s.rosterLaw := by
  have length : t.barges.length = s.barges.length := by simpa using congrArg List.length hulls
  rewrite [Bool.eq_iff_iff, State.rosterLaw_iff, State.rosterLaw_iff, strings, hulls, names, length]
  simp only [State.stringAt, strings]

/-- The laws of the roster see hulls, strings and node addresses of the barges. -/
theorem roster_congr {s t : State} (strings : t.strings = s.strings) (policy : t.policy = s.policy)
    (hulls : t.barges.map (·.hull) = s.barges.map (·.hull)) (names : t.barges.map (·.string) = s.barges.map (·.string))
    (nodes : t.barges.map (·.node) = s.barges.map (·.node)) :
    t.rosterLaw = s.rosterLaw ∧ t.nodeLaw = s.nodeLaw := by
  refine ⟨State.rosterLaw_congr strings hulls names, ?_⟩
  rw [Bool.eq_iff_iff, State.nodeLaw_iff, State.nodeLaw_iff, nodes, policy]

namespace Calm

theorem hulls {s t : State} (h : s.Calm t) : t.barges.map (·.hull) = s.barges.map (·.hull) :=
  map_eq_of_forall₂ h.barges fun _ _ r => r.hull

theorem keeps {s t : State} (h : s.Calm t) : s.Keeps t where
  roster := by
    have congr := State.roster_congr h.strings h.policy h.hulls (map_eq_of_forall₂ h.barges fun _ _ r => r.string)
      (map_eq_of_forall₂ h.barges fun _ _ r => r.node)
    rewrite [congr.1, congr.2]
    exact fun r => ⟨r, id⟩
  record := by
    rewrite [State.recordLaw_iff, State.recordLaw_iff, h.hulls, map_eq_of_forall₂ h.couplings fun _ _ r => r.number,
      map_eq_of_forall₂ h.engines fun _ _ r => r.number, map_eq_of_forall₂ h.rudders fun _ _ r => r.channel,
      map_eq_of_forall₂ h.tanks fun _ _ r => r.number, map_eq_of_forall₂ h.transfers fun _ _ r => r.number]
    rintro ⟨h1, h2, h3, h4, h5, h6, shaped⟩
    exact ⟨h1, h2, h3, h4, h5, h6, forall_mem_of_forall₂ h.engines (fun _ _ r hs => r.shaped.trans hs) shaped⟩
  lockage := by
    rewrite [State.lockageLaw_iff, State.lockageLaw_iff, h.lockage]
    rintro ⟨h1, h2, h3, whole, h5⟩
    refine ⟨h1, h2, h3, fun hw => ⟨(whole hw).1, (whole hw).2.1, ?_⟩, h5⟩
    refine forall_mem_of_forall₂ h.couplings (fun c d r hc => ?_) (whole hw).2.2
    exact hc.imp r.damage fun clear => by
      have := r.crossing
      rewrite [clear] at this
      exact Bool.eq_false_iff.mpr fun hd => absurd (this hd) (by decide)
  order := by
    rewrite [State.orderLaw_iff, State.orderLaw_iff]
    refine forall_mem_of_forall₂ h.engines fun e f r he o ho => ?_
    obtain rfl | ho := r.orders o ho
    · rfl
    · exact he o ho
  tank := by
    rewrite [State.tankLaw_iff, State.tankLaw_iff]
    exact forall_mem_of_forall₂ h.tanks fun _ _ r => r.account
  pump := by
    rewrite [State.pumpLaw_iff, State.pumpLaw_iff]
    exact forall_mem_of_forall₂ h.transfers fun _ _ r => r.pump

end Calm

end State

theorem sum_le_of_forall₂ {α : Type} {R : α → α → Prop} {l m : List α} {f g : α → Nat} (h : List.Forall₂ R l m)
    (hf : ∀ a b, R a b → g b ≤ f a) : (m.map g).sum ≤ (l.map f).sum := by
  induction h with
  | nil => exact le_refl _
  | cons hab _ ih =>
    rewrite [List.map_cons, List.map_cons, List.sum_cons, List.sum_cons]
    exact Nat.add_le_add (hf _ _ hab) ih

namespace State

theorem Calm.thrust {s t : State} (h : s.Calm t) : s.thrustLaw = true → t.thrustLaw = true := by
  rewrite [State.thrustLaw_iff, State.thrustLaw_iff, h.limitAhead, h.limitAstern]
  rintro ⟨damaged, ahead, astern⟩
  refine ⟨forall_mem_of_forall₂ h.engines (fun e f r he hd => ?_) damaged,
    (sum_le_of_forall₂ h.engines fun _ _ r => r.sentThrust_le true).trans ahead,
    (sum_le_of_forall₂ h.engines fun _ _ r => r.sentThrust_le false).trans astern⟩
  obtain hd | hz := r.damage hd
  · exact r.sent.elim (fun same => same.trans (he hd)) id
  · exact hz

theorem Routine.works {s t : State} (h : s.Routine t) : s.Works t := ⟨h.port, h.calm.keeps, fun _ => h.calm.thrust⟩

namespace Works

/-- A change that is routine but for the lockage record keeps the laws when it keeps that record's. -/
theorem of_lockage {s t : State} (port : s.SamePort t) (calm : s.Calm { t with lockage := s.lockage })
    (lockage : s.lockageLaw = true → t.lockageLaw = true) : s.Works t :=
  ⟨port, { calm.keeps with lockage := lockage }, fun _ => calm.thrust⟩

/-! ### Changes of one table -/

theorem barges {s : State} (barges : List Barge) (strings : List Nat)
    (hulls : (s.barges.map (·.hull)).Nodup → (barges.map (·.hull)).Nodup)
    (roster : s.rosterLaw = true → State.rosterLaw { s with barges := barges, strings := strings } = true ∧
      (s.nodeLaw = true → State.nodeLaw { s with barges := barges, strings := strings } = true)) :
    s.Works { s with barges := barges, strings := strings } where
  port := ⟨rfl, rfl, rfl, rfl, rfl⟩
  thrust _ := id
  keeps :=
    { State.Keeps.refl s with
      roster := roster
      record := by
        rewrite [State.recordLaw_iff, State.recordLaw_iff]
        exact And.imp_left hulls }

theorem couplings {s : State} (couplings : List Coupling)
    (numbers : (s.couplings.map (·.number)).Nodup → (couplings.map (·.number)).Nodup)
    (crossing : s.lockage.phase = .whole → s.uncrossed → State.uncrossed { s with couplings := couplings }) :
    s.Works { s with couplings := couplings } where
  port := ⟨rfl, rfl, rfl, rfl, rfl⟩
  thrust _ := id
  keeps :=
    { State.Keeps.refl s with
      record := by
        rewrite [State.recordLaw_iff, State.recordLaw_iff]
        exact And.imp_right (And.imp_left numbers)
      lockage := by
        rewrite [State.lockageLaw_iff, State.lockageLaw_iff]
        rintro ⟨h1, h2, h3, whole, h5⟩
        exact ⟨h1, h2, h3, fun hw => ⟨(whole hw).1, (whole hw).2.1, crossing hw (whole hw).2.2⟩, h5⟩ }

end Works

theorem Keeps.engines {s : State} (engines : List Engine)
    (numbers : (s.engines.map (·.number)).Nodup → (engines.map (·.number)).Nodup)
    (shaped : (∀ e ∈ s.engines, e.shaped = true) → ∀ e ∈ engines, e.shaped = true)
    (order : s.orderLaw = true → State.orderLaw { s with engines := engines } = true) :
    s.Keeps { s with engines := engines } :=
  { State.Keeps.refl s with
    order := order
    record := by
      rewrite [State.recordLaw_iff, State.recordLaw_iff]
      rintro ⟨h1, h2, h3, h4, h5, h6, h7⟩
      exact ⟨h1, h2, numbers h3, h4, h5, h6, shaped h7⟩ }

namespace Works

theorem engines {s : State} (engines : List Engine)
    (numbers : (s.engines.map (·.number)).Nodup → (engines.map (·.number)).Nodup)
    (shaped : (∀ e ∈ s.engines, e.shaped = true) → ∀ e ∈ engines, e.shaped = true)
    (order : s.orderLaw = true → State.orderLaw { s with engines := engines } = true)
    (thrust : (s.engines.map (·.number)).Nodup → s.thrustLaw = true →
      State.thrustLaw { s with engines := engines } = true) :
    s.Works { s with engines := engines } where
  port := ⟨rfl, rfl, rfl, rfl, rfl⟩
  thrust record := thrust ((s.recordLaw_iff.mp record).2.2.1)
  keeps := .engines engines numbers shaped order

theorem rudders {s : State} (rudders : List Rudder)
    (channels : (s.rudders.map (·.channel)).Nodup → (rudders.map (·.channel)).Nodup) :
    s.Works { s with rudders := rudders } where
  port := ⟨rfl, rfl, rfl, rfl, rfl⟩
  thrust _ := id
  keeps :=
    { State.Keeps.refl s with
      record := by
        rewrite [State.recordLaw_iff, State.recordLaw_iff]
        rintro ⟨h1, h2, h3, h4, rest⟩
        exact ⟨h1, h2, h3, channels h4, rest⟩ }

theorem tanks {s : State} (tanks : List Tank)
    (numbers : (s.tanks.map (·.number)).Nodup → (tanks.map (·.number)).Nodup)
    (account : s.tankLaw = true → State.tankLaw { s with tanks := tanks } = true) :
    s.Works { s with tanks := tanks } where
  port := ⟨rfl, rfl, rfl, rfl, rfl⟩
  thrust _ := id
  keeps :=
    { State.Keeps.refl s with
      tank := account
      record := by
        rewrite [State.recordLaw_iff, State.recordLaw_iff]
        rintro ⟨h1, h2, h3, h4, h5, rest⟩
        exact ⟨h1, h2, h3, h4, numbers h5, rest⟩ }

theorem transfers {s : State} (transfers : List Transfer)
    (numbers : (s.transfers.map (·.number)).Nodup → (transfers.map (·.number)).Nodup)
    (pump : s.pumpLaw = true → State.pumpLaw { s with transfers := transfers } = true) :
    s.Works { s with transfers := transfers } where
  port := ⟨rfl, rfl, rfl, rfl, rfl⟩
  thrust _ := id
  keeps :=
    { State.Keeps.refl s with
      pump := pump
      record := by
        rewrite [State.recordLaw_iff, State.recordLaw_iff]
        rintro ⟨h1, h2, h3, h4, h5, h6, rest⟩
        exact ⟨h1, h2, h3, h4, h5, numbers h6, rest⟩ }

end Works

end State

/-- R1: a record entered under a free key keeps keys unique. -/
theorem nodup_insertByKey {α : Type} {key : α → Nat} {a : α} {l : List α} (free : key a ∉ l.map key)
    (h : (l.map key).Nodup) : ((insertByKey key a l).map key).Nodup := by
  rewrite [((insertByKey_perm key a l).map key).nodup_iff, List.map_cons, List.nodup_cons]
  exact ⟨free, h⟩

theorem forall_mem_insertByKey {α : Type} {key : α → Nat} {a : α} {l : List α} {p : α → Prop} (ha : p a)
    (hl : ∀ b ∈ l, p b) : ∀ b ∈ insertByKey key a l, p b := fun b hb =>
  ((mem_insertByKey key a b l).mp hb).elim (fun h => h ▸ ha) (hl b)

theorem nodup_map_filter {α : Type} {key : α → Nat} {l : List α} (p : α → Bool) (h : (l.map key).Nodup) :
    ((l.filter p).map key).Nodup := h.sublist (List.filter_sublist.map key)

theorem forall_mem_update {α : Type} {q : α → Bool} {f : α → α} {l : List α} {p : α → Prop}
    (hf : ∀ a ∈ l, q a = true → p a → p (f a)) (hl : ∀ a ∈ l, p a) : ∀ b ∈ update q f l, p b := by
  intro b hb
  obtain ⟨a, ha, rfl⟩ := (mem_update q f l b).mp hb
  split
  · exact hf a ha ‹_› (hl a ha)
  · exact hl a ha

/-- A key that a lookup does not find is free. -/
theorem not_mem_map_of_find?_eq_none {α : Type} {key : α → Nat} {l : List α} {k : Nat}
    (h : (l.find? (key · == k)).isSome = false) : k ∉ l.map key := by
  rewrite [Option.isSome_eq_false_iff, Option.isNone_iff_eq_none, List.find?_eq_none] at h
  simpa using h

/-! The end of a transaction keeps the laws: the completion test and the boat cut (R183, R186), changes of binding and
commands. BREAK and REMAKE. -/

/-! ## Work that is routine but for the lockage record -/

namespace State

/-- Work that is routine but for the lockage record. -/
structure RoutineButLockage (s t : State) : Prop where
  port : s.SamePort t
  calm : s.Calm { t with lockage := s.lockage }

theorem Routine.butLockage {s t : State} (h : s.Routine t) : s.RoutineButLockage t :=
  ⟨h.port, { h.calm with lockage := rfl }⟩

theorem RoutineButLockage.trans {s t u : State} (h : s.RoutineButLockage t) (k : t.RoutineButLockage u) :
    s.RoutineButLockage u := by
  have calm : State.Calm { t with lockage := s.lockage } { u with lockage := s.lockage } := { k.calm with lockage := rfl }
  exact ⟨h.port.trans k.port, h.calm.trans calm⟩

end State

theorem Txn.modLockage_butLockage (x : Txn) (f : Lockage → Lockage) : x.st.RoutineButLockage (x.modLockage f).st :=
  ⟨⟨rfl, rfl, rfl, rfl, rfl⟩, .refl x.st⟩

namespace State.RoutineButLockage

theorem modLockage {s : State} {x : Txn} (h : s.RoutineButLockage x.st) (f : Lockage → Lockage) :
    s.RoutineButLockage (x.modLockage f).st := h.trans (x.modLockage_butLockage f)

theorem raiseIf {s : State} {x : Txn} (h : s.RoutineButLockage x.st) (b : Bool) (c : Cause) :
    s.RoutineButLockage (x.raiseIf b c).st := h.trans ((State.Routine.refl x.st).raiseIf b c).butLockage

theorem returnWhole {s : State} {x : Txn} (h : s.RoutineButLockage x.st) :
    s.RoutineButLockage x.returnWhole.st := by
  refine (h.modLockage fun _ => Lockage.initial).trans (State.Routine.butLockage ?_)
  refine (State.Routine.refl _).forKeys _ _ fun k y hy => hy.modCoupling _ _ _ ?_
  exact fun c => ⟨rfl, fun hc => absurd hc Bool.false_ne_true, id⟩

theorem complete {s : State} {x : Txn} (h : s.RoutineButLockage x.st) (announce : Bool) :
    s.RoutineButLockage (x.complete announce).st := by
  unfold Txn.complete
  have hy := h.modLockage fun l => { l with remaining := x.st.crossingRemaining }
  dsimp only
  split
  · exact hy
  · exact hy
  · split
    · exact (hy.modLockage _).raiseIf ..
    · exact hy
  · split
    · exact hy.returnWhole.raiseIf ..
    · exact hy

theorem evaluateBoatCut {s : State} {x : Txn} (h : s.RoutineButLockage x.st) :
    s.RoutineButLockage x.evaluateBoatCut.st := by
  unfold Txn.evaluateBoatCut
  split
  · exact h
  · exact (h.modLockage _).raiseIf ..

theorem lockageTest {s : State} {x : Txn} (h : s.RoutineButLockage x.st) (announce : Bool) :
    s.RoutineButLockage (x.lockageTest announce).st := by
  unfold Txn.lockageTest
  split
  · exact h
  · have reads := (State.Routine.refl x.st).readAll .couplings (x.st.couplings.map (·.number)) [11, 15]
    exact ((h.trans reads.butLockage).complete announce).evaluateBoatCut

end State.RoutineButLockage

/-! ## The law of the lockage record -/

theorem State.lockageLaw_congr {s t : State} (lockage : t.lockage = s.lockage) (couplings : t.couplings = s.couplings) :
    t.lockageLaw = s.lockageLaw := by
  simp only [State.lockageLaw, lockage, couplings]

namespace Txn

theorem raiseIf_lockage (x : Txn) (b : Bool) (c : Cause) : (x.raiseIf b c).st.lockage = x.st.lockage := by
  cases b <;> rfl
theorem raiseIf_couplings (x : Txn) (b : Bool) (c : Cause) : (x.raiseIf b c).st.couplings = x.st.couplings := by
  cases b <;> rfl

theorem raiseIf_lockageLaw (x : Txn) (b : Bool) (c : Cause) : (x.raiseIf b c).st.lockageLaw = x.st.lockageLaw :=
  State.lockageLaw_congr (x.raiseIf_lockage b c) (x.raiseIf_couplings b c)

end Txn

/-- Outside WHOLE the law is that of the break ranks, and of crossing remaining in SPLIT. -/
theorem State.lockageLaw_outside {s : State} (outside : s.lockage.phase ≠ .whole) : s.lockageLaw = true ↔
    s.lockage.breaks ≠ [] ∧ ascendingRanks 0 s.lockage.breaks = true ∧ s.lockage.breaks.length ≤ 3 ∧
      (s.lockage.phase = .split → s.lockage.remaining = 0) := by
  rewrite [State.lockageLaw_iff]
  tauto

namespace Txn

/-- R183: clearing crossing flags number by number clears the flag of every coupling whose number is taken. -/
theorem clearFlags_spec (keys : List Nat) : ∀ x : Txn,
    List.Forall₂ (fun c d : Coupling => d.number = c.number ∧ d.header.damaged = c.header.damaged ∧
        (c.crossing = false ∨ c.number ∈ keys → d.crossing = false)) x.st.couplings
      (x.forKeys keys fun k y => y.modCoupling k [15] fun c => { c with crossing := false }).st.couplings := by
  induction keys with
  | nil => exact fun x => List.forall₂_same.mpr fun c _ => ⟨rfl, rfl, by simp⟩
  | cons k keys ih =>
    intro x
    have first : List.Forall₂ (fun c d : Coupling => d.number = c.number ∧ d.header.damaged = c.header.damaged ∧
        (c.crossing = false ∨ c.number = k → d.crossing = false)) x.st.couplings
        (x.modCoupling k [15] fun c => { c with crossing := false }).st.couplings := by
      rewrite [Txn.modCoupling_couplings, update, List.forall₂_map_right_iff, List.forall₂_same]
      intro c _
      by_cases hc : c.number = k
      · rewrite [if_pos (by simpa using hc)]
        exact ⟨rfl, rfl, fun _ => rfl⟩
      · rewrite [if_neg (by simpa using hc)]
        exact ⟨rfl, rfl, fun h => h.resolve_right hc⟩
    have rest := ih (x.modCoupling k [15] fun c => { c with crossing := false })
    refine forall₂_comp (fun c d e hab hbc => ⟨hbc.1.trans hab.1, hbc.2.1.trans hab.2.1, fun h => hbc.2.2 ?_⟩) first rest
    rewrite [List.mem_cons, ← or_assoc] at h
    rewrite [hab.1]
    exact h.imp hab.2.2 id

theorem returnWhole_lockageLaw (x : Txn) : x.returnWhole.st.lockageLaw = true := by
  let keys := (x.st.couplings.filter fun c => !c.header.damaged).map (·.number)
  have frame := ((State.Routine.refl (x.modLockage fun _ => Lockage.initial).st).forKeys keys
    (fun k y => y.modCoupling k [15] fun c => { c with crossing := false })
    fun k y hy => hy.modCoupling _ _ _ fun c => ⟨rfl, fun hc => absurd hc Bool.false_ne_true, id⟩).calm.lockage
  have lockage : x.returnWhole.st.lockage = Lockage.initial := frame
  have uncrossed : x.returnWhole.st.uncrossed := by
    have flags := Txn.clearFlags_spec keys (x.modLockage fun _ => Lockage.initial)
    have all : ∀ c ∈ x.st.couplings, c.header.damaged = true ∨ c.number ∈ keys := by
      intro c hc
      cases hd : c.header.damaged
      · exact .inr (List.mem_map.mpr ⟨c, List.mem_filter.mpr ⟨hc, by simp [hd]⟩, rfl⟩)
      · exact .inl rfl
    intro d hd
    obtain ⟨c, hc, -, damaged, clear⟩ : ∃ c ∈ x.st.couplings, d.number = c.number ∧
        d.header.damaged = c.header.damaged ∧ (c.crossing = false ∨ c.number ∈ keys → d.crossing = false) := by
      obtain ⟨i, hi, rfl⟩ := List.getElem_of_mem hd
      exact ⟨x.st.couplings[i]'(flags.length_eq ▸ hi), List.getElem_mem _, flags.get _ hi⟩
    exact (all c hc).imp damaged.trans fun hk => clear (.inr hk)
  rewrite [State.lockageLaw_iff, lockage]
  exact ⟨⟨fun _ => rfl, fun _ => rfl⟩, rfl, by decide, fun _ => ⟨rfl, rfl, uncrossed⟩, fun _ => rfl⟩

theorem complete_lockageLaw (x : Txn) (announce : Bool) (outside : x.st.lockage.phase ≠ .whole)
    (law : x.st.lockageLaw = true) : (x.complete announce).st.lockageLaw = true := by
  obtain ⟨ranks, ascending, few, done⟩ := (State.lockageLaw_outside outside).mp law
  have counted (hs : x.st.lockage.phase = .split → x.st.crossingRemaining = 0) :
      (x.modLockage fun l => { l with remaining := x.st.crossingRemaining }).st.lockageLaw = true := by
    refine (State.lockageLaw_outside ?_).mpr ⟨ranks, ascending, few, hs⟩
    exact outside
  unfold Txn.complete
  dsimp only
  split <;> rename_i phase
  · exact absurd phase outside
  · exact counted fun _ => by simp [State.crossingRemaining, phase]
  · split <;> rename_i left
    · rewrite [Txn.raiseIf_lockageLaw]
      exact (State.lockageLaw_outside (s := (Txn.modLockage _ _).st) (by simp)).mpr ⟨ranks, ascending, few, fun _ => left⟩
    · exact counted fun h => by rewrite [phase] at h; cases h
  · split
    · rewrite [Txn.raiseIf_lockageLaw]
      exact Txn.returnWhole_lockageLaw _
    · exact counted fun h => by rewrite [phase] at h; cases h

theorem evaluateBoatCut_lockageLaw (x : Txn) (law : x.st.lockageLaw = true) :
    x.evaluateBoatCut.st.lockageLaw = true := by
  unfold Txn.evaluateBoatCut
  split <;> rename_i phase
  · exact law
  · dsimp only
    rewrite [Txn.raiseIf_lockageLaw]
    refine (State.lockageLaw_outside ?_).mpr ?_
    · exact phase
    · exact (State.lockageLaw_outside phase).mp law

theorem lockageTest_lockageLaw (x : Txn) (announce : Bool) (law : x.st.lockageLaw = true) :
    (x.lockageTest announce).st.lockageLaw = true := by
  unfold Txn.lockageTest
  split <;> rename_i phase
  · exact law
  · have reads := (State.Routine.refl x.st).readAll .couplings (x.st.couplings.map (·.number)) [11, 15]
    refine Txn.evaluateBoatCut_lockageLaw _ (Txn.complete_lockageLaw _ _ ?_ (reads.calm.keeps.lockage law))
    rwa [reads.calm.lockage]

theorem lockageTest_works (x : Txn) (announce : Bool) : x.st.Works (x.lockageTest announce).st := by
  have routine := (State.Routine.refl x.st).butLockage.lockageTest announce
  exact .of_lockage routine.port routine.calm (x.lockageTest_lockageLaw announce)

/-! ## The end of a transaction -/

theorem commit_works (x : Txn) (before : State) : x.st.Works (x.commit before) := by
  unfold Txn.commit
  have test : x.st.Works (if x.touched then x.lockageTest true else x).st := by
    split
    · exact x.lockageTest_works true
    · exact .refl _
  exact test.trans (((State.Routine.refl _).settleBindings before).placeCommands _).works

end Txn

/-! ## BREAK and REMAKE (R181 to R185) -/

namespace State

/-- The lockage record plays no part in a routine change. -/
theorem Calm.withLockage {s t : State} (h : s.Calm t) (l : Lockage) :
    State.Calm { s with lockage := l } { t with lockage := l } := { h with lockage := rfl }

theorem SamePort.withLockage {s t : State} (h : s.SamePort t) (l m : Lockage) :
    State.SamePort { s with lockage := l } { t with lockage := m } := ⟨h.pending, h.arbiter, h.requests, h.responses, h.asked⟩

namespace Works

/-- The lockage record takes a value outside WHOLE that meets its law. -/
theorem setLockage {s : State} (l : Lockage)
    (law : s.lockageLaw = true → State.lockageLaw { s with lockage := l } = true) : s.Works { s with lockage := l } :=
  .of_lockage ⟨rfl, rfl, rfl, rfl, rfl⟩ (.refl s) law

/-- R180: the flags of undamaged couplings may take any value outside WHOLE. -/
theorem flagCouplings {s : State} (f : Coupling → Coupling) (number : ∀ c, (f c).number = c.number)
    (outside : s.lockage.phase ≠ .whole) :
    s.Works { s with couplings := update (fun c => !c.header.damaged) f s.couplings } :=
  .couplings _ (fun h => by rwa [map_update _ f _ _ number]) fun hw => absurd hw outside

end Works

end State

namespace Txn

/-- R182, R185: the work of a BREAK, seen from the state in BREAKING with which it begins. -/
theorem breakWork_works (x : Txn) :
    State.Works { x.st with lockage := { x.st.lockage with phase := .breaking } } x.breakWork.st := by
  have orders := (State.Routine.refl x.st).orderCrossing [9, 11] (fun k z => z.giveRelease k) fun k y hy =>
    hy.giveRelease k
  let y := x.orderCrossing [9, 11] fun k z => z.giveRelease k
  let z := (y.modLockage fun l => { l with phase := .breaking }).raise .lockage
  have entered : State.Routine { x.st with lockage := { x.st.lockage with phase := .breaking } } z.st := by
    refine State.Routine.raise (x := y.modLockage fun l => { l with phase := .breaking })
      ⟨orders.port.withLockage _ _, ?_⟩ .lockage
    have calm := orders.calm.withLockage { x.st.lockage with phase := .breaking }
    rewrite [← orders.calm.lockage] at calm ⊢
    exact calm
  exact entered.works.trans (z.lockageTest_works false)

/-- R184: the work of a REMAKE, in a phase that is not WHOLE. -/
theorem remakeWork_works (x : Txn) (outside : x.st.lockage.phase ≠ .whole) : x.st.Works x.remakeWork.st := by
  let y := (x.modLockage fun l => { l with phase := .remaking }).raise .lockage
  have entered : x.st.Works (x.modLockage fun l => { l with phase := .remaking }).st := by
    refine .setLockage _ fun law => ?_
    obtain ⟨ranks, ascending, few, -⟩ := (State.lockageLaw_outside outside).mp law
    refine (State.lockageLaw_outside ?_).mpr ⟨ranks, ascending, few, nofun⟩
    exact nofun
  have orders := ((State.Routine.refl (x.modLockage fun l => { l with phase := .remaking }).st).raise .lockage).orderCrossing
    [8, 9, 11, 13] (fun k w => w.giveMake k) fun k y hy => hy.giveMake k
  exact (entered.trans orders.works).trans (Txn.lockageTest_works _ true)

end Txn

/-- R181: every rank taken lies above the one before it. -/
theorem breakItem_accepts {s : State} {is : List Item} {i : Item} (h : s.breakItem is i = none) :
    1 ≤ i.value ∧ i.value ≤ 7 ∧ (valueOf is (i.field - 1)).getD 0 < i.value := by
  simp only [State.breakItem, refuseIf, within] at h
  grind

/-- A field that is given has an item of its number and value. -/
theorem valueOf_eq_some {is : List Item} {f : Nat} {v : Int} (h : valueOf is f = some v) :
    ∃ i ∈ is, i.field = f ∧ i.value = v := by
  simp only [valueOf, Option.map_eq_some_iff] at h
  obtain ⟨i, hi, rfl⟩ := h
  exact ⟨i, List.mem_of_find?_eq_some hi, by simpa using List.find?_some hi, rfl⟩

/-- Every check of a list of checks that finds no failure passes. -/
theorem firstFailure_eq_none {cs : List (Option Result)} (h : firstFailure cs = none) : ∀ c ∈ cs, c = none := by
  induction cs with
  | nil => simp
  | cons c cs ih =>
    cases c with
    | none => exact List.forall_mem_cons.mpr ⟨rfl, ih h⟩
    | some r => cases h

theorem checkItems_eq_none {is : List Item} {check : Item → Option Result} (h : checkItems is check = none) :
    ∀ i ∈ is, check i = none := fun _ hi => firstFailure_eq_none h _ (List.mem_map_of_mem hi)

theorem gives_iff (is : List Item) (f : Nat) : gives is f = true ↔ ∃ v, valueOf is f = some v := by
  simp only [gives, valueOf, List.any_eq_true, Option.map_eq_some_iff]
  constructor
  · rintro ⟨i, hi, hf⟩
    obtain ⟨j, hj⟩ := Option.isSome_iff_exists.mp (List.find?_isSome (p := fun i : Item => i.field == f).mpr ⟨i, hi, hf⟩)
    exact ⟨j.value, j, hj, rfl⟩
  · rintro ⟨v, i, hi, -⟩
    exact ⟨i, List.mem_of_find?_eq_some hi, List.find?_some (p := fun i : Item => i.field == f) hi⟩

theorem valueOf_eq_none_iff (is : List Item) (f : Nat) : valueOf is f = none ↔ gives is f = false := by
  rewrite [← Bool.not_eq_true, gives_iff]
  cases valueOf is f <;> simp

/-- R181: the ranks of a BREAK whose items pass are one to three, ascending in 1..7. -/
theorem breakRanks_ascending {s : State} {is : List Item} {ranks : List Int} (h : breakRanks is = some ranks)
    (checked : checkItems is (s.breakItem is) = none) :
    ranks.map Int.toNat ≠ [] ∧ ascendingRanks 0 (ranks.map Int.toNat) = true ∧ (ranks.map Int.toNat).length ≤ 3 := by
  have rank {f : Nat} {v : Int} (hv : valueOf is f = some v) : 1 ≤ v ∧ v ≤ 7 ∧ (valueOf is (f - 1)).getD 0 < v := by
    obtain ⟨i, hi, rfl, rfl⟩ := valueOf_eq_some hv
    exact breakItem_accepts (checkItems_eq_none checked i hi)
  unfold breakRanks at h
  split at h
  · cases h
  · split at h
    · cases h
    · rename_i noGap
      split at h
      · cases h
      · rename_i first
        cases h
        obtain ⟨a, ha⟩ := (gives_iff is 2).mp (by simpa using first)
        have ra := rank ha
        cases hb : valueOf is 3 with
        | none =>
          have hc : valueOf is 4 = none := by
            rewrite [valueOf_eq_none_iff] at hb ⊢
            simpa [hb] using noGap
          simp only [List.filterMap_cons, List.filterMap_nil, ha, hb, hc, List.map_cons, List.map_nil, ascendingRanks,
            List.length_cons, List.length_nil, Bool.and_eq_true, decide_eq_true_eq, and_true]
          exact ⟨nofun, by omega, by omega⟩
        | some b =>
          have rb := rank hb
          rewrite [show 3 - 1 = 2 from rfl, ha, Option.getD_some] at rb
          cases hc : valueOf is 4 with
          | none =>
            simp only [List.filterMap_cons, List.filterMap_nil, ha, hb, hc, List.map_cons, List.map_nil, ascendingRanks,
              List.length_cons, List.length_nil, Bool.and_eq_true, decide_eq_true_eq, and_true]
            exact ⟨nofun, by omega, by omega⟩
          | some c =>
            have rc := rank hc
            rewrite [show 4 - 1 = 3 from rfl, hb, Option.getD_some] at rc
            simp only [List.filterMap_cons, List.filterMap_nil, ha, hb, hc, List.map_cons, List.map_nil, ascendingRanks,
              List.length_cons, List.length_nil, Bool.and_eq_true, decide_eq_true_eq, and_true]
            exact ⟨nofun, by omega, by omega⟩

theorem requestBreak_works (q : Request) (x : Txn) : x.st.Works (requestBreak q x).1.st := by
  unfold requestBreak
  split
  · exact .refl _
  · rename_i is ranks taken
    have ranked : breakRanks is = some ranks := by
      obtain ⟨is', -, h⟩ := Option.bind_eq_some_iff.mp taken
      obtain ⟨r, hr, he⟩ := Option.map_eq_some_iff.mp h
      cases he
      exact hr
    dsimp only
    split
    · exact .refl _
    · rename_i passed
      split
      · exact .refl _
      · rename_i phase
        have reads := (State.Routine.refl x.st).readAll .engines
          ((x.st.engines.filter fun e => e.number != 5).map (·.number)) [12]
        generalize x.readAll .engines ((x.st.engines.filter fun e => e.number != 5).map (·.number)) [12] = y at reads ⊢
        split
        · exact reads.works
        · by_cases again : x.st.lockage.phase = .remaking
          · rewrite [if_pos again]
            have begun : y.st.Works { y.st with lockage := { y.st.lockage with phase := .breaking } } := by
              refine .setLockage _ fun law => ?_
              have outside : y.st.lockage.phase ≠ .whole := by rewrite [reads.calm.lockage, again]; exact nofun
              obtain ⟨ranks, ascending, few, -⟩ := (State.lockageLaw_outside outside).mp law
              refine (State.lockageLaw_outside ?_).mpr ⟨ranks, ascending, few, nofun⟩
              exact nofun
            exact (reads.works.trans begun).trans y.breakWork_works
          · rewrite [if_neg again] at passed ⊢
            have law := breakRanks_ascending ranked passed
            let l : Lockage := { y.st.lockage with phase := .breaking, breaks := ranks.map Int.toNat }
            have begun : y.st.Works { y.st with lockage := l } := .setLockage l fun _ =>
              (State.lockageLaw_outside (s := { y.st with lockage := l }) nofun).mpr ⟨law.1, law.2.1, law.2.2, nofun⟩
            let cut : State := { y.st with lockage := { y.st.lockage with breaks := ranks.map Int.toNat } }
            have flagged := State.Works.flagCouplings (s := { y.st with lockage := l })
              (fun c => Coupling.renew { c with crossing := cut.endsCross c.endA c.endB } [15]) (fun _ => rfl) nofun
            exact ((reads.works.trans begun).trans flagged).trans (Txn.breakWork_works
              ((y.modLockage fun l => { l with breaks := ranks.map Int.toNat }).on State.flagCrossing))

theorem requestRemake_works (q : Request) (x : Txn) : x.st.Works (requestRemake q x).1.st := by
  unfold requestRemake
  split
  · exact .refl _
  · split
    · rename_i phase
      refine x.remakeWork_works fun whole => ?_
      rewrite [whole] at phase
      simp at phase
    · exact .refl _

/-! The Tow Roster's operations keep the law of the barge table and the string boundary table (R40 to R45) and node
addresses apart (R47). -/

/-! ## The roster by its boundaries -/

namespace State

/-- R40: the place behind `i` others lies in string `n`, by the boundaries of the strings. -/
def HoldsPlace (s : State) (n i : Nat) : Prop := 1 ≤ n ∧ n ≤ 6 ∧ s.entry (n - 1) ≤ i ∧ i < s.entry n

/-- R41: each boundary is at least the one before it and at most 8 above it. -/
def Bounded (s : State) : Prop := ∀ k < 6, s.entry k ≤ s.entry (k + 1) ∧ s.entry (k + 1) ≤ s.entry k + 8

theorem exists_six {s : State} (six : s.strings.length = 6) :
    ∃ a b c d e f, s.strings = [a, b, c, d, e, f] := by
  match s.strings, six with
  | [a, b, c, d, e, f], _ => exact ⟨a, b, c, d, e, f, rfl⟩

theorem entry_of_strings {s : State} {a b c d e f : Nat} (h : s.strings = [a, b, c, d, e, f]) :
    s.entry 0 = 0 ∧ s.entry 1 = a ∧ s.entry 2 = b ∧ s.entry 3 = c ∧ s.entry 4 = d ∧ s.entry 5 = e ∧ s.entry 6 = f := by
  simp [State.entry, h]

theorem boundaries_iff {s : State} (six : s.strings.length = 6) :
    boundaries 0 s.strings = true ↔ s.Bounded := by
  obtain ⟨a, b, c, d, e, f, strings⟩ := s.exists_six six
  obtain ⟨e0, e1, e2, e3, e4, e5, e6⟩ := State.entry_of_strings strings
  simp only [State.Bounded, Nat.forall_lt_succ_right, Nat.not_lt_zero, false_imp_iff, implies_true, true_and,
    Nat.zero_add, Nat.reduceAdd, e0, e1, e2, e3, e4, e5, e6]
  simp only [strings, boundaries, Config.stringLength, Bool.and_eq_true, decide_eq_true_eq, and_true,
    Nat.sub_le_iff_le_add, Nat.add_comm 8]
  tauto

theorem entry_mono {s : State} (bounds : s.Bounded) {j k : Nat} (h : j ≤ k) (hk : k ≤ 6) :
    s.entry j ≤ s.entry k := by
  induction k, h using Nat.le_induction with
  | base => exact le_refl _
  | succ k _ ih => exact (ih (by omega)).trans (bounds k (by omega)).1

/-- R40: the string of a place is the one between whose boundaries it lies. -/
theorem eq_stringAt_iff {s : State} (six : s.strings.length = 6) (bounds : s.Bounded) {n i : Nat}
    (hi : i < s.entry 6) : n = s.stringAt (i + 1) ↔ s.HoldsPlace n i := by
  obtain ⟨a, b, c, d, e, f, strings⟩ := s.exists_six six
  obtain ⟨e0, e1, e2, e3, e4, e5, e6⟩ := State.entry_of_strings strings
  have holds (m : Nat) (hm : s.HoldsPlace m i) : s.stringAt (i + 1) = m := by
    obtain ⟨low, high, first, last⟩ := hm
    have below (k : Nat) (hk : k ≤ 6) : decide (s.entry k < i + 1) = decide (k < m) := by
      rewrite [decide_eq_decide]
      constructor
      · exact fun h => Nat.lt_of_not_le fun hge =>
          absurd (last.trans_le (State.entry_mono bounds hge hk)) (Nat.not_lt.mpr (Nat.le_of_lt_succ h))
      · exact fun h => Nat.lt_succ_of_le ((State.entry_mono bounds (Nat.le_sub_one_of_lt h)
          ((Nat.sub_le m 1).trans high)).trans first)
    have h1 := below 1 (by decide)
    have h2 := below 2 (by decide)
    have h3 := below 3 (by decide)
    have h4 := below 4 (by decide)
    have h5 := below 5 (by decide)
    have h6 := below 6 (by decide)
    rewrite [e1] at h1; rewrite [e2] at h2; rewrite [e3] at h3; rewrite [e4] at h4; rewrite [e5] at h5; rewrite [e6] at h6
    simp only [State.stringAt, strings, List.filter_cons, List.filter_nil, h1, h2, h3, h4, h5, h6]
    interval_cases m <;> rfl
  refine ⟨?_, fun h => (holds n h).symm⟩
  rintro rfl
  obtain ⟨m, hm⟩ : ∃ m, s.HoldsPlace m i := by
    have some (k : Nat) : k ≤ 6 → i < s.entry k → ∃ m, s.HoldsPlace m i := by
      induction k with
      | zero => exact fun _ h => absurd (e0 ▸ h) (Nat.not_lt_zero i)
      | succ k ih =>
        intro hk h
        by_cases hi : i < s.entry k
        · exact ih (Nat.le_of_succ_le hk) hi
        · exact ⟨k + 1, Nat.le_add_left _ _, hk, Nat.not_lt.mp hi, h⟩
    exact some 6 (le_refl _) hi
  rewrite [holds m hm]
  exact hm

/-- R40, R41: the law of the roster, by the boundaries. -/
theorem rosterLaw_iff_entry (s : State) : s.rosterLaw = true ↔
    s.strings.length = 6 ∧ s.Bounded ∧ s.entry 6 = s.barges.length ∧ s.barges.length ≤ 48 ∧
      (s.barges.map (·.hull)).Nodup ∧ ∀ i n, (s.barges.map (·.string))[i]? = some n → s.HoldsPlace n i := by
  rewrite [State.rosterLaw_iff]
  refine and_congr_right fun six => ?_
  rewrite [State.boundaries_iff six]
  refine and_congr_right fun bounds => ?_
  have last : s.strings.getLast? = some s.barges.length ↔ s.entry 6 = s.barges.length := by
    obtain ⟨a, b, c, d, e, f, strings⟩ := s.exists_six six
    simp [strings, State.entry]
  rewrite [last]
  refine and_congr_right fun length => and_congr_right fun _ => and_congr_right fun _ => ?_
  have place (i n : Nat) (h : (s.barges.map (·.string))[i]? = some n) : i < s.entry 6 := by
    have := (List.getElem?_eq_some_iff.mp h).1
    rewrite [List.length_map] at this
    omega
  constructor
  · intro names i n h
    exact (State.eq_stringAt_iff six bounds (place i n h)).mp (names (n, i) (List.mem_zipIdx_iff_getElem?.mpr h))
  · rintro names ⟨n, i⟩ h
    rewrite [List.mem_zipIdx_iff_getElem?] at h
    exact (State.eq_stringAt_iff six bounds (place i n h)).mpr (names i n h)

end State

/-- R41: the entries from a string on are changed, and the ones before it stand. -/
theorem getD_shiftEntries (n : Nat) (f : Nat → Nat) (l : List Nat) (j : Nat) (hj : j < l.length) :
    (shiftEntries n f l).getD j 0 = if j < n - 1 then l.getD j 0 else f (l.getD j 0) := by
  unfold shiftEntries
  split_ifs with h
  · rw [List.getD_append _ _ _ _ (by simp; omega), List.getD_eq_getElem?_getD, List.getElem?_take_of_lt h,
      List.getD_eq_getElem?_getD]
  · have length : (l.take (n - 1)).length = n - 1 := by simp; omega
    rewrite [List.getD_append_right _ _ _ _ (by omega), length, List.getD_eq_getElem?_getD, List.getElem?_map,
      List.getElem?_drop, show n - 1 + (j - (n - 1)) = j by omega, List.getElem?_eq_getElem hj]
    simp [hj]

theorem length_shiftEntries (n : Nat) (f : Nat → Nat) (l : List Nat) : (shiftEntries n f l).length = l.length := by
  rw [shiftEntries, List.length_append, List.length_map, ← List.length_append, List.take_append_drop]

/-- R41: a boundary after the entries from a string on are changed. -/
theorem State.entry_shift {s t : State} {n : Nat} {f : Nat → Nat} (six : s.strings.length = 6)
    (h : t.strings = shiftEntries n f s.strings) (k : Nat) (hn : 1 ≤ n) (hk : k ≤ 6) :
    t.entry k = if k < n then s.entry k else f (s.entry k) := by
  unfold State.entry
  rcases Nat.eq_zero_or_pos k with rfl | hpos
  · rw [if_pos rfl, if_pos rfl, if_pos (show 0 < n from hn)]
  · have before : k - 1 < n - 1 ↔ k < n := by omega
    simp only [if_neg hpos.ne', h, getD_shiftEntries n f _ _ (show k - 1 < s.strings.length by omega), before]

/-! ## Insertion (R43) -/

theorem getElem?_insert {α : Type} (l : List α) (a : α) (p i : Nat) (hp : p ≤ l.length) :
    (l.take p ++ a :: l.drop p)[i]? = if i < p then l[i]? else if i = p then some a else l[i - 1]? := by
  have length : (l.take p).length = p := by simp [hp]
  split_ifs with h1 h2
  · rw [List.getElem?_append_left (length.symm ▸ h1), List.getElem?_take_of_lt h1]
  · rw [List.getElem?_append_right (by rw [length, h2]), length, h2, Nat.sub_self, List.getElem?_cons_zero]
  · obtain ⟨d, rfl⟩ := Nat.exists_eq_add_of_lt (Nat.lt_of_le_of_ne (Nat.not_lt.mp h1) (Ne.symm h2))
    rw [List.getElem?_append_right (by rewrite [length]; exact Nat.le_of_not_lt h1), length, Nat.add_assoc,
      Nat.add_sub_cancel_left, List.getElem?_cons_succ, List.getElem?_drop, ← Nat.add_assoc, Nat.add_sub_cancel]

namespace State

theorem insertBarge_perm (s : State) (b : Barge) (rank : Nat) :
    (s.insertBarge b rank).barges.Perm (b :: s.barges) := by
  refine List.perm_middle.trans ?_
  rw [List.take_append_drop]

/-- R43: a barge inserted at a rank of a string with room keeps the law of the roster. -/
theorem insertBarge_rosterLaw {s : State} {b : Barge} {rank : Nat} (law : s.rosterLaw = true)
    (free : b.hull ∉ s.barges.map (·.hull)) (table : s.barges.length < 48) (low : 1 ≤ b.string) (high : b.string ≤ 6)
    (room : s.stringCount b.string < 8) (first : 1 ≤ rank) (tail : rank ≤ s.stringCount b.string + 1) :
    (s.insertBarge b rank).rosterLaw = true := by
  obtain ⟨m, hm⟩ : ∃ m, b.string = m + 1 := ⟨b.string - 1, (Nat.sub_add_cancel low).symm⟩
  have inside : m + 1 ≤ 6 := hm ▸ high
  unfold State.stringCount at room tail
  rewrite [hm, Nat.add_sub_cancel] at room tail
  have space : s.entry (m + 1) + 1 ≤ s.entry m + 8 := by omega
  obtain ⟨p, place, above, below⟩ : ∃ p, s.entry m + rank - 1 = p ∧ s.entry m ≤ p ∧
      (s.entry m ≤ s.entry (m + 1) → p ≤ s.entry (m + 1)) := ⟨_, rfl, by omega, fun own => by omega⟩
  clear room tail first high
  obtain ⟨six, bounds, length, few, hulls, names⟩ := s.rosterLaw_iff_entry.mp law
  replace below := below (bounds m inside).1
  have perm := s.insertBarge_perm b rank
  have entry (k : Nat) (hk : k ≤ 6) := State.entry_shift (t := s.insertBarge b rank) six rfl k low hk
  rewrite [hm] at entry
  have own : p ≤ s.barges.length := below.trans ((State.entry_mono bounds inside le_rfl).trans length.le)
  rewrite [State.rosterLaw_iff_entry]
  refine ⟨(length_shiftEntries _ _ _).trans six, fun k hk => ?_, ?_, ?_, ?_, ?_⟩
  · obtain ⟨rising, near⟩ := bounds k hk
    rewrite [entry k hk.le, entry (k + 1) hk]
    obtain h | rfl | h := Nat.lt_trichotomy k m
    · rewrite [if_pos (Nat.lt_succ_of_lt h), if_pos (Nat.succ_lt_succ h)]
      exact ⟨rising, near⟩
    · rewrite [if_pos (Nat.lt_succ_self k), if_neg (Nat.lt_irrefl _)]
      exact ⟨Nat.le_succ_of_le rising, space⟩
    · rewrite [if_neg (Nat.not_lt.mpr h), if_neg (Nat.not_lt.mpr (Nat.succ_le_succ h.le))]
      exact ⟨Nat.succ_le_succ rising, (Nat.succ_le_succ near).trans_eq (Nat.add_right_comm _ 8 1)⟩
  · rw [entry 6 le_rfl, if_neg (Nat.not_lt.mpr inside), perm.length_eq, List.length_cons, length]
  · rewrite [perm.length_eq, List.length_cons]
    exact table
  · rewrite [(perm.map _).nodup_iff, List.map_cons, List.nodup_cons]
    exact ⟨free, hulls⟩
  · intro i n hn
    simp only [State.insertBarge, hm, Nat.add_sub_cancel, place, List.map_append, List.map_cons, List.map_take,
      List.map_drop] at hn
    rewrite [getElem?_insert _ _ _ _ (by rwa [List.length_map])] at hn
    split_ifs at hn with h1 h2
    · obtain ⟨n1, n6, after, before⟩ := names i n hn
      refine ⟨n1, n6, ?_, ?_⟩
      · rewrite [entry _ ((Nat.sub_le n 1).trans n6), if_pos]
        · exact after
        · refine Nat.lt_of_not_le fun h => ?_
          have := State.entry_mono bounds h ((Nat.sub_le n 1).trans n6)
          exact absurd (h1.trans_le (below.trans this)) after.not_gt
      · rewrite [entry _ n6]
        split_ifs
        · exact before
        · exact Nat.lt_succ_of_lt before
    · obtain rfl : m + 1 = n := Option.some.inj hn
      refine ⟨Nat.le_add_left _ _, inside, ?_, ?_⟩
      · rewrite [Nat.add_sub_cancel, entry _ (Nat.le_of_succ_le inside), if_pos (Nat.lt_succ_self m), h2]
        exact above
      · rewrite [entry _ inside, if_neg (Nat.lt_irrefl _), h2]
        exact Nat.lt_succ_of_le below
    · obtain ⟨j, rfl⟩ : ∃ j, i = j + 1 := ⟨i - 1, by omega⟩
      have behind : p ≤ j := Nat.le_of_lt_succ (Nat.lt_of_le_of_ne (Nat.not_lt.mp h1) (Ne.symm h2))
      obtain ⟨n1, n6, after, before⟩ := names j n hn
      refine ⟨n1, n6, ?_, ?_⟩
      · rewrite [entry _ ((Nat.sub_le n 1).trans n6)]
        split_ifs
        · exact Nat.le_succ_of_le after
        · exact Nat.succ_le_succ after
      · rewrite [entry _ n6, if_neg]
        · exact Nat.succ_lt_succ before
        · intro h
          have := State.entry_mono bounds (Nat.le_of_lt_succ h) (Nat.le_of_succ_le inside)
          exact absurd (before.trans_le (this.trans (above.trans behind))) (Nat.lt_irrefl _)

/-! ## Removal (R44) -/

/-- R44: the barge found by its hull number is taken out of its place. -/
theorem removeBarge_barges {s : State} {b : Barge} {hull : Nat} (hulls : (s.barges.map (·.hull)).Nodup)
    (found : s.barge? hull = some b) :
    ∃ before after, s.barges = before ++ b :: after ∧ (s.removeBarge b).barges = before ++ after := by
  obtain ⟨-, before, after, split, -⟩ := List.find?_eq_some_iff_append.mp found
  refine ⟨before, after, split, ?_⟩
  rewrite [split, List.map_append, List.map_cons, List.nodup_middle, List.nodup_cons, ← List.map_append] at hulls
  have rest : (before ++ after).filter (·.hull != b.hull) = before ++ after :=
    List.filter_eq_self.mpr fun c hc => bne_iff_ne.mpr fun h => hulls.1 (List.mem_map.mpr ⟨c, hc, h⟩)
  rewrite [List.filter_append] at rest
  change s.barges.filter _ = _
  rw [split, List.filter_append, List.filter_cons, if_neg (by simp), rest]

theorem removeBarge_perm {s : State} {b : Barge} {hull : Nat} (hulls : (s.barges.map (·.hull)).Nodup)
    (found : s.barge? hull = some b) : s.barges.Perm (b :: (s.removeBarge b).barges) := by
  obtain ⟨before, after, split, rest⟩ := State.removeBarge_barges hulls found
  rewrite [split, rest]
  exact List.perm_middle

end State

theorem getElem?_append_skip {α : Type} (l m : List α) (a : α) (i : Nat) :
    (l ++ m)[i]? = if i < l.length then (l ++ a :: m)[i]? else (l ++ a :: m)[i + 1]? := by
  split_ifs with h
  · rw [List.getElem?_append_left h, List.getElem?_append_left h]
  · have behind := Nat.le_of_not_lt h
    rw [List.getElem?_append_right behind, List.getElem?_append_right (Nat.le_succ_of_le behind),
      Nat.succ_sub behind, List.getElem?_cons_succ]

namespace State

/-- R44: the string of an enrolled barge is one of the six, and holds it. -/
theorem holdsPlace_of_split {s : State} {b : Barge} {before after : List Barge} (law : s.rosterLaw = true)
    (split : s.barges = before ++ b :: after) : s.HoldsPlace b.string before.length := by
  obtain ⟨-, -, -, -, -, names⟩ := s.rosterLaw_iff_entry.mp law
  refine names _ _ ?_
  rewrite [split, List.map_append, List.map_cons, List.getElem?_append_right (by simp), List.length_map, Nat.sub_self]
  rfl

/-- R44: a barge removed keeps the law of the roster. -/
theorem removeBarge_rosterLaw {s : State} {b : Barge} {hull : Nat} (law : s.rosterLaw = true)
    (found : s.barge? hull = some b) : (s.removeBarge b).rosterLaw = true := by
  obtain ⟨six, bounds, length, few, hulls, names⟩ := s.rosterLaw_iff_entry.mp law
  obtain ⟨before, after, split, rest⟩ := State.removeBarge_barges hulls found
  obtain ⟨low, high, first, last⟩ := State.holdsPlace_of_split law split
  obtain ⟨m, hm⟩ : ∃ m, b.string = m + 1 := ⟨b.string - 1, (Nat.sub_add_cancel low).symm⟩
  have entry (k : Nat) (hk : k ≤ 6) := State.entry_shift (t := s.removeBarge b) six rfl k low hk
  rewrite [hm] at entry high last
  rewrite [hm, Nat.add_sub_cancel] at first
  have behind {k : Nat} (h : ¬ k < m + 1) (hk : k ≤ 6) : before.length ≤ s.entry k - 1 :=
    Nat.le_sub_one_of_lt (last.trans_le (State.entry_mono bounds (Nat.not_lt.mp h) hk))
  have count : s.barges.length = (s.removeBarge b).barges.length + 1 := by
    rw [(State.removeBarge_perm hulls found).length_eq, List.length_cons]
  rewrite [State.rosterLaw_iff_entry]
  refine ⟨(length_shiftEntries _ _ _).trans six, fun k hk => ?_, ?_, (Nat.le_of_lt (count ▸ Nat.lt_succ_self _)).trans few,
    nodup_map_filter _ hulls, ?_⟩
  · obtain ⟨rising, near⟩ := bounds k hk
    rewrite [entry k hk.le, entry (k + 1) hk]
    obtain h | rfl | h := Nat.lt_trichotomy k m
    · rewrite [if_pos (Nat.lt_succ_of_lt h), if_pos (Nat.succ_lt_succ h)]
      exact ⟨rising, near⟩
    · rewrite [if_pos (Nat.lt_succ_self k), if_neg (Nat.lt_irrefl _)]
      exact ⟨first.trans (Nat.le_sub_one_of_lt last), (Nat.sub_le _ _).trans near⟩
    · rewrite [if_neg (Nat.not_lt.mpr h), if_neg (Nat.not_lt.mpr (Nat.succ_le_succ h.le))]
      have some : 1 ≤ s.entry k := Nat.one_le_of_lt (last.trans_le (State.entry_mono bounds h hk.le))
      refine ⟨Nat.sub_le_sub_right rising 1, ?_⟩
      rewrite [← Nat.sub_add_comm some]
      exact Nat.sub_le_sub_right near 1
  · rw [entry 6 le_rfl, if_neg (Nat.not_lt.mpr high), length, count, Nat.add_sub_cancel]
  · intro i n hn
    have skip := getElem?_append_skip (before.map (·.string)) (after.map (·.string)) b.string i
    rewrite [← List.map_append, ← List.map_cons (f := Barge.string), ← List.map_append, ← rest, hn, ← split] at skip
    rewrite [List.length_map] at skip
    split_ifs at skip with h
    · obtain ⟨n1, n6, below, above⟩ := names i n skip.symm
      refine ⟨n1, n6, ?_, ?_⟩
      · rewrite [entry _ ((Nat.sub_le n 1).trans n6)]
        split_ifs
        · exact below
        · exact (Nat.sub_le _ _).trans below
      · rewrite [entry _ n6]
        split_ifs with hnb
        · exact above
        · exact h.trans_le (behind hnb n6)
    · obtain ⟨n1, n6, below, above⟩ := names (i + 1) n skip.symm
      refine ⟨n1, n6, ?_, ?_⟩
      · rewrite [entry _ ((Nat.sub_le n 1).trans n6)]
        split_ifs with hnb
        · exact (State.entry_mono bounds (Nat.le_of_lt_succ hnb) (Nat.le_of_succ_le high)).trans
            (first.trans (Nat.not_lt.mp h))
        · exact Nat.sub_le_of_le_add below
      · rewrite [entry _ n6]
        split_ifs
        · exact Nat.lt_of_succ_lt above
        · exact Nat.lt_sub_of_add_lt above

/-! ## A move (R45) -/

/-- R45: a barge moved to the tail of a string with room keeps the law of the roster. -/
theorem moveBarge_rosterLaw {s : State} {b : Barge} {hull string : Nat} (law : s.rosterLaw = true)
    (found : s.barge? hull = some b) (low : 1 ≤ string) (high : string ≤ 6)
    (room : s.stringCount string < 8) : (s.moveBarge b string).rosterLaw = true := by
  obtain ⟨six, -, -, few, hulls, -⟩ := s.rosterLaw_iff_entry.mp law
  have perm := State.removeBarge_perm hulls found
  have removed := State.removeBarge_rosterLaw law found
  obtain ⟨before, after, split, -⟩ := State.removeBarge_barges hulls found
  obtain ⟨first, _, _, -⟩ := State.holdsPlace_of_split law split
  have count : (s.removeBarge b).stringCount string ≤ s.stringCount string := by
    have entry (k : Nat) (hk : k ≤ 6) := State.entry_shift (t := s.removeBarge b) six rfl k first hk
    unfold State.stringCount
    rewrite [entry _ high, entry _ ((Nat.sub_le _ 1).trans high)]
    split_ifs with h h'
    · exact le_rfl
    · exact absurd ((Nat.sub_le _ 1).trans_lt h) h'
    · exact Nat.sub_le_sub_right (Nat.sub_le _ 1) _
    · cases s.entry (string - 1) with
      | zero => exact Nat.sub_le _ 1
      | succ y =>
        rw [Nat.add_sub_cancel, Nat.sub_sub, Nat.add_comm 1]
  refine State.insertBarge_rosterLaw removed ?_ ?_ low high (count.trans_lt room) (Nat.le_add_left _ _) le_rfl
  · rewrite [(perm.map _).nodup_iff, List.map_cons, List.nodup_cons] at hulls
    exact hulls.1
  · have := perm.length_eq
    rewrite [List.length_cons] at this
    exact (this ▸ Nat.lt_succ_self _ : (s.removeBarge b).barges.length < s.barges.length).trans_le few

/-! ## Node addresses (R47) -/

theorem nodeLaw_of_perm {s t : State} (nodes : (t.barges.map (·.node)).Perm (s.barges.map (·.node)))
    (policy : t.policy = s.policy) : t.nodeLaw = s.nodeLaw := by
  rewrite [Bool.eq_iff_iff, State.nodeLaw_iff, State.nodeLaw_iff, (nodes.filterMap id).nodup_iff, policy]
  simp only [nodes.mem_iff]

/-- R47: a node address, of a barge enrolled, that no other barge and not the boat holds. -/
theorem insertBarge_nodeLaw {s : State} {b : Barge} {rank : Nat} (law : s.nodeLaw = true)
    (free : ∀ a, b.node = some a → a ≠ 0 ∧ a ≠ s.policy.boatNode ∧ ∀ c ∈ s.barges, c.node ≠ some a) :
    (s.insertBarge b rank).nodeLaw = true := by
  have perm := (s.insertBarge_perm b rank).map (·.node)
  rewrite [State.nodeLaw_iff] at law ⊢
  rewrite [(perm.filterMap id).nodup_iff, List.map_cons]
  simp only [perm.mem_iff, List.map_cons, List.forall_mem_cons]
  refine ⟨?_, ⟨fun h => (free 0 h).1 rfl, fun h => (free _ h).2.1 rfl⟩, law.2⟩
  cases hb : b.node with
  | none => simpa using law.1
  | some a =>
    rewrite [List.filterMap_cons_some (by rfl), List.nodup_cons]
    refine ⟨fun h => ?_, law.1⟩
    obtain ⟨n, hn, rfl⟩ := List.mem_filterMap.mp h
    obtain ⟨c, hc, hca⟩ := List.mem_map.mp hn
    exact (free a hb).2.2 c hc hca

theorem removeBarge_nodeLaw {s : State} (b : Barge) (law : s.nodeLaw = true) :
    (s.removeBarge b).nodeLaw = true := by
  rewrite [State.nodeLaw_iff] at law ⊢
  have sub : ((s.removeBarge b).barges.map (·.node)).Sublist (s.barges.map (·.node)) := List.filter_sublist.map _
  exact ⟨law.1.sublist (sub.filterMap id), fun n hn => law.2 n (sub.subset hn)⟩

theorem moveBarge_nodeLaw {s : State} {b : Barge} {hull string : Nat} (hulls : (s.barges.map (·.hull)).Nodup)
    (found : s.barge? hull = some b) : (s.moveBarge b string).nodeLaw = s.nodeLaw := by
  refine State.nodeLaw_of_perm ?_ rfl
  refine ((State.insertBarge_perm _ _ _).map _).trans ?_
  exact ((State.removeBarge_perm hulls found).map (·.node)).symm

end State

/-! ENROL, RETIRE, RESTORE and CLEAR STORE keep the laws of the store. -/

/-! ## What the items of a request that passes its checks say -/

theorem inRange_eq_none {i : Item} {lo hi : Int} : inRange i lo hi = none ↔ lo ≤ i.value ∧ i.value ≤ hi := by
  simp [inRange, refuseIf, within]

theorem refuseIf_eq_none {b : Bool} {r : Result} : refuseIf b r = none ↔ b = false := by
  simp [refuseIf]

/-- R26: the value given for a field has passed the check of its item. -/
theorem check_of_valueOf {is : List Item} {check : Item → Option Result} {f : Nat} {v : Int}
    (checked : checkItems is check = none) (h : valueOf is f = some v) : check { field := f, value := v } = none := by
  obtain ⟨i, hi, rfl, rfl⟩ := valueOf_eq_some h
  exact checkItems_eq_none checked i hi

theorem given_of_valueOf {is : List Item} {f d : Nat} {v : Int} (h : valueOf is f = some v) :
    given is f d = v.toNat := by
  simp [given, h]

theorem exists_valueOf {is : List Item} {fs : List Nat} (h : ¬ (!fs.all (gives is)) = true) {f : Nat} (hf : f ∈ fs) :
    ∃ v, valueOf is f = some v := by
  rewrite [← gives_iff]
  simp only [Bool.not_eq_true', Bool.not_eq_false, List.all_eq_true] at h
  exact h f hf

/-- R4: an optional address that stands present is the one that stood or was given, above 0. -/
theorem givenAddress_eq_some {is : List Item} {f a : Nat} {stands : Option Nat}
    (h : givenAddress is f stands = some a) :
    (valueOf is f = none ∧ stands = some a) ∨ ∃ v, valueOf is f = some v ∧ v ≠ 0 ∧ a = v.toNat := by
  unfold givenAddress at h
  split at h
  · rename_i v hv
    unfold addressOf at h
    split at h
    · cases h
    · exact .inr ⟨v, hv, ‹_›, (Option.some.inj h).symm⟩
  · exact .inl ⟨‹_›, h⟩

/-- R47: an address that is not taken is neither the boat's nor another barge's. -/
theorem State.nodeAddress_free {s : State} {own : Option Nat} {v : Int} (free : s.nodeAddressTaken own v = false)
    (pos : 1 ≤ v) : v.toNat ≠ 0 ∧ v.toNat ≠ s.policy.boatNode ∧
      ∀ c ∈ s.barges, own ≠ some c.hull → c.node ≠ some v.toNat := by
  simp only [State.nodeAddressTaken, Bool.or_eq_false_iff, Bool.and_eq_false_iff, List.any_eq_false, bne_eq_false_iff_eq,
    beq_eq_false_iff_ne, Bool.and_eq_true, bne_iff_ne, beq_iff_eq, not_and] at free
  obtain ⟨barges, boat⟩ := free
  refine ⟨by omega, fun h => ?_, fun c hc other h => barges c hc other ?_⟩
  · rcases boat with zero | ne
    · omega
    · omega
  · rewrite [h]
    exact congrArg some (Int.toNat_of_nonneg (by omega))

section
variable {x : Txn}

/-! ## ENROL of a barge (R42, R43) -/

theorem State.Works.insertBarge {s : State} {b : Barge} {rank : Nat} (free : b.hull ∉ s.barges.map (·.hull))
    (table : s.barges.length < 48) (low : 1 ≤ b.string) (high : b.string ≤ 6) (room : s.stringCount b.string < 8)
    (first : 1 ≤ rank) (tail : rank ≤ s.stringCount b.string + 1)
    (node : ∀ a, b.node = some a → a ≠ 0 ∧ a ≠ s.policy.boatNode ∧ ∀ c ∈ s.barges, c.node ≠ some a) :
    s.Works (s.insertBarge b rank) := by
  refine .barges _ _ (fun hulls => ?_) fun law =>
    ⟨State.insertBarge_rosterLaw law free table low high room first tail, fun nodes => State.insertBarge_nodeLaw nodes node⟩
  have perm := (s.insertBarge_perm b rank).map (·.hull)
  exact perm.nodup_iff.mpr (List.nodup_cons.mpr ⟨free, hulls⟩)

theorem enrolBarge_works (is : List Item) (x : Txn) : x.st.Works (enrolBarge is x).1.st := by
  unfold enrolBarge
  split <;> rename_i fields
  · exact .refl _
  · split <;> rename_i ranges
    · exact .refl _
    · dsimp only
      split <;> rename_i references
      · exact .refl _
      · split
        · exact .refl _
        · obtain ⟨hull, hv1⟩ := exists_valueOf fields (f := 1) (by simp)
          obtain ⟨string, hv2⟩ := exists_valueOf fields (f := 2) (by simp)
          have hull_free := check_of_valueOf references hv1
          have string_range := inRange_eq_none.mp (check_of_valueOf ranges hv2)
          have string_room := check_of_valueOf references hv2
          simp only [given_of_valueOf hv1, given_of_valueOf hv2] at hull_free string_room string_range ⊢
          simp only [State.bargeReferences] at hull_free string_room
          split_ifs at hull_free with duplicate
          rewrite [refuseIf_eq_none, decide_eq_false_iff_not] at hull_free
          split_ifs at string_room with room
          refine State.Works.insertBarge ?_ ?_ ?_ ?_ ?_ ?_ ?_ ?_
          · rewrite [Int.toNat_natCast, Bool.not_eq_true] at duplicate
            exact not_mem_map_of_find?_eq_none duplicate
          · exact Nat.lt_of_not_le hull_free
          · dsimp only; omega
          · dsimp only; omega
          · exact Nat.lt_of_not_le room
          · rewrite [le_min_iff]
            refine ⟨?_, by omega⟩
            cases hv3 : valueOf is 3 with
            | none => simp [given, hv3]
            | some v =>
              have := inRange_eq_none.mp (check_of_valueOf ranges hv3)
              rewrite [given_of_valueOf hv3]
              dsimp only at this
              omega
          · exact min_le_right _ _
          · intro a ha
            obtain ⟨-, h⟩ | ⟨v, hv, nonzero, rfl⟩ := givenAddress_eq_some ha
            · cases h
            · have range := inRange_eq_none.mp (check_of_valueOf ranges hv)
              have free := refuseIf_eq_none.mp (check_of_valueOf references hv)
              simp only [nonzero, Bool.and_eq_false_iff, bne_eq_false_iff_eq, false_or] at free range
              obtain ⟨h0, hb, others⟩ := State.nodeAddress_free free (by omega)
              exact ⟨h0, hb, fun c hc => others c hc nofun⟩

/-! ## ENROL of a coupling (R5, R74) -/

/-- R5: while fewer numbers are taken than are looked at, one of them is free. -/
theorem lowestFree_not_mem {taken : List Nat} {fuel : Nat} (h : taken.length < fuel) (n : Nat) :
    lowestFree taken fuel n ∉ taken := by
  refine lowestFree_free taken fuel n (Nat.lt_of_not_le fun hge => ?_)
  have all : List.range' n fuel ⊆ taken := fun m hm => by
    rewrite [List.mem_range'_1] at hm
    exact lowestFree_taken taken fuel n m hm.1 (by omega)
  have := ((List.nodup_range' (s := n) (n := fuel)).subperm all).length_le
  rewrite [List.length_range'] at this
  omega

theorem State.Works.insertCoupling {s : State} {c : Coupling} (free : c.number ∉ s.couplings.map (·.number))
    (crossing : s.lockage.phase = .whole → c.crossing = false) :
    s.Works { s with couplings := insertByKey (·.number) c s.couplings } :=
  .couplings _ (nodup_insertByKey free) fun whole uncrossed =>
    forall_mem_insertByKey (p := fun c : Coupling => c.header.damaged = true ∨ c.crossing = false)
      (.inr (crossing whole)) uncrossed

theorem enrolCoupling_works (is : List Item) (x : Txn) : x.st.Works (enrolCoupling is x).1.st := by
  unfold enrolCoupling
  extract_lets winch kind endA endB tending crossing n c y
  split
  · exact .refl _
  · split
    · exact .refl _
    · split
      · exact .refl _
      · split <;> rename_i room
        · exact .refl _
        · split
          · exact .refl _
          · have inserted : x.st.Works y.st := by
              refine .insertCoupling ?_ fun whole => ?_
              · exact lowestFree_not_mem (by rewrite [List.length_map]; exact Nat.lt_of_not_le room) 1
              · simp [c, crossing, whole]
            exact inserted.trans (((State.Routine.refl y.st).giveOrders n is).touch).works

/-! ## ENROL of an engine (R113, R142) -/

theorem clamp_within (v : Int) {lo hi : Int} (h : lo ≤ hi) : lo ≤ clamp v lo hi ∧ clamp v lo hi ≤ hi := by
  unfold clamp
  omega

theorem stagedOrder_inRange {is : List Item} {stands : Int} (h : orderInRange stands = true) :
    orderInRange (stagedOrder is stands) = true := by
  unfold stagedOrder
  cases valueOf is 8 with
  | none => exact h
  | some v => exact (orderInRange_iff _).mpr (clamp_within v (by decide))

/-- R113: an engine entered is sent nothing. -/
theorem State.Works.insertEngine {s : State} {e : Engine} (free : e.number ∉ s.engines.map (·.number))
    (shaped : e.shaped = true) (orders : ∀ o ∈ e.orders, orderInRange o = true) (sent : e.sent = 0) :
    s.Works { s with engines := insertByKey (·.number) e s.engines } := by
  have nothing (ahead : Bool) : e.sentThrust ahead = 0 := by simp [Engine.sentThrust, sent]
  refine .engines _ (nodup_insertByKey free) (forall_mem_insertByKey shaped) ?_ fun _ => ?_
  · rewrite [State.orderLaw_iff, State.orderLaw_iff]
    exact forall_mem_insertByKey (p := fun e : Engine => ∀ o ∈ e.orders, orderInRange o = true) orders
  · have sum (ahead : Bool) : ((insertByKey (·.number) e s.engines).map (·.sentThrust ahead)).sum =
        (s.engines.map (·.sentThrust ahead)).sum := by
      rw [((insertByKey_perm _ e s.engines).map _).sum_eq, List.map_cons, List.sum_cons, nothing, Nat.zero_add]
    rewrite [State.thrustLaw_iff, State.thrustLaw_iff, sum, sum]
    exact And.imp_left (forall_mem_insertByKey (p := fun e : Engine => e.header.damaged = true → e.sent = 0) fun _ => sent)

/-- R112: no item of a field that does not apply has passed its check. -/
theorem valueOf_eq_none_of_bad {is : List Item} {check : Item → Option Result} {f : Nat}
    (checked : checkItems is check = none) (h : ∀ v, check { field := f, value := v } ≠ none) : valueOf is f = none := by
  cases hv : valueOf is f with
  | none => rfl
  | some v => exact absurd (check_of_valueOf checked hv) (h v)

theorem enrolEngine_works (is : List Item) (x : Txn) : x.st.Works (enrolEngine is x).1.st := by
  unfold enrolEngine
  extract_lets five meter bow y key station e z f
  obtain ⟨needed, hneeded⟩ : ∃ fs, fs = if five then [1, 3, 4] else [1, 2, 4, 7] := ⟨_, rfl⟩
  rewrite [← hneeded]
  split <;> rename_i fields
  · exact .refl _
  · have read : x.st.Routine y.st := by
      unfold y bow
      split
      · exact (State.Routine.refl _).bowFitted _
      · exact .refl _
    split <;> rename_i ranges
    · exact read.works
    · split <;> rename_i factor
      · exact read.works
      · split <;> rename_i references
        · exact read.works
        · have inserted : y.st.Works z.st := by
            refine .insertEngine ?_ ?_ ?_ rfl
            · obtain ⟨number, hv1⟩ := exists_valueOf fields (f := 1) (by rewrite [hneeded]; split <;> simp)
              exact not_mem_map_of_find?_eq_none (refuseIf_eq_none.mp (check_of_valueOf references hv1))
            · unfold e
              rcases hf : five with _ | _
              · rewrite [hf, if_neg Bool.false_ne_true] at hneeded
                obtain ⟨number, hv1⟩ := exists_valueOf fields (f := 1) (by rewrite [hneeded]; simp)
                obtain ⟨a, hv2⟩ := exists_valueOf fields (f := 2) (by rewrite [hneeded]; simp)
                have main : number ≠ 5 := by simpa [five, hv1] using hf
                rewrite [hf] at ranges
                have range1 := inRange_eq_none.mp (check_of_valueOf ranges hv1)
                have range2 := inRange_eq_none.mp (check_of_valueOf ranges hv2)
                dsimp only at range1 range2
                have key5 : given is 1 0 ≠ 5 := by rewrite [given_of_valueOf hv1]; omega
                have present : a ≠ 0 := by omega
                have shape : (if meter.isSome then some (given is 6 0) else none).isSome = meter.isSome := by
                  cases meter <;> rfl
                simp [Engine.shaped, key, key5, station, givenAddress, hv2, addressOf, present, shape]
              · rewrite [hf] at ranges
                have hv1 : valueOf is 1 = some 5 := by simpa [five] using hf
                have no2 : valueOf is 2 = none := valueOf_eq_none_of_bad ranges nofun
                have no5 : valueOf is 5 = none := valueOf_eq_none_of_bad ranges nofun
                simp [Engine.shaped, key, given_of_valueOf hv1, station, meter, givenAddress, no2, no5]
            · simp only [e, Engine.orders, List.forall_mem_cons]
              exact ⟨stagedOrder_inRange rfl, rfl, rfl, rfl, rfl, nofun⟩
          exact (read.works.trans inserted).trans ((State.Routine.refl z.st).moveContexts _ _).works

/-! ## ENROL of a rudder channel, a tank and a transfer (R135, R149, R166) -/

theorem enrolRudder_works (is : List Item) (x : Txn) : x.st.Works (enrolRudder is x).1.st := by
  unfold enrolRudder
  extract_lets key limit wanted r y f
  split <;> rename_i fields
  · exact .refl _
  · split
    · exact .refl _
    · split <;> rename_i references
      · exact .refl _
      · have inserted : x.st.Works y.st := by
          obtain ⟨number, hv1⟩ := exists_valueOf fields (f := 1) (by simp)
          refine .rudders _ (nodup_insertByKey ?_)
          exact not_mem_map_of_find?_eq_none (refuseIf_eq_none.mp (check_of_valueOf references hv1))
        exact inserted.trans ((State.Routine.refl y.st).moveContexts _ _).works

/-- R149: a tank starts in balance. -/
theorem newTank_balanced (number : Nat) (kind : TankKind) (gauge : Option Nat) (capacity lowMark opening : Nat) :
    (newTank number kind gauge capacity lowMark opening).balanced = true := by
  simp [newTank, Tank.balanced]

theorem enrolTank_works (is : List Item) (x : Txn) : x.st.Works (enrolTank is x).1.st := by
  unfold enrolTank
  extract_lets key t y
  split <;> rename_i fields
  · exact .refl _
  · split
    · exact .refl _
    · split <;> rename_i references
      · exact .refl _
      · have inserted : x.st.Works y.st := by
          obtain ⟨number, hv1⟩ := exists_valueOf fields (f := 1) (by simp)
          refine .tanks _ (nodup_insertByKey ?_) ?_
          · exact not_mem_map_of_find?_eq_none (refuseIf_eq_none.mp (check_of_valueOf references hv1))
          · rewrite [State.tankLaw_iff, State.tankLaw_iff]
            exact forall_mem_insertByKey (p := fun t : Tank => (t.header.damaged || t.balanced) = true)
              (by rw [newTank_balanced, Bool.or_true])
        exact inserted.trans ((State.Routine.refl y.st).moveContexts _ _).works

theorem enrolTransfer_works (is : List Item) (x : Txn) : x.st.Works (enrolTransfer is x).1.st := by
  unfold enrolTransfer
  extract_lets key t y
  split <;> rename_i fields
  · exact .refl _
  · split
    · exact .refl _
    · split
      · exact .refl _
      · split <;> rename_i references
        · exact .refl _
        · have inserted : x.st.Works y.st := by
            obtain ⟨number, hv1⟩ := exists_valueOf fields (f := 1) (by simp)
            refine .transfers _ (nodup_insertByKey ?_) ?_
            · exact not_mem_map_of_find?_eq_none (refuseIf_eq_none.mp (check_of_valueOf references hv1))
            · rewrite [State.pumpLaw_iff, State.pumpLaw_iff]
              exact forall_mem_insertByKey (p := fun t : Transfer => (!t.pumpRun || t.state == .running) = true) rfl
          exact inserted.trans ((State.Routine.refl y.st).moveContexts _ _).works

theorem requestEnrol_works (q : Request) (x : Txn) : x.st.Works (requestEnrol q x).1.st := by
  unfold requestEnrol
  split
  · exact enrolBarge_works _ x
  · exact enrolCoupling_works _ x
  · exact enrolEngine_works _ x
  · exact enrolRudder_works _ x
  · exact enrolTank_works _ x
  · exact enrolTransfer_works _ x
  · exact .refl _

/-! ## RETIRE (R32) -/

theorem retireBarge_works (key : Nat) (x : Txn) : x.st.Works (retireBarge key x).1.st := by
  unfold retireBarge
  split <;> rename_i found
  · exact .refl _
  · split
    · exact .refl _
    · split
      · exact .refl _
      · exact .barges _ _ (nodup_map_filter _) fun law =>
          ⟨State.removeBarge_rosterLaw law found, State.removeBarge_nodeLaw _⟩

theorem retireCoupling_works (key : Nat) (x : Txn) : x.st.Works (retireCoupling key x).1.st := by
  unfold retireCoupling
  have read := ((State.Routine.refl x.st).read .couplings key [11]).works
  extract_lets y
  split
  · exact read
  · split
    · exact read
    · exact read.trans (.couplings _ (nodup_map_filter _) fun _ uncrossed c hc => uncrossed c (List.mem_filter.mp hc).1)

/-- R115, R143: an engine leaves, and what it was sent with it. -/
theorem State.Works.removeEngine (s : State) (key : Nat) :
    s.Works { s with engines := s.engines.filter (·.number != key) } := by
  refine .engines _ (nodup_map_filter _) (fun shaped e he => shaped e (List.mem_filter.mp he).1) ?_ fun _ => ?_
  · rewrite [State.orderLaw_iff, State.orderLaw_iff]
    exact fun orders e he => orders e (List.mem_filter.mp he).1
  · have sum (ahead : Bool) : ((s.engines.filter (·.number != key)).map (·.sentThrust ahead)).sum ≤
        (s.engines.map (·.sentThrust ahead)).sum := (List.filter_sublist.map _).sum_le_sum fun _ _ => Nat.zero_le _
    rewrite [State.thrustLaw_iff, State.thrustLaw_iff]
    exact fun ⟨damaged, ahead, astern⟩ =>
      ⟨fun e he => damaged e (List.mem_filter.mp he).1, (sum true).trans ahead, (sum false).trans astern⟩

theorem retireEngine_works (key : Nat) (x : Txn) : x.st.Works (retireEngine key x).1.st := by
  unfold retireEngine
  have read := ((State.Routine.refl x.st).read .engines key [12]).works
  extract_lets y z
  split
  · exact read
  · split
    · exact read
    · exact (read.trans (.removeEngine _ key)).trans
        ((State.Routine.refl z.st).forKeys _ _ fun a _ hw => hw.removeContext a).works

theorem retireRudder_works (key : Nat) (x : Txn) : x.st.Works (retireRudder key x).1.st := by
  unfold retireRudder
  have read := ((State.Routine.refl x.st).read .rudders key [11]).works
  extract_lets y
  split
  · exact read
  · split
    · exact read
    · let z := y.on fun s => { s with rudders := s.rudders.filter (·.channel != key) }
      exact (read.trans (.rudders _ (nodup_map_filter _))).trans ((State.Routine.refl z.st).removeContext _).works

theorem retireTank_works (key : Nat) (x : Txn) : x.st.Works (retireTank key x).1.st := by
  unfold retireTank
  have read := ((State.Routine.refl x.st).read .tanks key (wide 6)).works
  extract_lets y z
  split
  · exact .refl _
  · split
    · exact .refl _
    · split
      · exact read
      · split
        · exact read
        · have account : y.st.tankLaw = true → z.st.tankLaw = true := by
            rewrite [State.tankLaw_iff, State.tankLaw_iff]
            exact fun law t ht => law t (List.mem_filter.mp ht).1
          exact (read.trans (.tanks _ (nodup_map_filter _) account)).trans
            ((State.Routine.refl z.st).forKeys _ _ fun a _ hw => hw.removeContext a).works

theorem retireTransfer_works (key : Nat) (x : Txn) : x.st.Works (retireTransfer key x).1.st := by
  unfold retireTransfer
  have read := ((State.Routine.refl x.st).read .transfers key [14, 13]).works
  extract_lets y
  split
  · exact read
  · split
    · exact read
    · let z := y.on fun s => { s with transfers := s.transfers.filter (·.number != key) }
      have pump : y.st.pumpLaw = true → z.st.pumpLaw = true := by
        rewrite [State.pumpLaw_iff, State.pumpLaw_iff]
        exact fun law t ht => law t (List.mem_filter.mp ht).1
      exact (read.trans (.transfers _ (nodup_map_filter _) pump)).trans ((State.Routine.refl z.st).removeContext _).works

theorem requestRetire_works (q : Request) (x : Txn) : x.st.Works (requestRetire q x).1.st := by
  unfold requestRetire
  split
  · split
    · exact .refl _
    · split
      · exact retireBarge_works _ x
      · exact retireCoupling_works _ x
      · exact retireEngine_works _ x
      · exact retireRudder_works _ x
      · exact retireTank_works _ x
      · exact retireTransfer_works _ x
  · exact .refl _

/-! ## RESTORE (R17) -/

/-- R1: a record rewritten under its key keeps every key. -/
theorem map_update_key {α : Type} {key : α → Nat} {new : α} {k : Nat} (l : List α) (h : key new = k) :
    (update (key · == k) (fun _ => new) l).map key = l.map key := by
  rewrite [update, List.map_map]
  refine List.map_congr_left fun a _ => ?_
  dsimp only [Function.comp]
  split
  · rename_i ha
    rw [h, beq_iff_eq.mp ha]
  · rfl

/-- A rewritten record meets what every record meets when the new one does. -/
theorem forall_mem_rewritten {α : Type} {q : α → Bool} {new : α} {l : List α} {p : α → Prop} (hn : p new)
    (hl : ∀ a ∈ l, p a) : ∀ b ∈ update q (fun _ => new) l, p b := forall_mem_update (fun _ _ _ _ => hn) hl

theorem find?_key {α : Type} {key : α → Nat} {l : List α} {k : Nat} {a : α} (h : l.find? (key · == k) = some a) :
    key a = k ∧ a ∈ l := ⟨beq_iff_eq.mp (List.find?_some (p := fun a => key a == k) h), List.mem_of_find?_eq_some h⟩

/-- A record found by its key, rewritten, keeps a figure of every record that it keeps of this one. -/
theorem map_rewritten {α β : Type} {key : α → Nat} {g : α → β} {l : List α} {k : Nat} {a new : α}
    (unique : (l.map key).Nodup) (found : l.find? (key · == k) = some a) (hg : g new = g a) :
    (update (key · == k) (fun _ => new) l).map g = l.map g := by
  rewrite [update, List.map_map]
  refine List.map_congr_left fun b hb => ?_
  dsimp only [Function.comp]
  split
  · rename_i hk
    obtain ⟨ha, hm⟩ := find?_key found
    rw [hg, List.inj_on_of_nodup_map unique hb hm ((beq_iff_eq.mp hk).trans ha.symm)]
  · rfl

/-- R51: a barge rewritten keeps its hull number, its string and its node address. -/
theorem State.Works.rewriteBarge {s : State} {key : Nat} {b new : Barge} (found : s.barge? key = some b)
    (hull : new.hull = b.hull) (string : new.string = b.string) (node : new.node = b.node) :
    s.Works { s with barges := update (·.hull == key) (fun _ => new) s.barges } := by
  refine .barges _ _ (fun hulls => ?_) fun law => ?_
  · rwa [map_update_key]
    exact hull.trans (find?_key found).1
  · have hulls := ((State.rosterLaw_iff _).mp law).2.2.2.2.1
    have same := State.roster_congr (s := s) (t := { s with barges := update (·.hull == key) (fun _ => new) s.barges })
      rfl rfl (map_rewritten hulls found hull) (map_rewritten hulls found string) (map_rewritten hulls found node)
    exact ⟨same.1.trans law, fun nodes => same.2.trans nodes⟩

theorem restoreBarge_works (key : Nat) (is : List Item) (x : Txn) : x.st.Works (restoreBarge key is x).1.st := by
  unfold restoreBarge
  split <;> rename_i found
  · exact .refl _
  · split
    · exact .refl _
    · split
      · exact .refl _
      · exact .rewriteBarge found rfl rfl rfl

theorem restoreCoupling_works (key : Nat) (is : List Item) (x : Txn) : x.st.Works (restoreCoupling key is x).1.st := by
  unfold restoreCoupling
  split <;> rename_i c found
  · exact .refl _
  · split
    · exact .refl _
    · split
      · exact .refl _
      · refine .couplings _ (fun numbers => ?_) fun whole => ?_
        · rwa [map_update_key]
          exact (find?_key found).1
        · refine forall_mem_rewritten (p := fun c : Coupling => c.header.damaged = true ∨ c.crossing = false) (.inr ?_)
          simp [whole]

/-- R132: an engine rewritten is sent nothing. -/
theorem State.Works.rewriteEngine {s : State} {key : Nat} {e : Engine} (number : e.number = key)
    (shaped : (∀ f ∈ s.engines, f.shaped = true) → e.shaped = true) (orders : ∀ o ∈ e.orders, orderInRange o = true)
    (sent : e.sent = 0) : s.Works { s with engines := update (·.number == key) (fun _ => e) s.engines } := by
  have nothing (ahead : Bool) : e.sentThrust ahead = 0 := by simp [Engine.sentThrust, sent]
  refine .engines _ (fun numbers => by rwa [map_update_key _ number]) (fun all => forall_mem_rewritten (shaped all) all)
    ?_ fun _ => ?_
  · rewrite [State.orderLaw_iff, State.orderLaw_iff]
    exact forall_mem_rewritten (p := fun e : Engine => ∀ o ∈ e.orders, orderInRange o = true) orders
  · have sum (ahead : Bool) : ((update (·.number == key) (fun _ => e) s.engines).map (·.sentThrust ahead)).sum ≤
        (s.engines.map (·.sentThrust ahead)).sum := by
      refine sum_le_of_forall₂ (R := fun f g : Engine => g.sentThrust ahead ≤ f.sentThrust ahead) ?_ fun _ _ => id
      refine forall₂_update (R := fun f g : Engine => g.sentThrust ahead ≤ f.sentThrust ahead) (fun _ => le_refl _)
        (·.number == key) (fun _ => e) s.engines fun f _ _ => ?_
      rewrite [nothing]
      exact Nat.zero_le _
    rewrite [State.thrustLaw_iff, State.thrustLaw_iff]
    exact fun ⟨damaged, ahead, astern⟩ =>
      ⟨forall_mem_rewritten (p := fun e : Engine => e.header.damaged = true → e.sent = 0) (fun _ => sent) damaged,
        (sum true).trans ahead, (sum false).trans astern⟩

theorem restoreEngine_works (key : Nat) (is : List Item) (x : Txn) : x.st.Works (restoreEngine key is x).1.st := by
  unfold restoreEngine
  split <;> rename_i found
  · exact .refl _
  · rename_i e
    extract_lets rated factor new y z
    split
    · exact .refl _
    · split
      · exact .refl _
      · split
        · exact .refl _
        · have rewritten : x.st.Works y.st := by
            refine .rewriteEngine (find?_key found).1 (fun all => ?_) ?_ rfl
            · have shaped := all e (find?_key found).2
              simp only [Engine.shaped, new] at shaped ⊢
              split at shaped <;> simp_all
            · simp [new, Engine.orders, orderInRange_iff]
          have governor : y.st.Routine z.st := (State.Routine.refl _).forKeys _ _ fun a _ hw => hw.giveParameters a _
          exact rewritten.trans (governor.forKeys _ _ fun a _ hw => hw.giveParameters a _).works

theorem restoreRudder_works (key : Nat) (is : List Item) (x : Txn) : x.st.Works (restoreRudder key is x).1.st := by
  unfold restoreRudder
  split <;> rename_i found
  · exact .refl _
  · rename_i r
    extract_lets new y
    split
    · exact .refl _
    · split
      · exact .refl _
      · have rewritten : x.st.Works y.st :=
          .rudders _ fun channels => by
            rwa [map_update_key]
            exact (find?_key found).1
        exact rewritten.trans ((State.Routine.refl y.st).giveParameters _ _).works

theorem restoreTank_works (key : Nat) (is : List Item) (x : Txn) : x.st.Works (restoreTank key is x).1.st := by
  unfold restoreTank
  split <;> rename_i found
  · exact .refl _
  · rename_i t
    extract_lets new y z w
    split
    · exact .refl _
    · split
      · exact .refl _
      · have rewritten : x.st.Works y.st := by
          refine .tanks _ (fun numbers => ?_) ?_
          · rwa [map_update_key]
            rfl
          · rewrite [State.tankLaw_iff, State.tankLaw_iff]
            exact forall_mem_rewritten (p := fun t : Tank => (t.header.damaged || t.balanced) = true)
              (by rw [newTank_balanced, Bool.or_true])
        have gauge : y.st.Routine z.st := (State.Routine.refl _).forKeys _ _ fun a _ hw => hw.giveParameters a _
        have draws : y.st.Routine w.st := gauge.forKeys _ _ fun e _ hv => hv.debitHeld e key
        exact rewritten.trans (draws.forKeys _ _ fun k _ hv => hv.postHeld k).works

theorem restoreTransfer_works (key : Nat) (is : List Item) (x : Txn) : x.st.Works (restoreTransfer key is x).1.st := by
  unfold restoreTransfer
  split <;> rename_i found
  · exact .refl _
  · rename_i t
    extract_lets new y
    split
    · exact .refl _
    · split
      · exact .refl _
      · have rewritten : x.st.Works y.st := by
          refine .transfers _ (fun numbers => ?_) ?_
          · rwa [map_update_key]
            rfl
          · rewrite [State.pumpLaw_iff, State.pumpLaw_iff]
            exact forall_mem_rewritten (p := fun t : Transfer => (!t.pumpRun || t.state == .running) = true) rfl
        exact rewritten.trans ((State.Routine.refl y.st).giveParameters _ _).works

theorem requestRestore_works (q : Request) (x : Txn) : x.st.Works (requestRestore q x).1.st := by
  unfold requestRestore
  split
  · split
    · exact .refl _
    · split
      · exact .refl _
      · split
        · exact restoreBarge_works _ _ x
        · exact restoreCoupling_works _ _ x
        · exact restoreEngine_works _ _ x
        · exact restoreRudder_works _ _ x
        · exact restoreTank_works _ _ x
        · exact restoreTransfer_works _ _ x
  · exact .refl _

/-! ## CLEAR STORE (R18) -/

/-- R18: an empty store meets every law. -/
theorem State.Works.cleared (s : State) : s.Works s.cleared where
  port := ⟨rfl, rfl, rfl, rfl, rfl⟩
  thrust _ _ := by simp [State.thrustLaw, State.cleared]
  keeps :=
    { roster := fun _ => ⟨rfl, fun _ => rfl⟩
      record := fun _ => rfl
      lockage := fun _ => rfl
      order := fun _ => rfl
      tank := fun _ => rfl
      pump := fun _ => rfl }

theorem requestClearStore_works (q : Request) (x : Txn) : x.st.Works (requestClearStore q x).1.st := by
  unfold requestClearStore
  split
  · have reads := ((State.Routine.refl x.st).readAll .engines (x.st.engines.map (·.number)) [12]).readAll .transfers
      (x.st.transfers.map (·.number)) [14]
    dsimp only
    split
    · exact reads.works
    · exact reads.works.trans (.cleared _)
  · exact .refl _

end

/-! AMEND keeps the laws of the store, and so does every request. -/

/-! ## AMEND of a barge (R45 to R47) -/

namespace State

theorem nodeLaw_iff_pairwise (s : State) : s.nodeLaw = true ↔
    s.barges.Pairwise (fun b c => ∀ a, b.node = some a → c.node ≠ some a) ∧
      ∀ b ∈ s.barges, b.node ≠ some 0 ∧ b.node ≠ some s.policy.boatNode := by
  simp only [State.nodeLaw, Bool.and_eq_true, decide_eq_true_eq, List.all_eq_true, bne_iff_ne]
  refine and_congr_left fun _ => ?_
  rewrite [List.Nodup, List.pairwise_filterMap]
  refine ⟨List.Pairwise.imp fun h a hb hc => h a hb a hc rfl, List.Pairwise.imp fun h a hb c hc hac => ?_⟩
  exact h a hb (hac ▸ hc)

/-- R47: the barge keeps the node address, or takes one that neither the boat nor another barge holds. -/
def NodeFor (s : State) (key : Nat) (stands new : Option Nat) : Prop :=
  new = stands ∨ ∀ a, new = some a →
    a ≠ 0 ∧ a ≠ s.policy.boatNode ∧ ∀ c ∈ s.barges, c.hull ≠ key → c.node ≠ some a

theorem nodeLaw_update {s : State} {key : Nat} {f : Barge → Barge} (law : s.nodeLaw = true)
    (hulls : (s.barges.map (·.hull)).Nodup)
    (node : ∀ b ∈ s.barges, b.hull = key → s.NodeFor key b.node (f b).node) :
    State.nodeLaw { s with barges := update (·.hull == key) f s.barges } = true := by
  rewrite [State.nodeLaw_iff_pairwise] at law ⊢
  rewrite [List.Nodup, List.pairwise_map] at hulls
  constructor
  · rewrite [update, List.pairwise_map]
    refine (hulls.and law.1).imp_of_mem fun {b c} hb hc ⟨apart, distinct⟩ a => ?_
    by_cases hbk : b.hull = key
    · have hck : ¬ c.hull = key := fun h => apart (hbk.trans h.symm)
      simp only [hbk, hck, beq_iff_eq, if_true, if_false]
      intro ha
      obtain same | free := node b hb hbk
      · exact distinct a (same ▸ ha)
      · exact (free a ha).2.2 c hc hck
    · by_cases hck : c.hull = key
      · simp only [hbk, hck, beq_iff_eq, if_true, if_false]
        intro ha hca
        obtain same | free := node c hc hck
        · exact distinct a ha (same ▸ hca)
        · exact (free a hca).2.2 b hb hbk ha
      · simp only [hbk, hck, beq_iff_eq, if_false]
        exact distinct a
  · refine forall_mem_update (p := fun b : Barge => b.node ≠ some 0 ∧ b.node ≠ some s.policy.boatNode)
      (fun b hb hk stands => ?_) law.2
    obtain same | free := node b hb (beq_iff_eq.mp hk)
    · rewrite [same]
      exact stands
    · exact ⟨fun h => (free _ h).1 rfl, fun h => (free _ h).2.1 rfl⟩

namespace Works

/-- R46, R47: a barge amended keeps its hull number and its string. -/
theorem modBarge {x : Txn} {key : Nat} {words : List Nat} {f : Barge → Barge} (hull : ∀ b, (f b).hull = b.hull)
    (string : ∀ b, (f b).string = b.string)
    (node : (x.st.barges.map (·.hull)).Nodup → ∀ b ∈ x.st.barges, b.hull = key → x.st.NodeFor key b.node (f b).node) :
    x.st.Works (x.modBarge key words f).st := by
  let g (b : Barge) : Barge := (f b).renew words
  have same : (update (·.hull == key) g x.st.barges).map (·.hull) = x.st.barges.map (·.hull) := map_update _ g _ _ hull
  have names : (update (·.hull == key) g x.st.barges).map (·.string) = x.st.barges.map (·.string) :=
    map_update _ g _ _ string
  have congr := State.rosterLaw_congr (s := x.st) (t := (x.modBarge key words f).st) rfl same names
  refine .barges _ _ (fun hulls => same ▸ hulls) fun law => ⟨congr.trans law, ?_⟩
  have hulls := ((State.rosterLaw_iff _).mp law).2.2.2.2.1
  exact fun nodes => State.nodeLaw_update (f := g) nodes hulls (node hulls)

theorem moveBarge {s : State} {b : Barge} {key string : Nat} (found : s.barge? key = some b)
    (low : 1 ≤ string) (high : string ≤ 6) (room : s.stringCount string < 8) : s.Works (s.moveBarge b string) := by
  refine .barges _ _ (fun hulls => ?_) fun law => ?_
  · refine (((s.removeBarge b).insertBarge_perm _ _).map (·.hull)).nodup_iff.mpr ?_
    exact ((State.removeBarge_perm hulls found).map (·.hull)).nodup_iff.mp hulls
  · have hulls := ((State.rosterLaw_iff _).mp law).2.2.2.2.1
    exact ⟨State.moveBarge_rosterLaw law found low high room, fun nodes =>
      (State.moveBarge_nodeLaw hulls found).trans nodes⟩

end Works

namespace Calm

/-- A barge looked up by its hull, and every other, after a routine change. -/
theorem node {s t : State} (h : s.Calm t) {key : Nat} {b : Barge} (hulls : (s.barges.map (·.hull)).Nodup)
    (found : s.barge? key = some b) : ∀ c ∈ t.barges, c.hull = key → c.node = b.node := by
  refine forall_mem_of_forall₂ (p := fun c : Barge => c.hull = key → c.node = b.node) h.barges
    (fun c d r hc hd => r.node.trans (hc (r.hull.symm.trans hd))) fun c hc hk => ?_
  obtain ⟨hb, mem⟩ := find?_key found
  rw [List.inj_on_of_nodup_map hulls hc mem (hk.trans hb.symm)]

theorem nodeFor {s t : State} (h : s.Calm t) {key : Nat} {stands new : Option Nat}
    (node : s.NodeFor key stands new) : t.NodeFor key stands new := by
  refine node.imp_right fun free a ha => ?_
  obtain ⟨nonzero, boat, others⟩ := free a ha
  refine ⟨nonzero, h.policy ▸ boat, ?_⟩
  exact forall_mem_of_forall₂ (p := fun c : Barge => c.hull ≠ key → c.node ≠ some a) h.barges
    (fun c d r hc hd => r.node ▸ hc (r.hull ▸ hd)) others

end Calm

end State

/-- R47: the address that an AMEND of a barge leaves it with. -/
theorem amended_nodeFor {s : State} {b : Barge} {is : List Item} (ranges : checkItems is bargeAmendRange = none)
    (references : checkItems is (s.bargeAmendReferences b) = none) :
    s.NodeFor b.hull b.node (givenAddress is 6 b.node) := by
  unfold givenAddress
  split
  · rename_i v hv
    have range := inRange_eq_none.mp (check_of_valueOf ranges hv)
    have free := refuseIf_eq_none.mp (check_of_valueOf references hv)
    dsimp only at range free
    simp only [Bool.and_eq_false_iff, bne_eq_false_iff_eq] at free
    rcases free with (zero | same) | free
    · exact .inr fun a ha => by simp [addressOf, zero] at ha
    · exact .inl same
    · refine .inr fun a ha => ?_
      unfold addressOf at ha
      split at ha
      · cases ha
      · obtain rfl := Option.some.inj ha
        obtain ⟨nonzero, boat, others⟩ := State.nodeAddress_free free (by omega)
        exact ⟨nonzero, boat, fun c hc hk => others c hc fun h => hk (Option.some.inj h).symm⟩
  · exact .inl rfl

/-- R45: a string that an AMEND moves a barge to is one of the six, with room. -/
theorem amended_string {s : State} {b : Barge} {is : List Item} (ranges : checkItems is bargeAmendRange = none)
    (references : checkItems is (s.bargeAmendReferences b) = none) (moves : given is 2 b.string ≠ b.string) :
    1 ≤ given is 2 b.string ∧ given is 2 b.string ≤ 6 ∧ s.stringCount (given is 2 b.string) < 8 := by
  cases hv : valueOf is 2 with
  | none => simp [given, hv] at moves
  | some v =>
    have range := inRange_eq_none.mp (check_of_valueOf ranges hv)
    have room := check_of_valueOf references hv
    rewrite [given_of_valueOf hv] at moves ⊢
    simp only [State.bargeAmendReferences] at range room
    rewrite [if_neg (by omega)] at room
    split_ifs at room
    rewrite [refuseIf_eq_none, decide_eq_false_iff_not] at room
    exact ⟨by omega, by omega, Nat.lt_of_not_le room⟩

theorem amendBarge_works (key : Nat) (is : List Item) (x : Txn) : x.st.Works (amendBarge key is x).1.st := by
  unfold amendBarge
  split <;> rename_i found
  · exact .refl _
  · rename_i b
    extract_lets string node lashed running y words z w
    split <;> rename_i ranges
    · exact .refl _
    · split <;> rename_i references
      · exact .refl _
      · obtain ⟨hull, -⟩ := find?_key found
        have reads : x.st.Routine y.st := by
          have asked : x.st.Routine lashed.1.st := by
            unfold lashed
            split
            · exact .refl _
            · exact (State.Routine.refl _).anyLashed _
          unfold y running
          split
          · exact asked
          · exact asked.bowRunning key
        split
        · exact reads.works
        · split
          · exact reads.works
          · have written : y.st.Works z.st := by
              refine .modBarge (fun _ => rfl) (fun _ => rfl) fun hulls c hc hk => ?_
              rewrite [reads.calm.hulls] at hulls
              have := reads.calm.nodeFor (amended_nodeFor ranges references)
              rwa [reads.calm.node hulls found c hc hk, ← hull]
            have moved : z.st.Works w.st := by
              unfold w
              split <;> rename_i hs
              · exact .refl _
              · change z.st.Works (match z.st.barge? key with
                  | none => z.st
                  | some b => z.st.moveBarge b string)
                split <;> rename_i again
                · exact .refl _
                · obtain ⟨low, high, room⟩ := amended_string ranges references hs
                  refine .moveBarge again low high ?_
                  have strings : z.st.strings = x.st.strings := reads.calm.strings
                  simp only [State.stringCount, State.entry, strings] at room ⊢
                  exact room
            refine (reads.works.trans written).trans (moved.trans ?_)
            dsimp only
            split
            · exact .refl _
            · exact ((State.Routine.refl _).clearReadings _).works

/-! AMEND of the other tables and of the policy record keeps the laws, and so does every request. -/

/-! ## Couplings (R75) -/

theorem State.sound_coupling {s : State} {key : Nat} {c : Coupling} (found : s.coupling? key = some c) :
    s.sound .couplings key = !c.header.damaged := by
  simp [State.sound, State.header?, found]

theorem amendCoupling_works (key : Nat) (is : List Item) (x : Txn) (sound : x.st.sound .couplings key = true) :
    x.st.Works (amendCoupling key is x).1.st := by
  unfold amendCoupling
  split <;> rename_i found
  · exact .refl _
  · rename_i c
    extract_lets tending winch kind endA endB endsChanged tendingChanged whole crossing kindOfTending words y
    split
    · exact .refl _
    · split
      · exact .refl _
      · split
        · exact .refl _
        · split
          · exact .refl _
          · split
            · exact .refl _
            · split
              · exact .refl _
              · split
                · exact .refl _
                · have written : x.st.Works y.st := by
                    refine .couplings _ (fun numbers => ?_) fun phase uncrossed => ?_
                    · rwa [map_update]
                      exact fun _ => rfl
                    · have stands : crossing = c.crossing := by simp [crossing, whole, phase]
                      have clear : c.crossing = false := by
                        refine (uncrossed c (find?_key found).2).resolve_left ?_
                        simpa [State.sound_coupling found] using sound
                      refine forall_mem_update (p := fun c : Coupling => c.header.damaged = true ∨ c.crossing = false)
                        (fun d _ _ _ => .inr ?_) uncrossed
                      exact stands.trans clear
                  exact written.trans (((State.Routine.refl y.st).giveOrders key is).touch).works

/-! ## Engines (R114, R143, R158) -/

namespace State

theorem Routine.engineContexts {s : State} {x : Txn} (h : s.Routine x.st) (before after : Engine)
    (setGiven : Bool) : s.Routine (x.engineContexts before after setGiven).st := by
  unfold Txn.engineContexts
  extract_lets factor f y z w
  have hy : s.Routine y.st := h.moveContexts _ _
  have hz : s.Routine z.st := by
    unfold z
    split
    · exact .ite (hy.giveParameters ..) hy
    · exact hy
  have hw : s.Routine w.st := by
    unfold w
    split
    · exact .ite (hz.giveParameters ..) hz
    · exact hz
  split
  · exact hw.retryAll _
  · exact hw

/-- R114, R143: an engine amended, seen from the state in which the request found it. -/
theorem Works.modEngine {s : State} {x : Txn} (h : s.Routine x.st) {key : Nat} {words : List Nat} {e : Engine}
    {f : Engine → Engine} (found : s.engine? key = some e) (number : ∀ g, (f g).number = g.number)
    (sent : ∀ g, (f g).sent = g.sent) (header : ∀ g, (f g).header = g.header)
    (orders : ∀ g, (∀ o ∈ g.orders, orderInRange o = true) → ∀ o ∈ (f g).orders, orderInRange o = true)
    (shaped : ∀ g, g.number = key → e.shaped = true → (f g).shaped = true)
    (rated : key = 5 ∨ e.sent = 0 ∨ ∀ g, (f g).rated = e.rated) : s.Works (x.modEngine key words f).st := by
  obtain ⟨hkey, mem⟩ := find?_key found
  let w (g : Engine) : Engine := (f g).renew words
  have numbers : (update (·.number == key) w x.st.engines).map (·.number) = x.st.engines.map (·.number) :=
    map_update _ w _ _ number
  have keeps := h.calm.keeps
  refine ⟨h.port.trans ⟨rfl, rfl, rfl, rfl, rfl⟩, { keeps with record := fun law => ?_, order := fun law => ?_ }, fun record law => ?_⟩
  · have shape := ((State.recordLaw_iff _).mp law).2.2.2.2.2.2 e mem
    have kept := keeps.record law
    rewrite [State.recordLaw_iff] at kept ⊢
    obtain ⟨h1, h2, h3, h4, h5, h6, h7⟩ := kept
    refine ⟨h1, h2, numbers ▸ h3, h4, h5, h6, forall_mem_update (fun g _ hg _ => ?_) h7⟩
    exact shaped g (beq_iff_eq.mp hg) shape
  · have kept := keeps.order law
    rewrite [State.orderLaw_iff] at kept ⊢
    exact forall_mem_update (p := fun e : Engine => ∀ o ∈ e.orders, orderInRange o = true) (fun g _ _ => orders g) kept
  · have unique := ((State.recordLaw_iff _).mp record).2.2.1
    have own : ∀ g ∈ x.st.engines, g.number = key → (g.sent = e.sent ∨ g.sent = 0) ∧ g.rated = e.rated := by
      refine forall_mem_of_forall₂ (p := fun g : Engine => g.number = key → (g.sent = e.sent ∨ g.sent = 0) ∧ g.rated = e.rated)
        h.calm.engines (fun d g r hd hg => ?_) fun d hd hk => ?_
      · obtain ⟨hs, hr⟩ := hd (r.number.symm.trans hg)
        refine ⟨?_, r.rated.trans hr⟩
        obtain same | zero := r.sent
        · rwa [same]
        · exact .inr zero
      · rewrite [List.inj_on_of_nodup_map unique hd mem (hk.trans hkey.symm)]
        exact ⟨.inl rfl, rfl⟩
    have less (ahead : Bool) : ((update (·.number == key) w x.st.engines).map (·.sentThrust ahead)).sum ≤
        (x.st.engines.map (·.sentThrust ahead)).sum := by
      refine sum_le_of_forall₂ (R := fun g g' : Engine => g'.sentThrust ahead ≤ g.sentThrust ahead) ?_ fun _ _ => id
      refine forall₂_update (R := fun g g' : Engine => g'.sentThrust ahead ≤ g.sentThrust ahead) (fun _ => le_refl _) _ _ _
        fun g hg hk => ?_
      obtain ⟨hs, hr⟩ := own g hg (beq_iff_eq.mp hk)
      have hn : (w g).number = g.number := number g
      have ht : (w g).sent = g.sent := sent g
      rcases rated with five | zero | same
      · simp [Engine.sentThrust, hn, beq_iff_eq.mp hk, five]
      · have none : g.sent = 0 := by rewrite [zero] at hs; exact hs.elim id id
        simp [Engine.sentThrust, ht, none]
      · have hw : (w g).rated = g.rated := (same g).trans hr.symm
        rw [Engine.sentThrust, hn, ht, hw, ← Engine.sentThrust]
    obtain ⟨damaged, ahead, astern⟩ := (State.thrustLaw_iff _).mp (h.calm.thrust law)
    refine (State.thrustLaw_iff _).mpr ⟨?_, (less true).trans ahead, (less false).trans astern⟩
    refine forall_mem_update (p := fun g : Engine => g.header.damaged = true → g.sent = 0) (fun g _ _ hg hd => ?_) damaged
    have hh : (w g).header.damaged = g.header.damaged := by simp [w, Engine.renew, Header.renew, header]
    exact (sent g).trans (hg (hh ▸ hd))

end State

theorem isSome_present {α : Type} (b : Bool) (a : α) : (if b = true then some a else none).isSome = b := by
  cases b <;> rfl
theorem isSome_absent {α : Type} (b : Bool) (a : α) : (if b = true then none else some a).isSome = !b := by
  cases b <;> rfl

/-- R112: what an AMEND leaves the optional fields of an engine at fits its number. -/
theorem amended_shaped {s : State} {is : List Item} {e g : Engine} {key : Nat} {bow : Bool} (number : e.number = key)
    (same : g.number = key)
    (ranges : checkItems is (s.engineRange (key == 5) (givenAddress is 5 e.meter).isSome bow) = none)
    (station : g.station = if key == 5 then none else givenAddress is 2 e.station)
    (bowBarge : g.bowBarge.isSome = (key == 5)) (meter : g.meter = givenAddress is 5 e.meter)
    (factor : g.meterFactor.isSome = g.meter.isSome) (supply : g.supply.isSome = !(key == 5))
    (shaped : e.shaped = true) : g.shaped = true := by
  by_cases five : key = 5
  · simp only [five, beq_self_eq_true, if_true, Bool.not_true] at ranges station bowBarge supply
    have none5 : valueOf is 5 = none := valueOf_eq_none_of_bad ranges nofun
    simp only [Engine.shaped, number, five, beq_self_eq_true, if_true, Bool.and_eq_true, Option.isNone_iff_eq_none] at shaped
    have unmetered : g.meter = none := by
      simp only [meter, givenAddress, none5]
      exact shaped.1.1.2
    rewrite [unmetered] at factor
    have unfactored : g.meterFactor = none := by simpa using factor
    have unsupplied : g.supply = none := by simpa using supply
    simp [Engine.shaped, same, five, station, bowBarge, unmetered, unfactored, unsupplied]
  · have main : (key == 5) = false := by simpa using five
    simp only [main, Bool.false_eq_true, if_false, Bool.not_false] at ranges station bowBarge supply
    simp only [Engine.shaped, number, main, Bool.false_eq_true, if_false, Bool.and_eq_true] at shaped
    have address : g.station.isSome = true := by
      rewrite [station]
      unfold givenAddress
      split
      · rename_i a ha
        have := inRange_eq_none.mp (check_of_valueOf ranges ha)
        dsimp only at this
        rewrite [addressOf, if_neg (by omega)]
        rfl
      · exact shaped.1.1.1
    simp [Engine.shaped, same, five, address, factor, supply, ← Option.not_isSome, bowBarge]

theorem amendEngine_works (key : Nat) (is : List Item) (x : Txn) : x.st.Works (amendEngine key is x).1.st := by
  unfold amendEngine
  split <;> rename_i found
  · exact .refl _
  · rename_i e
    extract_lets five meter held bow y station rated bowBarge bowMoved bound factor supply words after z w v u
    have read : x.st.Routine y.st := by
      unfold y bow
      split
      · exact (State.Routine.refl _).bowFitted _
      · exact .refl _
    have contexts : z.st.Routine w.st := (State.Routine.refl _).engineContexts ..
    have moved : z.st.Routine v.st := by
      unfold v
      split
      · exact contexts.setBow _
      · exact contexts
    have debited : z.st.Routine u.st := by
      unfold u
      generalize supply = new
      cases new with
      | none => exact moved
      | some t => exact .ite moved (moved.debitHeld ..)
    split <;> rename_i ranges
    · exact read.works
    · split
      · exact read.works
      · split
        · exact read.works
        · split <;> rename_i free
          · exact read.works
          · have written : x.st.Works z.st := by
              refine .modEngine read found (fun _ => rfl) (fun _ => rfl) (fun _ => rfl) ?_ ?_ ?_
              · intro g hg
                simp only [Engine.orders, List.forall_mem_cons] at hg ⊢
                exact hg.imp_left stagedOrder_inRange
              · exact fun g hg => amended_shaped (find?_key found).1 hg ranges rfl (isSome_present _ _) rfl
                  (isSome_present _ _) (isSome_absent _ _)
              · by_cases bow_unit : key = 5
                · exact .inl bow_unit
                · refine .inr ?_
                  by_cases zero : e.sent = 0
                  · exact .inl zero
                  · refine .inr fun g => ?_
                    have main : five = false := by simpa [five] using bow_unit
                    simp only [bound, main, Bool.false_eq_true, if_false, Bool.and_eq_true, Bool.or_eq_true, bne_iff_ne, ne_eq,
                      zero, not_false_eq_true, and_true, not_or, not_not] at free
                    exact free.2
            exact written.trans debited.works

/-! ## Rudder channels, tanks and transfers (R135, R150, R166) -/

theorem amendRudder_routine (key : Nat) (is : List Item) (x : Txn) : x.st.Routine (amendRudder key is x).1.st := by
  unfold amendRudder
  split
  · exact .refl _
  · extract_lets station limit rate fitted wanted staged clamped words y z w
    split
    · exact .refl _
    · split
      · exact .refl _
      · split
        · exact .refl _
        · have moved : x.st.Routine z.st := ((State.Routine.refl _).modRudder ..).moveContexts _ _
          have given : x.st.Routine w.st := by
            unfold w
            split
            · exact moved.giveParameters ..
            · exact moved
          dsimp only
          exact .ite (given.retryRejected _) given

theorem amendTank_routine (key : Nat) (is : List Item) (x : Txn) : x.st.Routine (amendTank key is x).1.st := by
  unfold amendTank
  split
  · exact .refl _
  · extract_lets capacity lowMark kind gauge words y z w v
    split
    · exact .refl _
    · split
      · exact .refl _
      · split
        · exact .refl _
        · have moved : x.st.Routine z.st := ((State.Routine.refl _).modTank ..).moveContexts _ _
          have given : x.st.Routine w.st := by
            unfold w
            generalize gauge = new
            cases new with
            | none => exact moved
            | some a => exact .ite (moved.giveParameters ..) moved
          have evaluated : x.st.Routine v.st := by
            unfold v
            split
            · exact given
            · exact given.evaluateLow _
          dsimp only
          exact .ite (evaluated.retryAll _) evaluated

theorem amendTransfer_routine (key : Nat) (is : List Item) (x : Txn) :
    x.st.Routine (amendTransfer key is x).1.st := by
  unfold amendTransfer
  split
  · exact .refl _
  · extract_lets source mode destination count interval after words y z w
    split
    · exact .refl _
    · split
      · exact .refl _
      · split
        · exact .refl _
        · split
          · exact .refl _
          · split
            · exact .refl _
            · have moved : x.st.Routine z.st := ((State.Routine.refl _).modTransfer ..).moveContexts _ _
              have given : x.st.Routine w.st := by
                unfold w
                split
                · exact moved.giveParameters ..
                · exact moved
              exact given.retryRejected _

/-! ## The policy record (R7) -/

/-- R47: the policy record sees the laws in its boat node address alone. -/
theorem State.Works.policy {s : State} (p : Policy)
    (boat : p.boatNode = s.policy.boatNode ∨ p.boatNode = 0 ∨ ∀ b ∈ s.barges, b.node ≠ some p.boatNode) :
    s.Works { s with policy := p } where
  port := ⟨rfl, rfl, rfl, rfl, rfl⟩
  thrust _ := id
  keeps :=
    { State.Keeps.refl s with
      roster := by
        refine fun law => ⟨law, fun nodes => ?_⟩
        rewrite [State.nodeLaw_iff_pairwise] at nodes ⊢
        refine ⟨nodes.1, fun b hb => ⟨(nodes.2 b hb).1, ?_⟩⟩
        rcases boat with same | none | free
        · exact same ▸ (nodes.2 b hb).2
        · exact none ▸ (nodes.2 b hb).1
        · exact free b hb }

theorem amendPolicy_works (is : List Item) (x : Txn) : x.st.Works (amendPolicy is x).1.st := by
  unfold amendPolicy
  extract_lets p q boatMoved rateMoved lashed y z w v
  have reads : x.st.Routine y.st := (State.Routine.refl _).anyLashed _
  have changed : x.st.Routine z.st := by
    unfold z
    split
    · exact reads.changeRate _
    · exact reads
  split
  · exact .refl _
  · split <;> rename_i free
    · exact .refl _
    · split
      · exact reads.works
      · have written : z.st.Works w.st := by
          refine .policy q ?_
          rewrite [changed.calm.policy]
          by_cases same : q.boatNode = p.boatNode
          · exact .inl same
          · by_cases zero : q.boatNode = 0
            · exact .inr (.inl zero)
            · refine .inr (.inr ?_)
              have others : ∀ b ∈ x.st.barges, b.node ≠ some q.boatNode := by
                simpa [boatMoved, same, zero] using free
              exact forall_mem_of_forall₂ (p := fun b : Barge => b.node ≠ some q.boatNode) changed.calm.barges
                (fun c d r hc => r.node ▸ hc) others
        have cleared : w.st.Routine v.st := by
          unfold v
          split
          · exact (State.Routine.refl _).clearReadings _
          · exact .refl _
        refine (changed.works.trans written).trans (State.Routine.works ?_)
        dsimp only
        split
        · exact cleared.same _
        · exact cleared

/-! ## AMEND (R31) -/

theorem amendRecord_works (t : Tbl) (is : List Item) (x : Txn) : x.st.Works (amendRecord t is x).1.st := by
  unfold amendRecord
  split
  · exact .refl _
  · split
    · exact .refl _
    · split <;> rename_i hr
      · exact ((State.Routine.refl _).of_read hr).works
      · obtain ⟨sound, n, rfl⟩ := Txn.read_true _ _ _ _ _ hr
        have read := ((State.Routine.refl _).of_read hr).works
        dsimp only
        split
        · exact read.trans (amendBarge_works ..)
        · exact read.trans (amendCoupling_works _ _ _ sound)
        · exact read.trans (amendEngine_works ..)
        · exact read.trans (amendRudder_routine ..).works
        · exact read.trans (amendTank_routine ..).works
        · exact read.trans (amendTransfer_routine ..).works

theorem amendKept_state (is : List Item) (x : Txn) : (amendKept is x).1 = x := by
  unfold amendKept
  split <;> rfl

theorem requestAmend_works (q : Request) (x : Txn) : x.st.Works (requestAmend q x).1.st := by
  unfold requestAmend
  split
  · exact .refl _
  · extract_lets table others key found
    split
    · split
      · split
        · exact amendRecord_works ..
        · split
          · rewrite [amendKept_state]
            exact .refl _
          · exact .refl _
      · exact .refl _
    · split
      · exact .refl _
      · split
        · exact amendPolicy_works ..
        · rewrite [amendKept_state]
          exact .refl _

/-! The cycle computation keeps the laws: the distribution of the thrust allowance (R124, R146), the slew (R126), and
the limits written with them (R128). -/

theorem forall₂_imp_mem {α β : Type} {R S : α → β → Prop} {l : List α} {m : List β} (h : List.Forall₂ R l m)
    (hS : ∀ a ∈ l, ∀ b ∈ m, R a b → S a b) : List.Forall₂ S l m := by
  induction h with
  | nil => exact .nil
  | cons hab _ ih =>
    exact .cons (hS _ List.mem_cons_self _ List.mem_cons_self hab) (ih fun a ha b hb =>
      hS a (List.mem_cons_of_mem _ ha) b (List.mem_cons_of_mem _ hb))

/-- R131: every damaged engine is sent nothing. -/
def State.Silent (s : State) : Prop := ∀ e ∈ s.engines, e.header.damaged = true → e.sent = 0

/-! ## The distribution (R124, R146) -/

/-- R124: an engine's share in one direction. -/
def Engine.shareIn (e : Engine) (ahead : Bool) : Nat := if ahead then e.share.toNat else (-e.share).toNat

/-- R122: the limit of one direction. -/
def Limits.of (l : Limits) (ahead : Bool) : Nat := if ahead then l.ahead else l.astern

/-- R124: what a share is cut to under a demand. -/
def cutShare (share limit demand : Nat) : Nat := if limit < demand then share * limit / demand else share

/-- R124: the shares after the cut stay within the limit. -/
theorem sum_cutShare_le (shares : List Nat) (limit : Nat) :
    (shares.map fun r => cutShare r limit shares.sum).sum ≤ limit := by
  have cut (demand : Nat) : ∀ rs : List Nat, (rs.map fun r => r * limit / demand).sum ≤ rs.sum * limit / demand := by
    intro rs
    induction rs with
    | nil => simp
    | cons r rs ih =>
      simp only [List.map_cons, List.sum_cons, Nat.add_mul]
      exact (Nat.add_le_add_left ih _).trans Nat.div_add_div_le_add_div
  by_cases h : limit < shares.sum
  · simp only [cutShare, h, if_true]
    refine (cut shares.sum shares).trans ?_
    rw [Nat.mul_comm, Nat.mul_div_cancel _ (by omega)]
  · simp only [cutShare, h, if_false, List.map_id']
    omega

/-- R124: an order scaled to a share drives no more than the share. -/
theorem scaledOrder_thrust_le (r limit demand rated : Nat) :
    scaledOrder r limit demand rated * rated / 1000 ≤ r * limit / demand := by
  refine Nat.div_le_of_le_mul ?_
  rewrite [scaledOrder, Nat.mul_comm 1000]
  exact Nat.div_mul_le_self _ _

theorem share_toNat {e : Engine} (h : 0 ≤ e.live) : e.share.toNat = e.live.natAbs * e.rated / 1000 := by
  obtain ⟨n, hn⟩ := Int.eq_ofNat_of_zero_le h
  have cast : ((n : Int) * e.rated).tdiv 1000 = ((n * e.rated / 1000 : Nat) : Int) := by
    rewrite [← Int.natCast_mul]
    exact (Int.ofNat_tdiv _ _).symm
  rw [Engine.share, hn, cast, Int.toNat_natCast, Int.natAbs_natCast]

theorem neg_share_toNat {e : Engine} (h : e.live ≤ 0) : (-e.share).toNat = e.live.natAbs * e.rated / 1000 := by
  have opposite : Engine.share { e with live := -e.live } = -e.share := by
    simp only [Engine.share, Int.neg_mul, Int.neg_tdiv]
  rw [← opposite, share_toNat (by simpa using h), Int.natAbs_neg]

theorem share_nonneg {e : Engine} (h : 0 ≤ e.live) : 0 ≤ e.share :=
  Int.tdiv_nonneg (Int.mul_nonneg h (Int.natCast_nonneg _)) (by decide)

theorem share_nonpos {e : Engine} (h : e.live ≤ 0) : e.share ≤ 0 := by
  have opposite : Engine.share { e with live := -e.live } = -e.share := by
    simp only [Engine.share, Int.neg_mul, Int.neg_tdiv]
  have := share_nonneg (e := { e with live := -e.live }) (by dsimp only; omega)
  omega

/-- R126: the thrust of an order in one direction, in kN. -/
def thrustIn (order : Int) (rated : Nat) (ahead : Bool) : Nat :=
  if (if ahead then decide (0 < order) else decide (order < 0)) then order.natAbs * rated / 1000 else 0

theorem thrustIn_zero (rated : Nat) (ahead : Bool) : thrustIn 0 rated ahead = 0 := by cases ahead <;> rfl

/-- R124: the allowed order of an engine that drives asks no more than its share after the cut. -/
theorem allowedOrder_thrust_le {e : Engine} (drives : e.drives = true) (l : Limits) (demandAhead demandAstern : Nat)
    (ahead : Bool) : thrustIn (allowedOrder e l demandAhead demandAstern) e.rated ahead ≤
      cutShare (e.shareIn ahead) (l.of ahead) (if ahead then demandAhead else demandAstern) := by
  have cutAhead := scaledOrder_thrust_le e.share.toNat l.ahead demandAhead e.rated
  have cutAstern := scaledOrder_thrust_le (-e.share).toNat l.astern demandAstern e.rated
  unfold allowedOrder
  rewrite [if_pos drives]
  cases ahead
  · simp only [thrustIn, cutShare, Limits.of, Engine.shareIn, if_false, Bool.false_eq_true, decide_eq_true_eq]
    by_cases h1 : 0 < e.share ∧ l.ahead < demandAhead
    · rewrite [if_pos h1, if_neg (by omega)]
      exact Nat.zero_le _
    · by_cases h2 : e.share < 0 ∧ l.astern < demandAstern
      · rewrite [if_neg h1, if_pos h2, if_pos h2.2]
        split
        · rwa [Int.natAbs_neg]
        · exact Nat.zero_le _
      · rewrite [if_neg h1, if_neg h2]
        split
        · rewrite [← neg_share_toNat (by omega)]
          split
          · have : ¬ e.share < 0 := fun h => h2 ⟨h, ‹_›⟩
            omega
          · exact le_refl _
        · exact Nat.zero_le _
  · simp only [thrustIn, cutShare, Limits.of, Engine.shareIn, if_true, decide_eq_true_eq]
    by_cases h1 : 0 < e.share ∧ l.ahead < demandAhead
    · rewrite [if_pos h1, if_pos h1.2]
      split
      · exact cutAhead
      · exact Nat.zero_le _
    · by_cases h2 : e.share < 0 ∧ l.astern < demandAstern
      · rewrite [if_neg h1, if_pos h2, if_neg (by omega)]
        exact Nat.zero_le _
      · rewrite [if_neg h1, if_neg h2]
        split
        · rewrite [← share_toNat (by omega)]
          split
          · have : ¬ 0 < e.share := fun h => h1 ⟨h, ‹_›⟩
            omega
          · exact le_refl _
        · exact Nat.zero_le _

namespace Engine

/-- R124: the thrust of the allowed order, in kN, of an undamaged main engine in one direction. -/
def allowedThrust (e : Engine) (ahead : Bool) : Nat :=
  if e.number != 5 && !e.header.damaged then thrustIn e.allowed e.rated ahead else 0

theorem sentThrust_eq (e : Engine) (ahead : Bool) :
    e.sentThrust ahead = if e.number != 5 then thrustIn e.sent e.rated ahead else 0 := by
  unfold Engine.sentThrust thrustIn
  cases e.number != 5 <;> simp

end Engine

/-- A sum over a list, term by term within a sum over the entries that a test picks. -/
theorem sum_le_sum_filter {α : Type} {p : α → Bool} {f g : α → Nat} {l : List α} (picked : ∀ a, p a = true → f a ≤ g a)
    (others : ∀ a, p a = false → f a = 0) : (l.map f).sum ≤ ((l.filter p).map g).sum := by
  induction l with
  | nil => exact le_refl _
  | cons a l ih =>
    rewrite [List.map_cons, List.sum_cons, List.filter_cons]
    cases h : p a
    · rewrite [others a h, Nat.zero_add]
      exact ih
    · rewrite [if_pos rfl, List.map_cons, List.sum_cons]
      exact Nat.add_le_add (picked a h) ih

/-- R124, R146: the engine with its allowed order. -/
def Engine.allow (l : Limits) (ahead astern : Nat) (e : Engine) : Engine :=
  Engine.renew { e with allowed := if e.number = 5 then allowedBow e l else allowedOrder e l ahead astern } [11]

namespace Txn

theorem distribute_st (x : Txn) (l : Limits) : (x.distribute l).st = { (x.readRunning [10]).st with
    engines := update (fun e => !e.header.damaged)
      (Engine.allow l (x.readRunning [10]).st.aheadDemand (x.readRunning [10]).st.asternDemand)
      (x.readRunning [10]).st.engines } := rfl

/-- R124: the thrust allowed in one direction stays within its limit. -/
theorem distribute_allowedThrust (x : Txn) (l : Limits) (ahead : Bool) :
    ((x.distribute l).st.engines.map (·.allowedThrust ahead)).sum ≤ l.of ahead := by
  rewrite [Txn.distribute_st]
  generalize x.readRunning [10] = y
  dsimp only
  let shares := (y.st.engines.filter Engine.drives).map (·.shareIn ahead)
  have demand : shares.sum = if ahead then y.st.aheadDemand else y.st.asternDemand := by
    cases ahead <;> rfl
  rewrite [update, List.map_map]
  refine le_trans ?_ (sum_cutShare_le shares (l.of ahead))
  rewrite [List.map_map]
  refine sum_le_sum_filter (fun e he => ?_) fun e he => ?_
  · have parts := he
    simp only [Engine.drives, Bool.and_eq_true] at parts
    have sound : (!e.header.damaged) = true := parts.2
    have main : e.number ≠ 5 := bne_iff_ne.mp parts.1.1
    have bound := allowedOrder_thrust_le he l y.st.aheadDemand y.st.asternDemand ahead
    rewrite [← demand] at bound
    simpa [Function.comp, sound, Engine.allow, Engine.allowedThrust, Engine.renew, Header.renew, main] using bound
  · dsimp only [Function.comp]
    split
    · by_cases bow : e.number = 5
      · simp [Engine.allowedThrust, Engine.allow, Engine.renew, bow]
      · simp [Engine.allowedThrust, Engine.allow, Engine.renew, bow, allowedOrder, he, thrustIn_zero]
    · simp_all [Engine.allowedThrust]

end Txn

/-- R124: a scaled order lies within the order whose share it scales. -/
theorem scaledOrder_le {order limit demand rated : Nat} (h : limit < demand) :
    scaledOrder (order * rated / 1000) limit demand rated ≤ order := by
  have cut : order * rated / 1000 * limit / demand ≤ order * rated / 1000 :=
    Nat.div_le_of_le_mul (by rewrite [Nat.mul_comm demand]; exact Nat.mul_le_mul_left _ h.le)
  rcases Nat.eq_zero_or_pos rated with rfl | pos
  · simp [scaledOrder]
  · refine Nat.div_le_of_le_mul ?_
    calc order * rated / 1000 * limit / demand * 1000 ≤ order * rated / 1000 * 1000 := Nat.mul_le_mul_right _ cut
      _ ≤ order * rated := Nat.div_mul_le_self _ _
      _ = rated * order := Nat.mul_comm _ _

/-- R124: an allowed order lies within the live target. -/
theorem natAbs_allowedOrder_le (e : Engine) (l : Limits) (ahead astern : Nat) :
    (allowedOrder e l ahead astern).natAbs ≤ e.live.natAbs := by
  unfold allowedOrder
  split_ifs with _ h1 h2
  · have live : 0 ≤ e.live := by
      by_contra neg
      have := share_nonpos (e := e) (by omega)
      omega
    rewrite [share_toNat live, Int.natAbs_natCast]
    exact scaledOrder_le h1.2
  · have live : e.live ≤ 0 := by
      by_contra pos
      have := share_nonneg (e := e) (by omega)
      omega
    rewrite [neg_share_toNat live, Int.natAbs_neg, Int.natAbs_natCast]
    exact scaledOrder_le h2.2
  · exact le_refl _
  · exact Nat.zero_le _

/-- R146: the bow unit's allowed order lies within its live target. -/
theorem natAbs_allowedBow_le (e : Engine) (l : Limits) : (allowedBow e l).natAbs ≤ e.live.natAbs := by
  have least := Nat.min_le_left e.live.natAbs (l.bow * 1000 / e.rated)
  unfold allowedBow
  dsimp only
  split_ifs
  · rwa [Int.natAbs_neg, Int.natAbs_natCast]
  · rwa [Int.natAbs_natCast]
  · exact Nat.zero_le _

theorem orderInRange_of_le {a b : Int} (h : a.natAbs ≤ b.natAbs) (hb : orderInRange b = true) : orderInRange a = true := by
  have bounds (c : Int) : orderInRange c = true ↔ c.natAbs ≤ 1000 := by
    rewrite [orderInRange_iff]
    omega
  exact (bounds a).mpr (h.trans ((bounds b).mp hb))

theorem Engine.allow_orders (e : Engine) (l : Limits) (ahead astern : Nat) (h : ∀ o ∈ e.orders, orderInRange o = true) :
    ∀ o ∈ (e.allow l ahead astern).orders, orderInRange o = true := by
  simp only [Engine.orders, List.forall_mem_cons] at h ⊢
  obtain ⟨staged, next, live, -, sent, -⟩ := h
  refine ⟨staged, next, live, orderInRange_of_le ?_ live, sent, nofun⟩
  dsimp only [Engine.allow, Engine.renew]
  split
  · exact natAbs_allowedBow_le e l
  · exact natAbs_allowedOrder_le e l ahead astern

/-- A change of engines' figures that keeps numbers and shape, and orders in range. -/
theorem State.Keeps.updateEngines (s : State) (p : Engine → Bool) (f : Engine → Engine)
    (number : ∀ e, (f e).number = e.number) (shaped : ∀ e, (f e).shaped = e.shaped)
    (orders : ∀ e, (∀ o ∈ e.orders, orderInRange o = true) → ∀ o ∈ (f e).orders, orderInRange o = true) :
    s.Keeps { s with engines := update p f s.engines } := by
  refine .engines _ (fun numbers => by rwa [map_update _ f _ _ number])
    (forall_mem_update fun e _ _ he => (shaped e).trans he) ?_
  rewrite [State.orderLaw_iff, State.orderLaw_iff]
  exact forall_mem_update (p := fun e : Engine => ∀ o ∈ e.orders, orderInRange o = true) fun e _ _ => orders e

namespace Txn

theorem distribute_keeps (x : Txn) (l : Limits) : x.st.Keeps (x.distribute l).st :=
  ((State.Routine.refl x.st).readRunning [10]).calm.keeps.trans
    (.updateEngines _ _ _ (fun _ => rfl) (fun _ => rfl) fun e => e.allow_orders l _ _)

theorem distribute_port (x : Txn) (l : Limits) : x.st.SamePort (x.distribute l).st :=
  ((State.Routine.refl x.st).readRunning [10]).port.trans ⟨rfl, rfl, rfl, rfl, rfl⟩

end Txn

/-! ## The slew (R126) -/

/-- R126: an order that is 0, or lies between 0 and another. -/
def OrderWithin (sent allowed : Int) : Prop := sent = 0 ∨ (0 < sent ∧ sent ≤ allowed) ∨ (sent < 0 ∧ allowed ≤ sent)

theorem moveToward_of_le {s a : Int} (n : Nat) (h : s ≤ a) :
    s ≤ moveToward s a n ∧ moveToward s a n ≤ a ∧ moveToward s a n ≤ s + n := by
  rewrite [moveToward, if_pos h]
  exact ⟨le_min (Int.le_add_of_nonneg_right n.cast_nonneg) h, min_le_right _ _, min_le_left _ _⟩

theorem moveToward_of_ge {s a : Int} (n : Nat) (h : a ≤ s) :
    a ≤ moveToward s a n ∧ moveToward s a n ≤ s ∧ s - n ≤ moveToward s a n := by
  obtain rfl | h := h.eq_or_lt
  · rewrite [moveToward, if_pos le_rfl, min_eq_right (Int.le_add_of_nonneg_right n.cast_nonneg)]
    exact ⟨le_rfl, le_rfl, Int.sub_le_self _ n.cast_nonneg⟩
  · rewrite [moveToward, if_neg h.not_ge]
    exact ⟨le_max_right _ _, max_le (Int.sub_le_self _ n.cast_nonneg) h.le, le_max_left _ _⟩

/-- R126: a sent order becomes 0, or the allowed order, or it moves away from 0 by at most the step. -/
theorem slewOrder_cases (sent a : Int) (n : Nat) (released : Bool) :
    slewOrder sent a n released = 0 ∨ (slewOrder sent a n released = a ∧ a.natAbs ≤ sent.natAbs) ∨
      (0 ≤ sent ∧ 0 ≤ slewOrder sent a n released ∧ slewOrder sent a n released ≤ a ∧
        slewOrder sent a n released ≤ sent + n) ∨
      (sent ≤ 0 ∧ slewOrder sent a n released ≤ 0 ∧ a ≤ slewOrder sent a n released ∧
        sent - n ≤ slewOrder sent a n released) := by
  have up (h0 : 0 ≤ sent) (h : sent ≤ a) := moveToward_of_le n h
  have down (h0 : sent ≤ 0) (h : a ≤ sent) := moveToward_of_ge n h
  unfold slewOrder
  split_ifs with rest still free same near
  · exact .inl rfl
  · subst rest
    obtain h | h := le_total 0 a
    · obtain ⟨h1, h2, h3⟩ := up le_rfl h
      exact .inr (.inr (.inl ⟨le_rfl, h1, h2, h3⟩))
    · obtain ⟨h1, h2, h3⟩ := down le_rfl h
      exact .inr (.inr (.inr ⟨le_rfl, h2, h1, h3⟩))
  · exact .inl rfl
  · exact .inr (.inl ⟨rfl, near⟩)
  · simp only [sameSign, Bool.or_eq_true, Bool.and_eq_true, decide_eq_true_eq] at same
    obtain ⟨hs, ha⟩ | ⟨hs, ha⟩ := same
    · obtain ⟨h1, h2, h3⟩ := up hs.le (by omega)
      exact .inr (.inr (.inl ⟨hs.le, hs.le.trans h1, h2, h3⟩))
    · obtain ⟨h1, h2, h3⟩ := down hs.le (by omega)
      exact .inr (.inr (.inr ⟨hs.le, h2.trans hs.le, h1, h3⟩))
  · exact .inl rfl

/-- R126: the slew never passes the allowed order, and never takes the other side of 0. -/
theorem slewOrder_within (sent allowed : Int) (step : Nat) (released : Bool) :
    OrderWithin (slewOrder sent allowed step released) allowed := by
  obtain h | ⟨h, -⟩ | ⟨-, h0, h, -⟩ | ⟨-, h0, h, -⟩ := slewOrder_cases sent allowed step released
  · exact .inl h
  · rewrite [h]
    obtain h | h | h := lt_trichotomy allowed 0
    · exact .inr (.inr ⟨h, le_rfl⟩)
    · exact .inl h
    · exact .inr (.inl ⟨h, le_rfl⟩)
  · exact h0.eq_or_lt.imp Eq.symm fun h0 => .inl ⟨h0, h⟩
  · exact h0.eq_or_lt.imp id fun h0 => .inr ⟨h0, h⟩

namespace OrderWithin

theorem natAbs_le {sent allowed : Int} (h : OrderWithin sent allowed) : sent.natAbs ≤ allowed.natAbs := by
  obtain rfl | ⟨h0, h⟩ | ⟨h0, h⟩ := h
  · exact Nat.zero_le _
  · omega
  · omega

theorem side {sent allowed : Int} (h : OrderWithin sent allowed) :
    (0 < sent → 0 < allowed) ∧ (sent < 0 → allowed < 0) := by
  obtain rfl | ⟨h0, h⟩ | ⟨h0, h⟩ := h
  · exact ⟨fun h => absurd h (lt_irrefl _), fun h => absurd h (lt_irrefl _)⟩
  · exact ⟨fun _ => h0.trans_le h, fun h => absurd h h0.not_gt⟩
  · exact ⟨fun h => absurd h h0.not_gt, fun _ => h.trans_lt h0⟩

theorem thrustIn_le {sent allowed : Int} (h : OrderWithin sent allowed) (rated : Nat) (ahead : Bool) :
    thrustIn sent rated ahead ≤ thrustIn allowed rated ahead := by
  have mono : sent.natAbs * rated / 1000 ≤ allowed.natAbs * rated / 1000 :=
    Nat.div_le_div_right (Nat.mul_le_mul_right _ h.natAbs_le)
  have side : (if ahead then decide (0 < sent) else decide (sent < 0)) = true →
      (if ahead then decide (0 < allowed) else decide (allowed < 0)) = true := by
    cases ahead
    · exact fun below => decide_eq_true (h.side.2 (of_decide_eq_true below))
    · exact fun above => decide_eq_true (h.side.1 (of_decide_eq_true above))
  unfold thrustIn
  by_cases same : (if ahead then decide (0 < sent) else decide (sent < 0)) = true
  · rewrite [if_pos same, if_pos (side same)]
    exact mono
  · rewrite [if_neg same]
    exact Nat.zero_le _

end OrderWithin

namespace Engine

theorem slew_within (e : Engine) (step period dwell : Nat) :
    OrderWithin (e.slew step period dwell).sent (e.slew step period dwell).allowed := by
  unfold Engine.slew
  split
  · exact slewOrder_within ..
  · exact .inl rfl

theorem slew_fields (e : Engine) (step period dwell : Nat) : ∃ sent direction rest,
    e.slew step period dwell = { e with sent := sent, lastDirection := direction, zeroTime := rest } := by
  unfold Engine.slew
  split
  · exact ⟨_, _, _, rfl⟩
  · exact ⟨_, _, _, rfl⟩

end Engine

/-- R12: an engine that a read does not deliver is damaged then. -/
theorem Txn.read_engine_damaged {x y : Txn} {k : Nat} {ws : List Nat} (unique : (x.st.engines.map (·.number)).Nodup)
    (e : x.read .engines k ws = (y, false)) : ∀ g ∈ y.st.engines, g.number = k → g.header.damaged = true := by
  have record : x.readRecord .engines k ws = (y, false) := by
    unfold Txn.read at e
    split at e
    · cases e
    · simpa [*] using e
  unfold Txn.readRecord at record
  split at record <;> rename_i found
  · cases record
    rewrite [State.header?, Option.map_eq_none_iff, State.engine?, List.find?_eq_none] at found
    exact fun g hg hk => absurd (beq_iff_eq.mpr hk) (found g hg)
  · obtain ⟨d, hd, rfl⟩ := Option.map_eq_some_iff.mp found
    obtain ⟨hkey, mem⟩ := find?_key hd
    split at record
    · rename_i damaged
      cases record
      intro g hg hk
      rwa [List.inj_on_of_nodup_map unique hg mem (hk.trans hkey.symm)]
    · split at record
      · cases record
      · cases record
        intro g hg
        obtain ⟨a, ha, rfl⟩ := (mem_update _ _ _ _).mp hg
        obtain ⟨b, -, rfl⟩ := (mem_update _ _ _ _).mp ha
        by_cases hb : b.number = k <;> simp [hb, Engine.renew, Header.renew]

namespace Engine

/-- What the slew has left an engine at: its order stands or is within the one allowed at the beginning, and what is
damaged is sent nothing. `done` lists the engines slewed so far. -/
structure Slewed (done : List Nat) (e f : Engine) : Prop where
  number : f.number = e.number
  rated : f.rated = e.rated
  allowed : f.allowed = e.allowed ∨ f.allowed = 0
  stays : e.header.damaged = true → f.header.damaged = true
  silent : f.header.damaged = true → f.sent = 0
  within : e.number ∈ done → f.sent = 0 ∨ (e.header.damaged = false ∧ OrderWithin f.sent e.allowed)

namespace Slewed

theorem routine {done : List Nat} {e f g : Engine} (h : e.Slewed done f) (k : f.Routine g) :
    e.Slewed done g where
  number := k.number.trans h.number
  rated := k.rated.trans h.rated
  allowed := by have := h.allowed; have := k.allowed; grind
  stays := k.stays ∘ h.stays
  silent hd := by
    obtain was | none := k.damage hd
    · exact k.sent.elim (fun same => same.trans (h.silent was)) id
    · exact none
  within he := by
    obtain same | none := k.sent
    · rewrite [same]
      exact h.within he
    · exact .inl none

/-- R126: the slew of an undamaged engine. -/
theorem slew {done : List Nat} {e f : Engine} (h : e.Slewed done f) (undamaged : f.header.damaged = false)
    (step period dwell : Nat) (words : List Nat) :
    e.Slewed (e.number :: done) ((f.slew step period dwell).renew words) := by
  have within := f.slew_within step period dwell
  have sound : e.header.damaged = false := by
    rewrite [← Bool.not_eq_true]
    intro hd
    rewrite [h.stays hd] at undamaged
    cases undamaged
  obtain ⟨sent, direction, rest, same⟩ := f.slew_fields step period dwell
  rewrite [same] at within ⊢
  refine ⟨h.number, h.rated, h.allowed, fun hd => h.stays hd, ?_, fun _ => ?_⟩
  · exact fun hd => absurd (undamaged.symm.trans hd) (by decide)
  · obtain stands | zero := h.allowed
    · dsimp only at within
      rewrite [stands] at within
      exact .inr ⟨sound, within⟩
    · dsimp only at within
      rewrite [zero] at within
      have still : sent = 0 := by
        unfold OrderWithin at within
        omega
      exact .inl still

end Slewed

end Engine

namespace Txn

theorem slewEngine_slewed {x : Txn} {before : List Engine} {done : List Nat} {k step period : Nat}
    (unique : (before.map (·.number)).Nodup) (h : List.Forall₂ (Engine.Slewed done) before x.st.engines) :
    List.Forall₂ (Engine.Slewed (k :: done)) before (x.slewEngine k step period).st.engines := by
  have numbers : x.st.engines.map (·.number) = before.map (·.number) := map_eq_of_forall₂ h fun _ _ r => r.number
  have unique_x : (x.st.engines.map (·.number)).Nodup := numbers ▸ unique
  have of_damaged {engines : List Engine} (h : List.Forall₂ (Engine.Slewed done) before engines)
      (damaged : ∀ g ∈ engines, g.number = k → g.header.damaged = true) :
      List.Forall₂ (Engine.Slewed (k :: done)) before engines :=
    forall₂_imp_mem h fun e _ f hf r => { r with
      within := fun he => (List.mem_cons.mp he).elim
        (fun hk => .inl (r.silent (damaged f hf (r.number.trans hk)))) r.within }
  unfold Txn.slewEngine
  dsimp only
  split <;> rename_i found
  · refine of_damaged h fun g hg hk => ?_
    rewrite [State.engine?, List.find?_eq_none] at found
    exact absurd (beq_iff_eq.mpr hk) (found g hg)
  · split <;> rename_i hr
    · have reads := ((State.Routine.refl x.st).of_read hr).calm.engines
      exact of_damaged (forall₂_comp (S := Engine.Routine) (fun _ _ _ r s => r.routine s) h reads)
        (Txn.read_engine_damaged unique_x hr)
    · obtain ⟨sound, n, rfl⟩ := Txn.read_true _ _ _ _ _ hr
      obtain ⟨hkey, mem⟩ := find?_key found
      rewrite [Txn.modEngine_engines, update, List.forall₂_map_right_iff]
      refine forall₂_imp_mem h fun e _ f hf r => ?_
      by_cases hk : f.number = k
      · rewrite [if_pos (by simpa using hk)]
        have undamaged : f.header.damaged = false := by
          rewrite [List.inj_on_of_nodup_map unique_x hf mem (hk.trans hkey.symm)]
          simpa [State.sound, State.header?, found] using sound
        rewrite [← hk, r.number]
        exact r.slew undamaged ..
      · rewrite [if_neg (by simpa using hk)]
        exact { r with
          within := fun he => r.within ((List.mem_cons.mp he).resolve_left fun h => hk (r.number.trans h)) }

theorem slewAll_slewed {x : Txn} (unique : (x.st.engines.map (·.number)).Nodup) (mass period : Nat)
    (silent : x.st.Silent) :
    List.Forall₂ (fun e f : Engine => e.Slewed [e.number] f) x.st.engines (x.slewAll mass period).st.engines := by
  have start : List.Forall₂ (Engine.Slewed []) x.st.engines x.st.engines :=
    List.forall₂_same.mpr fun e he => ⟨rfl, rfl, .inl rfl, id, silent e he, nofun⟩
  have go (keys : List Nat) : ∀ (done : List Nat) (y : Txn), List.Forall₂ (Engine.Slewed done) x.st.engines y.st.engines →
      List.Forall₂ (Engine.Slewed (keys ++ done)) x.st.engines
        (y.forKeys keys fun k y => y.slewEngine k (slewStep x.st.policy.slewConstant mass) period).st.engines := by
    induction keys with
    | nil => exact fun _ _ h => h
    | cons k keys ih =>
      intro done y h
      have := ih (k :: done) _ (Txn.slewEngine_slewed (k := k) (step := slewStep x.st.policy.slewConstant mass) (period := period) unique h)
      refine this.imp fun e f r => { r with within := fun he => r.within (by simp at he ⊢; tauto) }
  have all := go (x.st.engines.map (·.number)) [] x start
  rewrite [List.append_nil] at all
  exact forall₂_imp_mem all fun e he f _ r => { r with within := fun _ => r.within (List.mem_map_of_mem he) }

end Txn

theorem Engine.slew_orders (e : Engine) (step period dwell : Nat) (h : ∀ o ∈ e.orders, orderInRange o = true) :
    ∀ o ∈ (e.slew step period dwell).orders, orderInRange o = true := by
  have within := e.slew_within step period dwell
  obtain ⟨sent, direction, rest, same⟩ := e.slew_fields step period dwell
  rewrite [same] at within ⊢
  simp only [Engine.orders, List.forall_mem_cons] at h ⊢
  obtain ⟨staged, next, live, allowed, -, -⟩ := h
  exact ⟨staged, next, live, allowed, orderInRange_of_le within.natAbs_le allowed, nofun⟩

namespace Txn

theorem slewEngine_keeps (x : Txn) (k step period : Nat) : x.st.Keeps (x.slewEngine k step period).st ∧
    x.st.SamePort (x.slewEngine k step period).st := by
  unfold Txn.slewEngine
  dsimp only
  split
  · exact ⟨.refl _, .refl _⟩
  · split <;> rename_i hr <;> have reads := (State.Routine.refl x.st).of_read hr
    · exact ⟨reads.calm.keeps, reads.port⟩
    · refine ⟨reads.calm.keeps.trans (.updateEngines _ _ _ (fun e => ?_) (fun e => ?_) fun e => ?_),
        reads.port.trans ⟨rfl, rfl, rfl, rfl, rfl⟩⟩
      · obtain ⟨sent, direction, rest, same⟩ := e.slew_fields step period x.st.policy.reversalDwell
        dsimp only
        rewrite [same]
        rfl
      · obtain ⟨sent, direction, rest, same⟩ := e.slew_fields step period x.st.policy.reversalDwell
        dsimp only
        rewrite [same]
        rfl
      · exact e.slew_orders step period x.st.policy.reversalDwell

theorem slewAll_keeps (x : Txn) (mass period : Nat) : x.st.Keeps (x.slewAll mass period).st ∧
    x.st.SamePort (x.slewAll mass period).st := by
  refine Txn.forKeys_keeps (fun y => x.st.Keeps y.st ∧ x.st.SamePort y.st) _ _ x ⟨.refl _, .refl _⟩ fun k _ y hy => ?_
  have := y.slewEngine_keeps k (slewStep x.st.policy.slewConstant mass) period
  exact ⟨hy.1.trans this.1, hy.2.trans this.2⟩

end Txn

/-! ## The computation (R119) -/

/-- R126, R131: what is sent after the slew stays within what was allowed before it. -/
theorem Engine.Slewed.sentThrust_le {done : List Nat} {e f : Engine} (h : e.Slewed done f) (all : e.number ∈ done)
    (ahead : Bool) : f.sentThrust ahead ≤ e.allowedThrust ahead := by
  rewrite [Engine.sentThrust_eq, Engine.allowedThrust, h.number, h.rated]
  obtain zero | ⟨sound, within⟩ := h.within all
  · rewrite [zero, thrustIn_zero, ite_self]
    exact Nat.zero_le _
  · rewrite [sound, Bool.not_false, Bool.and_true]
    split
    · exact within.thrustIn_le _ _
    · exact le_refl _

namespace Txn

theorem slewAll_thrust {x : Txn} (unique : (x.st.engines.map (·.number)).Nodup) (mass period : Nat)
    (silent : x.st.Silent) (ahead : Bool) : ((x.slewAll mass period).st.engines.map (·.sentThrust ahead)).sum ≤
      (x.st.engines.map (·.allowedThrust ahead)).sum :=
  sum_le_of_forall₂ (Txn.slewAll_slewed unique mass period silent) fun _ _ r =>
    r.sentThrust_le (List.mem_singleton_self _) ahead

theorem slewAll_silent {x : Txn} (unique : (x.st.engines.map (·.number)).Nodup) (mass period : Nat)
    (silent : x.st.Silent) : (x.slewAll mass period).st.Silent :=
  forall_mem_of_forall₂ (p := fun e : Engine => e.header.damaged = true → e.sent = 0)
    (Txn.slewAll_slewed unique mass period silent) (fun _ _ r _ => r.silent) silent

end Txn

theorem Engine.Routine.allowedThrust_le {e f : Engine} (h : e.Routine f) (ahead : Bool) :
    f.allowedThrust ahead ≤ e.allowedThrust ahead := by
  unfold Engine.allowedThrust
  rewrite [h.number, h.rated]
  cases hd : f.header.damaged
  · have sound : e.header.damaged = false := by
      rewrite [← Bool.not_eq_true]
      exact fun damaged => absurd (h.stays damaged) (by simp [hd])
    rewrite [sound]
    obtain same | zero := h.allowed
    · rw [same]
    · rewrite [zero, thrustIn_zero, ite_self]
      exact Nat.zero_le _
  · simp

theorem State.Calm.silent {s t : State} (h : s.Calm t) (silent : s.Silent) : t.Silent := by
  refine forall_mem_of_forall₂ (p := fun e : Engine => e.header.damaged = true → e.sent = 0) h.engines
    (fun e f r he hd => ?_) silent
  obtain was | none := r.damage hd
  · exact r.sent.elim (fun same => same.trans (he was)) id
  · exact none

theorem Txn.distribute_silent (x : Txn) (l : Limits) (silent : x.st.Silent) : (x.distribute l).st.Silent := by
  have reads := ((State.Routine.refl x.st).readRunning [10]).calm.silent silent
  rewrite [Txn.distribute_st]
  exact forall_mem_update (p := fun e : Engine => e.header.damaged = true → e.sent = 0) (fun e _ _ he => he) reads

namespace State.Calm

theorem allowedThrust_le {s t : State} (h : s.Calm t) (ahead : Bool) :
    (t.engines.map (·.allowedThrust ahead)).sum ≤ (s.engines.map (·.allowedThrust ahead)).sum :=
  sum_le_of_forall₂ h.engines fun _ _ r => r.allowedThrust_le ahead

theorem sentThrust_le {s t : State} (h : s.Calm t) (ahead : Bool) :
    (t.engines.map (·.sentThrust ahead)).sum ≤ (s.engines.map (·.sentThrust ahead)).sum :=
  sum_le_of_forall₂ h.engines fun _ _ r => r.sentThrust_le ahead

end State.Calm

namespace Txn

theorem writeResults_st (x : Txn) (sums : Sums) (l : Limits) (mass : Nat) :
    (x.writeResults sums l mass).st.engines = x.st.engines ∧
      (x.writeResults sums l mass).st.status.limitAhead = l.ahead ∧
      (x.writeResults sums l mass).st.status.limitAstern = l.astern := by
  unfold Txn.writeResults
  dsimp only
  cases x.st.limited && !x.st.status.limiting <;> exact ⟨rfl, rfl, rfl⟩

theorem writeResults_keeps (x : Txn) (sums : Sums) (l : Limits) (mass : Nat) :
    x.st.Keeps (x.writeResults sums l mass).st ∧ x.st.SamePort (x.writeResults sums l mass).st := by
  let written : State := { x.st with status := x.st.status.computed sums l mass x.st.limited }
  have status : x.st.Keeps written := ⟨fun h => ⟨h, id⟩, id, id, id, id, id⟩
  unfold Txn.writeResults
  dsimp only
  cases x.st.limited && !x.st.status.limiting
  · exact ⟨status.trans ⟨fun h => ⟨h, id⟩, id, id, id, id, id⟩, ⟨rfl, rfl, rfl, rfl, rfl⟩⟩
  · exact ⟨status.trans ⟨fun h => ⟨h, id⟩, id, id, id, id, id⟩, ⟨rfl, rfl, rfl, rfl, rfl⟩⟩

theorem computeCycle_works (x : Txn) : x.st.Works x.computeCycle.st := by
  unfold Txn.computeCycle
  extract_lets period a b sums c l d m e f
  have prepared : x.st.Routine c.st := (State.Routine.refl x.st).handover.readCouplings.readEngines
  have massed : d.st.Routine m.1.st := (State.Routine.refl d.st).towMass
  have steered : e.st.Routine f.st := (State.Routine.refl e.st).steerAll l period
  have allowed := c.distribute_keeps l
  have slewed := m.1.slewAll_keeps m.2 period
  have written := f.writeResults_keeps sums l m.2
  refine ⟨?_, ?_, fun record thrust => ?_⟩
  · exact prepared.port.trans ((c.distribute_port l).trans (massed.port.trans (slewed.2.trans
      (steered.port.trans written.2))))
  · exact prepared.calm.keeps.trans (allowed.trans (massed.calm.keeps.trans (slewed.1.trans
      (steered.calm.keeps.trans written.1))))
  · obtain ⟨engines, ahead, astern⟩ := f.writeResults_st sums l m.2
    have unique : (m.1.st.engines.map (·.number)).Nodup := by
      have := massed.calm.keeps.record (allowed.record (prepared.calm.keeps.record record))
      exact ((State.recordLaw_iff _).mp this).2.2.1
    have silent : m.1.st.Silent :=
      massed.calm.silent (c.distribute_silent l ((State.thrustLaw_iff _).mp (prepared.calm.thrust thrust)).1)
    have slew (dir : Bool) : (e.st.engines.map (·.sentThrust dir)).sum ≤ (m.1.st.engines.map (·.allowedThrust dir)).sum := by
      have he : e = m.1.slewAll m.2 period := rfl
      rewrite [he]
      exact Txn.slewAll_thrust (x := m.1) unique m.2 period silent dir
    have within (dir : Bool) : (f.st.engines.map (·.sentThrust dir)).sum ≤ l.of dir :=
      calc (f.st.engines.map (·.sentThrust dir)).sum
        _ ≤ (e.st.engines.map (·.sentThrust dir)).sum :=
          steered.calm.sentThrust_le dir
        _ ≤ (m.1.st.engines.map (·.allowedThrust dir)).sum :=
          slew dir
        _ ≤ (d.st.engines.map (·.allowedThrust dir)).sum :=
          massed.calm.allowedThrust_le dir
        _ ≤ l.of dir := c.distribute_allowedThrust l dir
    have still : e.st.Silent := Txn.slewAll_silent (x := m.1) unique m.2 period silent
    rewrite [State.thrustLaw_iff, engines, ahead, astern]
    exact ⟨steered.calm.silent still, within true, within false⟩

end Txn

/-! Every command keeps the laws: those that run no transaction, the granted transactions and the request transactions. -/

/-! ## Commands that run no transaction -/

namespace State

theorem portLaw_iff (s : State) : s.portLaw = true ↔
    s.console.requests.length ≤ 4 ∧ s.console.responses.length ≤ 4 ∧
      (s.arbiter.console = true → s.console.askedSilence = false →
        s.console.requests ≠ [] ∧ s.console.responses.length < 4) := by
  have waits : (!(s.arbiter.console && !s.console.askedSilence) ||
      (s.console.requests != [] && decide (s.console.responses.length < Config.queuePlaces))) = true ↔
      (s.arbiter.console = true → s.console.askedSilence = false →
        s.console.requests ≠ [] ∧ s.console.responses.length < 4) := by
    have room : decide (s.console.responses.length < Config.queuePlaces) = true ↔ s.console.responses.length < 4 :=
      decide_eq_true_iff
    simp only [Bool.or_eq_true, Bool.and_eq_true, Bool.not_eq_true', Bool.and_eq_false_iff, Bool.not_eq_false', bne_iff_ne,
      room]
    cases s.arbiter.console <;> cases s.console.askedSilence <;> simp
  rewrite [State.portLaw, Bool.and_eq_true, Bool.and_eq_true, waits, decide_eq_true_eq, decide_eq_true_eq, and_assoc]
  rfl

/-- The work of a command outside the store: the queue of commands stands, the records change as their laws tolerate,
and the port law is kept. -/
structure Aside (s t : State) : Prop where
  pending : t.pending = s.pending
  calm : s.Calm t
  port : s.portLaw = true → t.portLaw = true

namespace Aside

theorem refl (s : State) : s.Aside s := ⟨rfl, .refl s, id⟩
theorem trans {s t u : State} (h : s.Aside t) (k : t.Aside u) : s.Aside u :=
  ⟨k.pending.trans h.pending, h.calm.trans k.calm, k.port ∘ h.port⟩

end Aside

end State

section
variable {s t : State}

namespace State.Aside

/-- A change of the state outside the store and the queues of the port. -/
theorem same (h : s.Aside t) (u : State) (pending : u.pending = t.pending := by exact rfl)
    (calm : t.Calm u := by exact .of_same rfl rfl rfl rfl rfl rfl rfl rfl rfl rfl rfl)
    (console : u.arbiter.console = t.arbiter.console := by exact rfl)
    (asked : u.console.askedSilence = t.console.askedSilence := by exact rfl)
    (requests : u.console.requests = t.console.requests := by exact rfl)
    (responses : u.console.responses = t.console.responses := by exact rfl) : s.Aside u := by
  refine h.trans ⟨pending, calm, ?_⟩
  rewrite [State.portLaw_iff, State.portLaw_iff, console, asked, requests, responses]
  exact id

theorem ask (h : s.Aside t) (r : Requester) (other : r ≠ .console) : s.Aside (t.ask r) := by
  cases r with
  | console => exact absurd rfl other
  | towLine | machinery | coordination | fuel | patrol => exact h.same _

theorem modTow (h : s.Aside t) (f : TowLine → TowLine) : s.Aside (t.modTow f) := h.same _
theorem towPhase (h : s.Aside t) (p : TowPhase) : s.Aside (t.towPhase p) := h.same _
theorem towIdle (h : s.Aside t) : s.Aside t.towIdle := h.same _
theorem towSend (h : s.Aside t) (p : TowPhase) (f : LineFrame) : s.Aside (t.towSend p f) := h.same _
theorem modNode (h : s.Aside t) (a : Nat) (f : Node → Node) : s.Aside (t.modNode a f) := h.same _
theorem modLink (h : s.Aside t) (f : MachineryLink → MachineryLink) : s.Aside (t.modLink f) := h.same _

/-! ### What the blocks ask for of their own accord -/

theorem askConsole (h : s.Aside t) : s.Aside t.askConsole := by
  unfold State.askConsole
  split
  · exact h
  · split
    · refine h.trans ⟨rfl, .of_same rfl rfl rfl rfl rfl rfl rfl rfl rfl rfl rfl, ?_⟩
      rewrite [State.portLaw_iff, State.portLaw_iff]
      exact fun ⟨requests, responses, _⟩ => ⟨requests, responses, nofun⟩
    · split <;> rename_i room
      · refine h.trans ⟨rfl, .of_same rfl rfl rfl rfl rfl rfl rfl rfl rfl rfl rfl, ?_⟩
        rewrite [State.portLaw_iff, State.portLaw_iff]
        exact fun ⟨requests, responses, _⟩ => ⟨requests, responses, fun _ _ => room⟩
      · exact h

theorem endDelivery (h : s.Aside t) (a : Nat) (taken : Bool) (accepted : List Nat) :
    s.Aside (t.endDelivery a taken accepted) := by
  unfold State.endDelivery
  extract_lets third
  split
  · exact State.Aside.ask (t := { t with tow := { t.tow with phase := .delivering a accepted } }) (h.same _) .towLine nofun
  · exact h.same _

theorem endEmptyDelivery (h : s.Aside t) : s.Aside t.endEmptyDelivery := by
  unfold State.endEmptyDelivery
  split <;> first | exact h | split
  · exact h.same _
  · split
    · exact h
    · exact h.same _
  · exact h.same _
  · split
    · exact h
    · exact h.endDelivery ..

theorem askTow (h : s.Aside t) : s.Aside t.askTow := by
  unfold State.askTow
  split
  · exact State.Aside.ask (t := { t with tow := { t.tow with phase := .faulting } }) (h.same _) .towLine nofun
  · exact h

theorem advanceCycle (h : s.Aside t) : s.Aside t.advanceCycle := by
  obtain ⟨c, hc⟩ := State.advanceCycle_spec t
  rewrite [hc]
  exact h.same _

theorem askLink (h : s.Aside t) : s.Aside t.askLink := by
  unfold State.askLink
  split
  · exact h.ask .machinery nofun
  · exact h

theorem askFuel (h : s.Aside t) : s.Aside t.askFuel := by
  unfold State.askFuel
  split
  · exact h.ask .fuel nofun
  · exact h

theorem settle (h : s.Aside t) : s.Aside (settle t) :=
  h.askConsole.endEmptyDelivery.askTow.advanceCycle.askLink.askFuel

/-! ### The Console Port -/

theorem restartSilence (h : s.Aside t) : s.Aside t.restartSilence := by
  unfold State.restartSilence
  split
  · exact h
  · exact h.same _

theorem statusByte (h : s.Aside t) (clocks : Nat) : s.Aside (t.statusByte clocks) := by
  unfold State.statusByte
  split
  · exact h.same _
  · exact h.same _

theorem takeIn (h : s.Aside t) (q : Request) : s.Aside (t.takeIn q) := by
  unfold State.takeIn
  split <;> rename_i room
  · let u : State := { t with console := { t.console with requests := t.console.requests ++ [q] } }
    have joined : s.Aside u := by
      refine h.trans ⟨rfl, .of_same rfl rfl rfl rfl rfl rfl rfl rfl rfl rfl rfl, ?_⟩
      rewrite [State.portLaw_iff, State.portLaw_iff]
      rintro ⟨-, responses, waits⟩
      refine ⟨?_, responses, fun console asked => ⟨?_, (waits console asked).2⟩⟩
      · rewrite [List.length_append]
        exact room
      · exact List.append_ne_nil_of_right_ne_nil _ nofun
    exact joined.restartSilence
  · exact h.same _

theorem fetch (h : s.Aside t) (shifted : Nat) : s.Aside (t.fetch shifted) := by
  unfold State.fetch
  extract_lets out u
  have seen : s.Aside u := h.same _
  have fetched : s.Aside { u with console := u.console.fetched shifted } := by
    refine seen.trans ⟨rfl, .of_same rfl rfl rfl rfl rfl rfl rfl rfl rfl rfl rfl, ?_⟩
    unfold ConsolePort.fetched
    split
    · rewrite [State.portLaw_iff, State.portLaw_iff]
      rintro ⟨requests, responses, waits⟩
      have fewer : (u.console.responses.drop 1).length ≤ u.console.responses.length := by simp
      exact ⟨requests, fewer.trans responses, fun console asked =>
        ⟨(waits console asked).1, fewer.trans_lt (waits console asked).2⟩⟩
    · exact id
  exact fetched.restartSilence.settle

theorem shiftIn (h : s.Aside t) (bytes : List Byte) : s.Aside (t.shiftIn bytes) := by
  have seen (out : List Byte) : s.Aside (t.statusShifted.shiftedOut out) := h.same _
  unfold State.shiftIn
  split
  · exact h.fetch _
  · dsimp only
    split
    · exact seen _
    · exact ((seen _).takeIn _).settle

theorem silenceExpiry (h : s.Aside t) : s.Aside t.silenceExpiry := by
  unfold State.silenceExpiry
  split
  · exact h
  · let u : State := { t with console := { t.console with silence := none, silenceDue := t.console.silenceDue + 1 } }
    exact State.Aside.settle (t := u) (h.same _)

theorem holdExpiry (h : s.Aside t) : s.Aside t.holdExpiry := h.same _

theorem patrolExpiry (h : s.Aside t) : s.Aside t.patrolExpiry :=
  State.Aside.ask (t := { t with patrol := { t.patrol with start := t.clock } }) (h.same _) .patrol nofun

theorem strike (h : s.Aside t) (tbl : Tbl) (key word bit : Nat) : s.Aside (t.strike tbl key word bit) := by
  unfold State.strike
  split
  · have struck := State.Routine.modHeader (State.Routine.refl (Txn.start t).st) tbl key (fun d => d.strike word bit) fun d => by
      unfold Header.strike
      split <;> rfl
    refine h.trans ⟨struck.port.pending, struck.calm, ?_⟩
    rewrite [State.portLaw_iff, State.portLaw_iff]
    have port : t.SamePort (t.modHeader tbl key fun d => d.strike word bit) := struck.port
    rewrite [port.requests, port.responses, port.arbiter, port.asked]
    exact id
  · exact h

/-! ### The Tow-Line Controller -/

theorem statusCall (h : s.Aside t) : s.Aside t.statusCall := by
  unfold State.statusCall
  split
  · split
    · exact h
    · exact (h.towSend ..).modTow _
  · exact h

theorem presenceCall (h : s.Aside t) : s.Aside t.presenceCall := by
  unfold State.presenceCall
  split
  · exact (h.towSend ..).modTow _
  · exact h

theorem statusMiss (h : s.Aside t) (a : Nat) : s.Aside (t.statusMiss a) := by
  unfold State.statusMiss
  split
  · exact h.towIdle
  · split
    · exact (h.modNode ..).towIdle
    · exact (h.towPhase _).ask .towLine nofun

theorem deliveryFailed (h : s.Aside t) (a : Nat) (carried : List (Nat × Nat)) :
    s.Aside (t.deliveryFailed a carried) := by
  unfold State.deliveryFailed
  split
  · exact h.towIdle
  · exact (h.modNode ..).endDelivery ..

theorem towMiss (h : s.Aside t) : s.Aside t.towMiss := by
  unfold State.towMiss
  split
  · split
    · exact h.towIdle
    · exact h.statusMiss _
  · split
    · exact h.towIdle
    · exact h.deliveryFailed ..
  · split
    · exact h.towIdle
    · exact h.deliveryFailed ..
  · exact h.towIdle
  all_goals exact h

theorem statusReply (h : s.Aside t) (r : LineReply) : s.Aside (t.statusReply r) := by
  unfold State.statusReply
  split
  · split
    · exact h.towIdle
    · split
      · exact h.towIdle
      · split
        · split
          · exact h.towMiss
          · exact ((h.modNode ..).towPhase _).ask .towLine nofun
        · exact h.towMiss
  · exact h.towMiss

theorem readyEnquiry (h : s.Aside t) : s.Aside t.readyEnquiry := by
  unfold State.readyEnquiry
  split
  · split
    · exact h
    · split
      · exact h.towSend ..
      · exact h
  · exact h

theorem sendCommand (h : s.Aside t) : s.Aside t.sendCommand := by
  unfold State.sendCommand
  split
  · split
    · exact h
    · split
      · exact h.towSend ..
      · exact h
  · exact h

theorem acceptReply (h : s.Aside t) (r : LineReply) : s.Aside (t.acceptReply r) := by
  unfold State.acceptReply
  split
  · split
    · exact h.towIdle
    · split
      · exact h.towPhase _
      · exact h.towMiss
  · split
    · exact h.towIdle
    · split
      · exact (h.modNode ..).endDelivery ..
      · exact h.towMiss
  · exact h.towMiss

theorem enterNode (h : s.Aside t) (n : Node) : s.Aside (t.enterNode n) := by
  unfold State.enterNode
  split
  · exact h.modTow _
  · exact h.same _

theorem presenceReply (h : s.Aside t) (r : LineReply) : s.Aside (t.presenceReply r) := by
  unfold State.presenceReply
  split
  · split
    · exact h.towIdle
    · split
      · split
        · exact h.towMiss
        · exact (h.enterNode _).towIdle
      · exact h.towMiss
  · exact h.towMiss

theorem announceRate (h : s.Aside t) : s.Aside t.announceRate := by
  unfold State.announceRate
  split
  · exact h.modTow _
  · exact h

/-! ### The Machinery-Link Controller -/

theorem cycleExpiry (h : s.Aside t) : s.Aside t.cycleExpiry := by
  have counted : s.Aside t.countOverrun := by
    unfold State.countOverrun
    split
    · exact h.same _
    · exact h
  have handed : s.Aside t.countOverrun.handExpiry := by
    unfold State.handExpiry
    split
    · exact counted
    · refine State.Aside.ask ?_ .coordination nofun
      exact counted.same _
  exact handed.modLink _

theorem cycleStart (h : s.Aside t) : s.Aside t.cycleStart := by
  unfold State.cycleStart
  split
  · exact h.modLink _
  · exact h

theorem beginSlot (h : s.Aside t) (c : Cycle) (k : Context) (kind : Nat) (payload : List Byte) :
    s.Aside (t.beginSlot c k kind payload) := h.modLink _

theorem sendOutput (h : s.Aside t) : s.Aside t.sendOutput := by
  unfold State.sendOutput
  split
  · exact h
  · split
    · exact h.beginSlot ..
    · exact h

theorem beginAdmission (h : s.Aside t) (k : Context) : s.Aside (t.beginAdmission k) := by
  unfold State.beginAdmission
  split
  · exact h.modLink _
  · exact h

theorem sendParameters (h : s.Aside t) : s.Aside t.sendParameters := by
  unfold State.sendParameters
  split
  · exact h
  · split
    · exact (h.beginSlot ..).beginAdmission _
    · exact h

theorem sendConfiguration (h : s.Aside t) : s.Aside t.sendConfiguration := by
  unfold State.sendConfiguration
  split
  · exact h
  · split
    · exact h.beginSlot ..
    · exact h

theorem endSlot (h : s.Aside t) (outcome : LinkExchange → SlotOutcome) : s.Aside (t.endSlot outcome) := by
  unfold State.endSlot
  split
  · exact h
  · exact h.modLink _

end State.Aside

end

/-! ## What a command does to the laws -/

namespace State

/-- A command's run: the queue of commands stands, and every law is kept. -/
structure Runs (s t : State) : Prop where
  pending : t.pending = s.pending
  keeps : s.Keeps t
  thrust : s.recordLaw = true → s.thrustLaw = true → t.thrustLaw = true
  port : s.portLaw = true → t.portLaw = true

namespace Runs

theorem refl (s : State) : s.Runs s := ⟨rfl, .refl s, fun _ => id, id⟩
theorem trans {s t u : State} (h : s.Runs t) (k : t.Runs u) : s.Runs u :=
  ⟨k.pending.trans h.pending, h.keeps.trans k.keeps, fun r l => k.thrust (h.keeps.record r) (h.thrust r l),
    k.port ∘ h.port⟩

end Runs

theorem Aside.runs {s t : State} (h : s.Aside t) : s.Runs t :=
  ⟨h.pending, h.calm.keeps, fun _ => h.calm.thrust, h.port⟩

theorem SamePort.portLaw {s t : State} (h : s.SamePort t) : t.portLaw = s.portLaw := by
  simp only [State.portLaw, h.arbiter, h.requests, h.responses, h.asked]

theorem Works.runs {s t : State} (h : s.Works t) : s.Runs t :=
  ⟨h.port.pending, h.keeps, h.thrust, fun law => h.port.portLaw.trans law⟩

theorem resetPart_runs (s : State) : s.Runs s.resetPart where
  pending := rfl
  port _ := rfl
  thrust _ _ := by simp [State.thrustLaw, State.resetPart, State.reset]
  keeps :=
    { roster := fun _ => ⟨rfl, fun _ => rfl⟩
      record := fun _ => rfl
      lockage := fun _ => rfl
      order := fun _ => rfl
      tank := fun _ => rfl
      pump := fun _ => rfl }

/-- R10: a grant clears the requester's wait. -/
theorem take_runs (s : State) (r : Requester) : s.Runs (s.take r) := by
  refine State.Aside.runs ⟨rfl, .of_same rfl rfl rfl rfl rfl rfl rfl rfl rfl rfl rfl, ?_⟩
  rewrite [State.portLaw_iff, State.portLaw_iff]
  rintro ⟨requests, responses, waits⟩
  refine ⟨requests, responses, fun console => waits ?_⟩
  cases r with
  | console => cases console
  | towLine | machinery | coordination | fuel | patrol => exact console

theorem settle_runs (s : State) : s.Runs (settle s) := (State.Aside.refl s).settle.runs

theorem transact_runs (s : State) (r : Requester) (body : Txn → Txn) (works : ∀ x : Txn, x.st.Works (body x).st) :
    s.Runs (s.transact r body) := by
  unfold State.transact
  split
  · have work := works (Txn.start (s.take r))
    exact (((s.take_runs r).trans work.runs).trans (Txn.commit_works _ _).runs).trans (State.settle_runs _)
  · exact .refl s

theorem silenceTransaction_runs (s : State) : s.Runs s.silenceTransaction := by
  unfold State.silenceTransaction
  split
  · extract_lets s1 s2
    have work : s1.Works s2 :=
      ((State.Routine.refl (Txn.start s1).st).silenceWork).works.trans (Txn.commit_works _ _)
    have ended : s2.Runs { s2 with console := { s2.console with askedSilence := false } } := by
      refine State.Aside.runs ⟨rfl, .of_same rfl rfl rfl rfl rfl rfl rfl rfl rfl rfl rfl, ?_⟩
      rewrite [State.portLaw_iff, State.portLaw_iff]
      rintro ⟨requests, responses, -⟩
      refine ⟨requests, responses, fun console => ?_⟩
      have clear : s2.arbiter.console = false := congrArg Arbiter.console work.port.arbiter
      exact absurd (clear.symm.trans console) (by decide)
    exact (((s.take_runs .console).trans work.runs).trans ended).trans (State.settle_runs _)
  · exact .refl s

/-- R10: the console is granted only while it waits. -/
theorem granted_console {s : State} (h : s.granted .console = true) : s.arbiter.console = true := by
  rewrite [State.granted, beq_iff_eq] at h
  unfold Arbiter.pick at h
  split at h <;> rename_i found
  · obtain rfl := Option.some.inj h
    exact List.find?_some (p := s.arbiter.waits) found
  · split at h <;> cases h

theorem runRequest_runs (s : State) (isCode : Byte → Bool) (body : Request → Txn → Answer)
    (works : ∀ q (x : Txn), x.st.Works (body q x).1.st) : s.Runs (s.runRequest isCode body) := by
  unfold State.runRequest
  split <;> rename_i granted
  · split <;> rename_i queue
    · exact .refl s
    · rename_i q qs
      split
      · extract_lets s1 a s2
        have work : s1.Works s2 := (works q (Txn.start s1)).trans (Txn.commit_works _ _)
        let t : State := { s2 with console := { s2.console with
          requests := qs
          responses := s2.console.responses ++ [{ tag := q.tag, code := q.code, result := a.2.1, items := a.2.2 }] } }
        have answered : s.Runs t := by
          have run := (s.take_runs .console).trans work.runs
          have calm : s2.Calm t := .of_same rfl rfl rfl rfl rfl rfl rfl rfl rfl rfl rfl
          refine ⟨run.pending, run.keeps.trans calm.keeps, fun r l => calm.thrust (run.thrust r l), ?_⟩
          rewrite [State.portLaw_iff, State.portLaw_iff]
          rintro ⟨requests, -, waits⟩
          rewrite [Bool.and_eq_true, Bool.not_eq_true'] at granted
          have room := (waits (State.granted_console granted.1) granted.2).2
          have responses : s2.console.responses = s.console.responses := work.port.responses
          refine ⟨?_, ?_, fun console => ?_⟩
          · rewrite [queue, List.length_cons] at requests
            dsimp only [t]
            omega
          · dsimp only [t]
            rewrite [List.length_append, responses]
            exact room
          · have clear : s2.arbiter.console = false := congrArg Arbiter.console work.port.arbiter
            exact absurd (clear.symm.trans console) (by decide)
        exact answered.trans (State.settle_runs _)
      · exact .refl s
  · exact .refl s

end State

/-! The laws that every step keeps, and the ends of request transactions. -/

/-! ## Every command -/

/-- R23: the body of the request transaction of each request command. -/
def requestBodyOf (c : Instr) : Option (Request → Txn → Answer) :=
  match c with
  | .look => some requestLook
  | .lookNext => some requestLookNext
  | .enrol => some requestEnrol
  | .amend => some requestAmend
  | .retire => some requestRetire
  | .restore => some requestRestore
  | .stepOrders => some requestStep
  | .breakTow => some requestBreak
  | .remake => some requestRemake
  | .sweep => some requestSweep
  | .transferGo => some requestGo
  | .stopAtGap => some requestStopAtGap
  | .continueTransfer => some requestContinue
  | .confirm => some requestConfirm
  | .abortTransfer => some requestAbort
  | .receive => some requestReceive
  | .sound => some requestSound
  | .notices => some requestNotices
  | .acknowledge => some requestAcknowledge
  | .mask => some requestMask
  | .endOfNotice => some requestEndOfNotice
  | .resetLinks => some requestResetLinks
  | .clearStore => some requestClearStore
  | _ => none

/-- R23: a request command runs the body of its request code. -/
theorem exec_request {c : Instr} {code : Byte} (h : requestCodeOf c = some code) :
    ∃ body, requestBodyOf c = some body ∧ ∀ s, exec c s = .next (s.runRequest (· == code) body) := by
  cases c <;> cases h <;> exact ⟨_, rfl, fun _ => rfl⟩

/-- The body of every request keeps the laws of the store. -/
theorem requestBodyOf_works {c : Instr} {body : Request → Txn → Answer} (h : requestBodyOf c = some body) (q : Request)
    (x : Txn) : x.st.Works (body q x).1.st := by
  have routine : x.st.Routine x.st := .refl _
  cases c <;> cases h
  case look => exact (routine.requestLook q).works
  case lookNext => exact (routine.requestLookNext q).works
  case enrol => exact requestEnrol_works q x
  case amend => exact requestAmend_works q x
  case retire => exact requestRetire_works q x
  case restore => exact requestRestore_works q x
  case stepOrders => exact (routine.requestStep q).works
  case breakTow => exact requestBreak_works q x
  case remake => exact requestRemake_works q x
  case sweep => exact (routine.requestSweep q).works
  case transferGo => exact (routine.requestGo q).works
  case stopAtGap => exact (routine.requestStopAtGap q).works
  case continueTransfer => exact (routine.requestContinue q).works
  case confirm => exact (routine.requestConfirm q).works
  case abortTransfer => exact (routine.requestAbort q).works
  case receive => exact (routine.requestReceive q).works
  case sound => exact (routine.requestSound q).works
  case notices => exact (routine.requestNotices q).works
  case acknowledge => exact (routine.requestAcknowledge q).works
  case mask => exact (routine.requestMask q).works
  case endOfNotice => exact (routine.requestEndOfNotice q).works
  case resetLinks => exact (routine.requestResetLinks q).works
  case clearStore => exact requestClearStore_works q x

namespace State

theorem posting_runs (s : State) : s.Runs s.posting := by
  unfold State.posting
  split
  · exact s.transact_runs _ _ fun x => ((State.Routine.refl x.st).postingWork ..).works
  · exact .refl s

theorem delivery_runs (s : State) : s.Runs s.delivery := by
  unfold State.delivery
  split
  · exact s.transact_runs _ _ fun x => ((State.Routine.refl x.st).deliveryWork ..).works
  · exact .refl s

theorem faulting_runs (s : State) : s.Runs s.faulting := by
  unfold State.faulting
  split
  · exact s.transact_runs _ _ fun x => (State.Routine.refl x.st).faultWork.works
  · exact .refl s

theorem dropping_runs (s : State) : s.Runs s.dropping := by
  unfold State.dropping
  split
  · exact s.transact_runs _ _ fun x => ((State.Routine.refl x.st).dropWork _).works
  · exact .refl s

end State

/-- Every command is taken, in every state, and keeps every law. -/
theorem exec_runs (c : Instr) (s : State) : ∃ t, exec c s = .next t ∧ s.Runs t := by
  have aside : s.Aside s := .refl s
  by_cases request : ∃ code, requestCodeOf c = some code
  · obtain ⟨code, hc⟩ := request
    obtain ⟨body, hb, run⟩ := exec_request hc
    exact ⟨_, run s, s.runRequest_runs _ _ (requestBodyOf_works hb)⟩
  · cases c
    case powerOnReset | resetPin => exact ⟨_, rfl, s.resetPart_runs⟩
    case bitError t k w b => exact ⟨_, rfl, (aside.strike t k w b).runs⟩
    case statusByte n => exact ⟨_, rfl, (aside.statusByte n).runs⟩
    case request bs => exact ⟨_, rfl, (aside.shiftIn bs).runs⟩
    case fetch n => exact ⟨_, rfl, (aside.fetch n).runs⟩
    case silenceTimerExpiry => exact ⟨_, rfl, aside.silenceExpiry.runs⟩
    case consoleSilence => exact ⟨_, rfl, s.silenceTransaction_runs⟩
    case holdExpiry => exact ⟨_, rfl, aside.holdExpiry.runs⟩
    case patrolTimerExpiry => exact ⟨_, rfl, aside.patrolExpiry.runs⟩
    case patrolVisit => exact ⟨_, rfl, s.transact_runs _ _ fun x => (State.Routine.refl x.st).visit.works⟩
    case statusCall => exact ⟨_, rfl, aside.statusCall.runs⟩
    case statusReply r => exact ⟨_, rfl, (aside.statusReply r).settle.runs⟩
    case towReplyTimeout => exact ⟨_, rfl, aside.towMiss.settle.runs⟩
    case postingTransaction => exact ⟨_, rfl, s.posting_runs⟩
    case readyEnquiry => exact ⟨_, rfl, aside.readyEnquiry.settle.runs⟩
    case command => exact ⟨_, rfl, aside.sendCommand.settle.runs⟩
    case accept r => exact ⟨_, rfl, (aside.acceptReply r).settle.runs⟩
    case defer r => exact ⟨_, rfl, aside.towMiss.settle.runs⟩
    case deliveryTransaction => exact ⟨_, rfl, s.delivery_runs⟩
    case winchFaultTransaction => exact ⟨_, rfl, s.faulting_runs⟩
    case presenceCall => exact ⟨_, rfl, aside.presenceCall.runs⟩
    case presenceReply r => exact ⟨_, rfl, (aside.presenceReply r).settle.runs⟩
    case dropTransaction => exact ⟨_, rfl, s.dropping_runs⟩
    case lineRate => exact ⟨_, rfl, aside.announceRate.settle.runs⟩
    case cycleTimerExpiry => exact ⟨_, rfl, aside.cycleExpiry.runs⟩
    case cycleComputation => exact ⟨_, rfl, s.transact_runs _ _ Txn.computeCycle_works⟩
    case cycleStart => exact ⟨_, rfl, aside.cycleStart.settle.runs⟩
    case output => exact ⟨_, rfl, aside.sendOutput.settle.runs⟩
    case parameters => exact ⟨_, rfl, aside.sendParameters.settle.runs⟩
    case configuration => exact ⟨_, rfl, aside.sendConfiguration.settle.runs⟩
    case input | paramOk | paramFault | configurationReply | machineryReplyTimeout =>
      exact ⟨_, rfl, (aside.endSlot _).settle.runs⟩
    case machineryPosting => exact ⟨_, rfl, s.transact_runs _ _ fun x => (State.Routine.refl x.st).postResults.works⟩
    case fuelConversion => exact ⟨_, rfl, s.transact_runs _ _ fun x => (State.Routine.refl x.st).convertAll.works⟩
    case unknownRequestCode => exact ⟨_, rfl, s.runRequest_runs _ _ fun _ x => .refl x.st⟩
    all_goals exact absurd ⟨_, rfl⟩ request

/-! ## Every step -/

/-- What a step does to the laws. -/
theorem step_keeps {s t : State} (h : step s = .next t) : s.Keeps t ∧
    (s.recordLaw = true → s.thrustLaw = true → t.thrustLaw = true) ∧ (s.portLaw = true → t.portLaw = true) := by
  unfold step at h
  split at h
  · cases h
    have calm : s.Calm s.tick := .of_same rfl rfl rfl rfl rfl rfl rfl rfl rfl rfl rfl
    exact ⟨calm.keeps, fun _ => calm.thrust, id⟩
  · rename_i c rest _
    obtain ⟨u, hu, run⟩ := exec_runs c { s with pending := rest }
    cases hu.symm.trans h
    have taken : s.Calm { s with pending := rest } := .of_same rfl rfl rfl rfl rfl rfl rfl rfl rfl rfl rfl
    exact ⟨taken.keeps.trans run.keeps, fun r l => run.thrust (taken.keeps.record r) (taken.thrust l), fun law => run.port law⟩

/-- Settles O53: every command keeps the port law (`State.Runs`), and so does a tick. -/
theorem stepsKeepThePortLaw : Obligations.StepsKeepThePortLaw := fun _ _ law h => (step_keeps h).2.2 law

/-- Settles O54: an insertion, a removal and a move keep the six boundaries, and every other command leaves the roster. -/
theorem stepsKeepTheRosterLaw : Obligations.StepsKeepTheRosterLaw := fun _ _ law h => (step_keeps h).1.roster law

/-- Settles O55: a record is entered under a free key, and engine records with the fields of their number. -/
theorem stepsKeepTheRecordLaw : Obligations.StepsKeepTheRecordLaw := fun _ _ law h => (step_keeps h).1.record law

/-- Settles O56, through the completion test at the end of every transaction that touched a coupling. -/
theorem stepsKeepTheLockageLaw : Obligations.StepsKeepTheLockageLaw := fun _ _ law h => (step_keeps h).1.lockage law

/-- Settles O57: an allowed order lies within its live target, and a sent order within the allowed one. -/
theorem stepsKeepOrdersInRange : Obligations.StepsKeepOrdersInRange := fun _ _ law h => (step_keeps h).1.order law

/-- Settles O58: every change of a content goes with one of a term. -/
theorem stepsKeepTheFuelAccount : Obligations.StepsKeepTheFuelAccount := fun _ _ law h => (step_keeps h).1.tank law

/-- Settles O59: a transfer's state and its pump command change together. -/
theorem stepsKeepPumpsToRunningTransfers : Obligations.StepsKeepPumpsToRunningTransfers := fun _ _ law h =>
  (step_keeps h).1.pump law

/-- Settles O60: the shares after the cut stay within the limits (`Txn.distribute_allowedThrust`), and the slew stays
within what is allowed (`Txn.slewAll_thrust`). -/
theorem stepsKeepThrustWithinTheLimits : Obligations.StepsKeepThrustWithinTheLimits := fun _ _ record law h =>
  (step_keeps h).2.1 record law

/-- Settles O2: what every command does to the queue is a part of `State.Runs`. -/
theorem commandsLeaveTheQueueAlone : Obligations.CommandsLeaveTheQueueAlone := by
  refine ⟨fun c s => ?_, fun s => ⟨rfl, rfl⟩⟩
  obtain ⟨t, ht, run⟩ := exec_runs c s
  exact ⟨t, ht, run.pending⟩

/-! ## The end of a request transaction (R10, R23) -/

theorem State.ask_pointer (s : State) (r : Requester) : (s.ask r).arbiter.pointer = s.arbiter.pointer :=
  s.arbiter.setWaits_pointer r true

/-- R10: what the blocks ask for moves no pointer. -/
theorem settle_pointer (s : State) : (settle s).arbiter.pointer = s.arbiter.pointer := by
  have console (s : State) : s.askConsole.arbiter.pointer = s.arbiter.pointer := by
    unfold State.askConsole
    split
    · rfl
    · split
      · exact State.ask_pointer _ _
      · split
        · exact State.ask_pointer _ _
        · rfl
  have delivery (s : State) (a : Nat) (taken : Bool) (accepted : List Nat) :
      (s.endDelivery a taken accepted).arbiter.pointer = s.arbiter.pointer := by
    unfold State.endDelivery
    extract_lets third
    split
    · exact State.ask_pointer _ _
    · rfl
  have empty (s : State) : s.endEmptyDelivery.arbiter.pointer = s.arbiter.pointer := by
    unfold State.endEmptyDelivery
    repeat' split
    all_goals first | rfl | exact delivery ..
  have tow (s : State) : s.askTow.arbiter.pointer = s.arbiter.pointer := by
    unfold State.askTow
    split
    · exact State.ask_pointer _ _
    · rfl
  have cycle (s : State) : s.advanceCycle.arbiter.pointer = s.arbiter.pointer := by
    obtain ⟨c, hc⟩ := s.advanceCycle_spec
    rw [hc]
  have link (s : State) : s.askLink.arbiter.pointer = s.arbiter.pointer := by
    unfold State.askLink
    split
    · exact State.ask_pointer _ _
    · rfl
  have fuel (s : State) : s.askFuel.arbiter.pointer = s.arbiter.pointer := by
    unfold State.askFuel
    split
    · exact State.ask_pointer _ _
    · rfl
  rw [settle, fuel, link, cycle, tow, empty, console]

/-- Settles O10: the port is left alone by the body and the end of the transaction (`State.SamePort`), and the exchange of
the request for its response follows. -/
theorem requestsLeaveAndResponsesJoin : Obligations.RequestsLeaveAndResponsesJoin := by
  rintro c code s q qs hc ⟨granted, asked, queue⟩ rfl
  obtain ⟨body, hb, run⟩ := exec_request hc
  rcases hy : body q (Txn.start (s.take .console)) with ⟨y, r, items⟩
  have work : (s.take .console).SamePort (y.commit (s.take .console)) := by
    have := (requestBodyOf_works hb q (Txn.start (s.take .console))).port
    rewrite [hy] at this
    exact this.trans (y.commit_works _).port
  rewrite [run s, State.runRequest_granted s (· == q.code) body q qs granted asked queue (beq_self_eq_true _) y r items hy]
  refine ⟨_, r, items, rfl, settle_console_requests _, ?_, ?_⟩
  · rewrite [settle_console_responses]
    exact congrArg (· ++ _) work.responses
  · rewrite [settle_pointer]
    exact congrArg Arbiter.pointer work.arbiter

/-! The machine and the Console Port: steps, the arbiter, a disturbed bit, the status byte, REQUEST and FETCH. -/

/-! ## The machine -/

/-- Settles O1: `step` is `exec` on the queue's rest, and the timers that are due after a tick are those of `State.due`. -/
theorem stepRunsTheFrontCommand : Obligations.StepRunsTheFrontCommand := by
  refine ⟨fun c rest s => rfl, fun s => ?_⟩
  obtain ⟨_, _, _, _, _, _, _, _, _, _, _, _, ⟨_, _, _, hold⟩, _, _, ⟨_, _, silence, _, _, _, _⟩, _, _, _, _⟩ := s
  rcases hold with _ | t
  all_goals rcases silence with _ | u
  all_goals rfl

/-- Settles O52: the reset state is a closed term, and its laws evaluate. -/
theorem lawsHoldAtReset : Obligations.LawsHoldAtReset := by
  refine ⟨rfl, rfl, rfl, rfl, rfl, rfl, rfl, ?_, rfl⟩
  simp [State.thrustLaw, State.reset]

/-! ## The arbiter (R10) -/

theorem Arbiter.pick_waits {a : Arbiter} {g : Requester} (h : a.pick = some g) : a.waits g = true := by
  unfold Arbiter.pick at h
  split at h <;> rename_i found
  · obtain rfl := Option.some.inj h
    exact List.find?_some (p := a.waits) found
  · split at h <;> rename_i patrol
    · obtain rfl := Option.some.inj h
      exact patrol
    · cases h

/-- R10: every requester but the Patrol has its place in the ring from any of them on. -/
theorem mem_ring (p r : Requester) (h : r ≠ .patrol) : r ∈ ring p := by
  cases p <;> cases r <;> first | exact absurd rfl h | decide

theorem not_patrol_of_mem_ring {p r : Requester} (h : r ∈ ring p) : r ≠ .patrol := by
  rintro rfl
  cases p <;> simp [ring] at h

namespace Arbiter

theorem pick_patrol {a : Arbiter} (h : a.pick = some .patrol) {r : Requester} (hr : a.waits r = true) :
    r = .patrol := by
  unfold Arbiter.pick at h
  split at h <;> rename_i found
  · cases h
    exact absurd rfl (not_patrol_of_mem_ring (List.mem_of_find?_eq_some found))
  · by_contra other
    exact List.find?_eq_none.mp found r (mem_ring _ _ other) hr

/-- R10: a grant to one of the five brings the pointer nearer to every one of them that the arbiter passes by. -/
theorem grant_nearer (a : Arbiter) (r g : Requester) (five : r ≠ .patrol) (waits : a.waits r = true)
    (picked : a.pick = some g) (other : g ≠ r) :
    (ring (a.grant g).pointer).idxOf r < (ring a.pointer).idxOf r := by
  have found : (ring a.pointer).find? a.waits = some g := by
    unfold Arbiter.pick at picked
    split at picked <;> rename_i found
    · rwa [← Option.some.inj picked]
    · exact absurd waits (by simpa using List.find?_eq_none.mp found r (mem_ring _ _ five))
  have ahead : (ring a.pointer).idxOf g < (ring a.pointer).idxOf r := by
    obtain ⟨-, before, after, split, passed⟩ := List.find?_eq_some_iff_append.mp found
    have late : r ∉ before := fun h => by simpa [waits] using passed r h
    have early : g ∉ before := fun h => by
      have := passed g h
      simp [Arbiter.pick_waits picked] at this
    rewrite [split, List.idxOf_append_of_notMem late, List.idxOf_append_of_notMem early, List.idxOf_cons_self,
      List.idxOf_cons_ne _ other]
    omega
  have five' : g ≠ .patrol := not_patrol_of_mem_ring (List.mem_of_find?_eq_some found)
  have grant : (a.grant g).pointer = Arbiter.initial.advance g := by
    cases g <;> first | exact absurd rfl five' | rfl
  rewrite [grant]
  generalize a.pointer = p at ahead
  revert ahead
  cases g <;> cases r <;> first | exact absurd rfl five | exact absurd rfl five' | exact absurd rfl other | skip
  all_goals cases p <;> decide

theorem exists_pick {a : Arbiter} {r : Requester} (h : a.waits r = true) : ∃ g, a.pick = some g := by
  unfold Arbiter.pick
  split
  · exact ⟨_, rfl⟩
  · rename_i found
    by_cases patrol : r = .patrol
    · subst patrol
      exact ⟨.patrol, if_pos h⟩
    · exact absurd h (List.find?_eq_none.mp found r (mem_ring _ _ patrol))

theorem waits_grant_of_ne (a : Arbiter) {r g : Requester} (h : g ≠ r) :
    (a.grant g).waits r = a.waits r := by
  cases g <;> cases r <;> first | exact absurd rfl h | rfl

end Arbiter

/-- Settles O3: the cycle of five is searched from the pointer on, and a grant puts the pointer past the one granted. -/
theorem arbiterServesInTurn : Obligations.ArbiterServesInTurn :=
  ⟨fun _ _ h => Arbiter.exists_pick h, fun _ _ h => Arbiter.pick_waits h, fun _ _ h hr => Arbiter.pick_patrol h hr,
    fun a r g five waits picked other =>
      ⟨(a.waits_grant_of_ne other).trans waits, a.grant_nearer r g five waits picked other⟩⟩

/-! ## A disturbed bit (R11) -/

/-- Settles O5: the operands of the command are in range, so it is `State.strike`. -/
theorem bitErrorStrikesOneBit : Obligations.BitErrorStrikesOneBit := by
  intro t key word bit s wf
  have strikes : exec (.bitError t key word bit) s = .next (s.modHeader t key fun h => h.strike word bit) :=
    congrArg _ (if_pos wf)
  rewrite [strikes]
  congr 2
  funext h
  simp [Header.strike]

/-! ## Bytes of figures and responses (R188, R189) -/

theorem beBytes_eq (w n : Nat) : beBytes w n = (List.range w).map fun k => byte (n / 256 ^ (w - 1 - k)) := by
  induction w with
  | zero => rfl
  | succ w ih =>
    rewrite [List.range_succ_eq_map, List.map_cons, List.map_map, beBytes, ih]
    refine congrArg _ (List.map_congr_left fun k _ => ?_)
    simp only [Function.comp_apply]
    congr 3
    omega

/-- Two's complement: a byte of the figure taken modulo `256 ^ w` is that byte of the signed figure. -/
theorem byte_of_twosComplement (w k : Nat) (v : Int) (h : k < w) :
    byte ((v % (256 ^ w : Nat)).toNat / 256 ^ k) = BitVec.ofInt 8 (v / 256 ^ k) := by
  obtain ⟨d, rfl⟩ := Nat.exists_eq_add_of_lt h
  have hm : (0 : Int) < 256 ^ k := by positivity
  have hM : ((256 ^ (k + d + 1) : Nat) : Int) = 256 ^ k * (256 * 256 ^ d) := by push_cast; ring
  have nonneg : 0 ≤ v % (256 ^ k * (256 * 256 ^ d)) := Int.emod_nonneg _ (by positivity)
  have figure : v % (256 ^ k * (256 * 256 ^ d)) / 256 ^ k % 256 = v / 256 ^ k % 256 := by
    have : v % (256 ^ k * (256 * 256 ^ d)) =
        v + 256 ^ k * (256 * (-(256 ^ d * (v / (256 ^ k * (256 * 256 ^ d)))))) := by
      rewrite [Int.emod_def]; ring
    rw [this, Int.add_mul_ediv_left _ _ hm.ne', Int.add_mul_emod_self_left]
  apply BitVec.eq_of_toNat_eq
  apply Int.ofNat.inj
  simp only [byte, BitVec.toNat_ofNat, BitVec.toNat_ofInt, Int.ofNat_eq_natCast, hM]
  push_cast
  rewrite [Int.toNat_of_nonneg nonneg, Int.toNat_of_nonneg (Int.emod_nonneg _ (by norm_num))]
  exact figure

theorem intBytes_eq (w : Nat) (v : Int) :
    intBytes w v = (List.range w).map fun k => BitVec.ofInt 8 (v / 256 ^ (w - 1 - k)) := by
  rewrite [intBytes, beBytes_eq]
  refine List.map_congr_left fun k hk => byte_of_twosComplement w _ v ?_
  have := List.mem_range.mp hk
  omega

theorem shortestWidth_eq (v : Int) :
    shortestWidth v = ([1, 2, 4].find? fun w : Nat =>
      decide (-(2 ^ (8 * w - 1) : Int) ≤ v ∧ v < 2 ^ (8 * w - 1))).getD 8 := by
  unfold shortestWidth
  split
  · next h => simp [h]
  · next h1 => 
    split
    · next h2 => simp [h1, h2]
    · next h2 =>
      split
      · next h4 => simp [h1, h2, h4]
      · next h4 => simp [h1, h2, h4]

theorem ResponseItem.bytes_eq_frame (i : ResponseItem) : i.bytes = i.frame := by
  simp only [ResponseItem.bytes, ResponseItem.frame, intBytes_eq, shortestWidth_eq]

theorem Response.bytes_eq_frame (r : Response) : r.bytes = r.frame := by
  have items : r.items.flatMap ResponseItem.bytes = r.items.flatMap ResponseItem.frame :=
    congrArg r.items.flatMap (funext ResponseItem.bytes_eq_frame)
  simp only [Response.bytes, Response.frame, Response.tail, items]
  cases r.result <;> simp [Result.code]

/-! ## SPI transactions (R20 to R24) -/

/-- Settles O7: the two branches of `State.statusByte`. -/
theorem statusByteShowsFourFigures : Obligations.StatusByteShowsFourFigures :=
  fun s => ⟨rfl, fun n short => congrArg _ (if_neg (by omega))⟩

theorem requestOf_complete (n tag code table : Byte) (body rest : List Byte) (h : n.toNat = body.length + 3) :
    requestOf (0xA5 :: n :: tag :: code :: table :: (body ++ rest)) =
      some { tag := tag, code := code, table := table, body := body } := by
  simp [requestOf, h]

theorem requestOf_incomplete (n : Byte) (short : List Byte) (h : n.toNat < 3 ∨ short.length < n.toNat) :
    requestOf (0xA5 :: n :: short) = none := if_neg fun ⟨_, _, _⟩ => by omega

namespace State

theorem restartSilence_eq (s : State) : s.restartSilence = { s with console := { s.console with
    silence := if s.policy.consoleSilence = 0 then s.console.silence
      else some { start := s.clock, period := s.policy.consoleSilence * 1000000 } } } := by
  rewrite [State.restartSilence]
  split <;> rfl

theorem takeIn_of_room {s : State} (q : Request) (h : s.console.requests.length < 4) :
    s.takeIn q = State.restartSilence { s with console := { s.console with requests := s.console.requests ++ [q] } } :=
  if_pos h

theorem takeIn_of_full {s : State} (q : Request) (h : 4 ≤ s.console.requests.length) :
    s.takeIn q = { s with console := { s.console with overrun := true } } :=
  if_neg (Nat.not_lt.mpr h)

end State

/-- Settles O8: a complete frame is taken in or discarded by the room of the queue, any other shows the status byte. -/
theorem requestJoinsTheQueue : Obligations.RequestJoinsTheQueue := by
  intro s figures shown
  constructor
  · intro tag code table body rest n hn frame held
    have taken : exec (.request frame) s = .next (settle (held.takeIn { tag, code, table, body })) := by
      have e : exec (.request frame) s = .next (match requestOf frame with
        | none => shown frame.length
        | some q => settle ((shown frame.length).takeIn q)) := rfl
      have length : frame.length = body.length + rest.length + 5 := by simp [frame]
      rw [e, requestOf_complete n tag code table body rest hn, length]
    rewrite [taken]
    refine ⟨fun room => ?_, fun full => ?_⟩
    · rw [State.takeIn_of_room (s := held) _ room, State.restartSilence_eq]
    · rw [State.takeIn_of_full (s := held) _ full]
  · intro n short h
    have e : exec (.request (0xA5 :: n :: short)) s = .next (match requestOf (0xA5 :: n :: short) with
      | none => shown (short.length + 2)
      | some q => settle ((shown (short.length + 2)).takeIn q)) := rfl
    rw [e, requestOf_incomplete n short h]

/-- Settles O9: the head response's bytes are its frame, and its last byte decides whether it leaves. -/
theorem fetchShiftsOutTheHeadResponse : Obligations.FetchShiftsOutTheHeadResponse := by
  intro s n figures shown
  have fetch (frame : List Byte) (left : List Response) (hf : s.console.fetchFrame = frame)
      (hl : (if frame.length ≤ n then s.console.responses.drop 1 else s.console.responses) = left) :
      exec (.fetch n) s = .next (shown frame left) := by
    let shifted : ConsolePort :=
      { s.console with overrun := false, spiOut := figures :: 0 :: clockedOut s.console.fetchFrame n }
    have e : exec (.fetch n) s = .next (settle (State.restartSilence { s with console := (shifted.fetched n) })) := rfl
    subst hf hl
    have last : shifted.fetchFrame = s.console.fetchFrame := rfl
    rewrite [e, State.restartSilence_eq, ConsolePort.fetched, last]
    by_cases whole : s.console.fetchFrame.length ≤ n
    · rewrite [if_pos whole, if_pos whole]; rfl
    · rewrite [if_neg whole, if_neg whole]; rfl
  refine ⟨fun r rs h => fetch _ _ ?_ ?_, fun h => fetch _ _ ?_ ?_⟩
  · rewrite [ConsolePort.fetchFrame, h]
    exact r.bytes_eq_frame
  · rewrite [h]; rfl
  · rewrite [ConsolePort.fetchFrame, h]; rfl
  · rewrite [h]; exact ite_self _

/-! Requests: their bytes and items, what a quiet request answers, and the requests that touch no record of the store. -/

/-! ## Signed figures (R188, R189) -/

theorem toNat_append_byte {n : Nat} (a : BitVec n) (b : Byte) : (a ++ b).toNat = a.toNat * 256 + b.toNat := by
  rw [BitVec.toNat_append, ← Nat.shiftLeft_add_eq_or_of_lt b.isLt, Nat.shiftLeft_eq]

theorem beInt_eq_toInt {n : Nat} {bs : List Byte} {v : BitVec n} (hn : beNat bs = v.toNat) (hl : 256 ^ bs.length = 2 ^ n)
    (hp : n ≠ 0) : beInt bs = v.toInt := by
  have half : v.toNat < 2 ^ n / 2 ↔ 2 * v.toNat < 2 ^ n := by
    obtain ⟨m, rfl⟩ := Nat.exists_eq_succ_of_ne_zero hp
    rewrite [Nat.pow_succ]
    omega
  rewrite [beInt, hn, hl, BitVec.toInt_eq_toNat_cond]
  simp only [half]

theorem beInt_eq_signedFigure {bs : List Byte} (h : bs.length ∈ [1, 2, 4, 8]) : beInt bs = signedFigure bs := by
  match bs, h with
  | [a], _ => exact beInt_eq_toInt (by simp [beNat]) (by norm_num) (by decide)
  | [a, b], _ => exact beInt_eq_toInt (by simp only [beNat, List.foldl, toNat_append_byte]; omega) (by norm_num) (by decide)
  | [a, b, c, d], _ =>
    exact beInt_eq_toInt (by simp only [beNat, List.foldl, toNat_append_byte]; omega) (by norm_num) (by decide)
  | [a, b, c, d, e, f, g, h], _ =>
    exact beInt_eq_toInt (by simp only [beNat, List.foldl, toNat_append_byte]; omega) (by norm_num) (by decide)
  | [], h => exact absurd h (by decide)
  | [_, _, _], h => exact absurd h (by simp)
  | [_, _, _, _, _], h => exact absurd h (by simp)
  | [_, _, _, _, _, _], h => exact absurd h (by simp)
  | [_, _, _, _, _, _, _], h => exact absurd h (by simp)
  | _ :: _ :: _ :: _ :: _ :: _ :: _ :: _ :: _ :: _, h => exact absurd h (by simp)

/-! ## Items (R189) -/

/-- R189: the bytes of an item as a frame carries it. -/
def rawItem (p : Byte × List Byte) : List Byte := p.1 :: byte p.2.length :: p.2

theorem readItems_rawItems : ∀ (raw : List (Byte × List Byte)) (fuel : Nat), (∀ p ∈ raw, p.2.length ∈ [1, 2, 4, 8]) →
    (raw.flatMap rawItem).length ≤ fuel →
    readItems fuel (raw.flatMap rawItem) = some (raw.map fun p => { field := p.1.toNat, value := signedFigure p.2 })
  | [], fuel, _, _ => by cases fuel <;> rfl
  | (f, bs) :: raw, fuel, lengths, enough => by
    have width := lengths (f, bs) (List.mem_cons_self ..)
    obtain ⟨fuel, rfl⟩ : ∃ n, fuel = n + 1 := by
      cases fuel with
      | zero => simp [rawItem] at enough
      | succ n => exact ⟨n, rfl⟩
    have figure : (byte bs.length).toNat = bs.length := by
      simp only [List.mem_cons, List.not_mem_nil, or_false] at width
      rcases width with h | h | h | h <;> rewrite [h] <;> rfl
    have rest := readItems_rawItems raw fuel (fun p hp => lengths p (List.mem_cons_of_mem _ hp)) (by
      simp only [List.flatMap_cons, rawItem, List.length_append, List.length_cons] at enough
      exact by omega)
    have test : ((bs.length == 1 || bs.length == 2 || bs.length == 4 || bs.length == 8) &&
        decide (bs.length ≤ (bs ++ raw.flatMap rawItem).length)) = true := by
      simp only [List.mem_cons, List.not_mem_nil, or_false] at width
      simp only [Bool.and_eq_true, Bool.or_eq_true, beq_iff_eq, decide_eq_true_eq, List.length_append]
      exact ⟨by tauto, by omega⟩
    simp only [List.flatMap_cons, rawItem, List.cons_append, readItems, figure, test, if_true, List.drop_left,
      List.take_left, List.map_cons, beInt_eq_signedFigure width]
    rewrite [rest]
    rfl

theorem rawItems_of_readItems : ∀ (fuel : Nat) (bs : List Byte) (is : List Item), readItems fuel bs = some is →
    ∃ raw : List (Byte × List Byte), (∀ p ∈ raw, p.2.length ∈ [1, 2, 4, 8]) ∧ bs = raw.flatMap rawItem ∧
      is.map (·.field) = raw.map (·.1.toNat)
  | _, [], is, h => by
    obtain rfl : is = [] := by
      unfold readItems at h
      exact (Option.some.inj h).symm
    exact ⟨[], by simp, rfl, rfl⟩
  | 0, _ :: _, is, h => by cases h
  | _ + 1, [_], is, h => by cases h
  | fuel + 1, f :: l :: rest, is, h => by
    simp only [readItems] at h
    split at h
    · rename_i test
      obtain ⟨tail, ht, rfl⟩ := Option.map_eq_some_iff.mp h
      obtain ⟨raw, lengths, bytes, fields⟩ := rawItems_of_readItems fuel _ _ ht
      simp only [Bool.and_eq_true, Bool.or_eq_true, beq_iff_eq, decide_eq_true_eq] at test
      have taken : (rest.take l.toNat).length = l.toNat := by
        rewrite [List.length_take]
        omega
      refine ⟨(f, rest.take l.toNat) :: raw, ?_, ?_, ?_⟩
      · refine List.forall_mem_cons.mpr ⟨?_, lengths⟩
        rewrite [taken]
        simp only [List.mem_cons, List.not_mem_nil, or_false]
        tauto
      · have figure : byte l.toNat = l := BitVec.eq_of_toNat_eq (by simp [byte])
        rw [List.flatMap_cons, rawItem, taken, figure, ← bytes, List.cons_append, List.cons_append,
          List.take_append_drop]
      · rw [List.map_cons, fields, List.map_cons]
    · cases h

theorem onceEach_iff (l : List Nat) : onceEach l = true ↔ l.Nodup := by
  induction l with
  | nil => simp [onceEach]
  | cons a l ih => simp [onceEach, ih]

/-- R27: a request with no reading as items, or with a field given twice, is no request of any table. -/
theorem Request.parse_eq_none {q : Request} (h : ∀ raw, q.holdsItems raw → ¬(raw.map (·.1)).Nodup) (admits : Nat → Bool) :
    q.parse admits = none := by
  unfold Request.parse
  split
  · split
    · rename_i is hi
      obtain ⟨raw, lengths, bytes, fields⟩ := rawItems_of_readItems _ _ _ hi
      have twice : onceEach (is.map (·.field)) ≠ true := by
        rewrite [Ne, onceEach_iff, fields]
        intro once
        refine h raw ⟨lengths, bytes⟩ ?_
        exact List.Nodup.of_map BitVec.toNat (by rwa [List.map_map])
      rw [if_neg twice]
    · rfl
  · rfl

/-! ## Parsed requests (R26, R27) -/

section
variable {q : Request} {code table : Byte} {is : List Item}

namespace Request

theorem parse_of_carries (h : q.carries code table is) {admits : Nat → Bool} (admitted : admits table.toNat = true)
    (once : onceEach (is.map (·.field)) = true) : q.parse admits = some is := by
  obtain ⟨-, rfl, hi⟩ := h
  rewrite [Request.parse, if_pos admitted, hi]
  exact if_pos once

theorem bare_of_carries (h : q.carries code 0 []) : q.bare = true := by
  rewrite [Request.bare, Request.parse_of_carries h rfl rfl]
  rfl

theorem exactly_of_carries (h : q.carries code table is) {t : Nat} {fields : List Nat} (ht : table.toNat = t)
    (once : onceEach (is.map (·.field)) = true) (all : (is.length == fields.length && fields.all (gives is)) = true) :
    q.exactly t fields = some is := by
  rewrite [Request.exactly, Request.parse_of_carries h (by simpa using ht) once]
  exact if_pos all

end Request

end

/-! ## Answers (R23) -/

/-- The transaction of a request, at its grant. -/
abbrev State.opened (s : State) : Txn := Txn.start (s.take .console)

section
variable {c : Instr} {code : Byte} {body : Request → Txn → Answer} {s : State} {q : Request} {qs : List Request}
  {y : Txn} {r : Result} {items : List ResponseItem}

/-- R23: the end of a request, whatever it did. -/
theorem exec_answer (hb : requestBodyOf c = some body) (hc : requestCodeOf c = some code) (hs : s.serves q qs)
    (hq : q.code = code) (hy : body q s.opened = (y, r, items)) :
    exec c s = .next (settle { y.commit (s.take .console) with
      console := { (y.commit (s.take .console)).console with
        requests := qs
        responses := (y.commit (s.take .console)).console.responses ++
          [{ tag := q.tag, code := q.code, result := r, items := items }] } }) := by
  obtain ⟨body', hb', run⟩ := exec_request hc
  obtain rfl : body' = body := Option.some.inj (hb'.symm.trans hb)
  obtain ⟨granted, asked, waiting⟩ := hs
  rw [run, State.runRequest_granted s _ _ q qs granted asked waiting (by simp [hq]) y r items hy]

/-- R23: a request that touches no coupling, produces no winch command and moves no binding ends with what it wrote. -/
theorem exec_quiet (hb : requestBodyOf c = some body) (hc : requestCodeOf c = some code) (hs : s.serves q qs)
    (hq : q.code = code) {after : State}
    (hy : body q s.opened = (({ s.opened with st := { after with arbiter := s.arbiter.grant .console } } : Txn), r, items))
    (barges : after.barges = s.barges) (policy : after.policy = s.policy) :
    exec c s = .next (s.answered q qs r items after) := by
  rewrite [exec_answer hb hc hs hq hy, Txn.commit_quiet _ _ rfl rfl barges.symm policy.symm]
  rfl

/-- R26: a request refused before it wrote anything leaves everything as it was. -/
theorem exec_refused (hb : requestBodyOf c = some body) (hc : requestCodeOf c = some code) (hs : s.serves q qs)
    (hq : q.code = code) (hy : body q s.opened = refuse s.opened r) : exec c s = .next (s.answered q qs r [] s) :=
  exec_quiet hb hc hs hq hy rfl rfl

end

/-! ## Requests that are no requests (R26, R27) -/

/-- R26: every request command refuses a request that no table's items can be read from, ahead of everything else. -/
theorem requestBodyOf_unparsed {c : Instr} {body : Request → Txn → Answer} (hb : requestBodyOf c = some body) {q : Request}
    (h : ∀ admits, q.parse admits = none) (x : Txn) : body q x = refuse x .badRequest := by
  have bare : q.bare = false := by simp [Request.bare, h]
  have exactly (t : Nat) (fields : List Nat) : q.exactly t fields = none := by simp [Request.exactly, h]
  have causes : q.causeItems = none := by simp [Request.causeItems, h]
  cases c <;> cases hb
  case look => simp only [requestLook, h]
  case lookNext => simp only [requestLookNext, h]
  case enrol => simp only [requestEnrol, h]
  case amend => simp only [requestAmend, h]
  case retire => simp only [requestRetire, exactly]
  case restore => simp only [requestRestore, h]
  case breakTow => simp only [requestBreak, h, Option.bind_none]
  case stepOrders | remake | sweep | notices | endOfNotice | resetLinks | clearStore =>
    simp [requestStep, requestRemake, requestSweep, requestNotices, requestEndOfNotice, requestResetLinks,
      requestClearStore, bare]
  case transferGo | stopAtGap | continueTransfer | confirm | abortTransfer =>
    simp only [requestGo, requestStopAtGap, requestContinue, requestConfirm, requestAbort, onTransfer, exactly]
  case receive | sound => simp only [requestReceive, requestSound, onTank, exactly]
  case acknowledge => simp only [requestAcknowledge, causes]
  case mask => simp only [requestMask, causes]

/-- R22: a code of no request command is none of the codes listed. -/
theorem not_mem_requestCodes {b : Byte} (h : ∀ c, requestCodeOf c ≠ some b) : requestCodes.contains b = false := by
  have listed : ∀ k ∈ requestCodes, ∃ c, requestCodeOf c = some k := by
    simp only [requestCodes, List.forall_mem_cons]
    exact ⟨⟨.look, rfl⟩, ⟨.lookNext, rfl⟩, ⟨.enrol, rfl⟩, ⟨.amend, rfl⟩, ⟨.retire, rfl⟩, ⟨.restore, rfl⟩,
      ⟨.stepOrders, rfl⟩, ⟨.breakTow, rfl⟩, ⟨.remake, rfl⟩, ⟨.sweep, rfl⟩, ⟨.transferGo, rfl⟩, ⟨.stopAtGap, rfl⟩,
      ⟨.continueTransfer, rfl⟩, ⟨.confirm, rfl⟩, ⟨.abortTransfer, rfl⟩, ⟨.receive, rfl⟩, ⟨.sound, rfl⟩, ⟨.notices, rfl⟩,
      ⟨.acknowledge, rfl⟩, ⟨.mask, rfl⟩, ⟨.endOfNotice, rfl⟩, ⟨.resetLinks, rfl⟩, ⟨.clearStore, rfl⟩, by simp⟩
  by_contra hb
  obtain ⟨c, hc⟩ := listed b (by simpa using hb)
  exact h c hc

/-- Settles O11: items are read off their bytes and nothing else is, and a request that is none is refused first. -/
theorem illFormedRequestsWriteNothing : Obligations.IllFormedRequestsWriteNothing := by
  refine ⟨fun q raw ⟨lengths, bytes⟩ => ?_, fun s q qs ⟨granted, asked, waiting⟩ unknown => ?_,
    fun c code s q qs hc hs hq twice => ?_⟩
  · have same : q.body = raw.flatMap rawItem := bytes
    rewrite [Request.items?, same]
    exact readItems_rawItems raw _ lengths le_rfl
  · have none := not_mem_requestCodes unknown
    refine congrArg _ ((State.runRequest_quiet s _ _ q qs granted asked waiting (by simp only [none, Bool.not_false])
      s.opened .badRequest [] rfl rfl rfl rfl rfl).trans ?_)
    rfl
  · obtain ⟨body, hb, -⟩ := exec_request hc
    exact exec_refused hb hc hs hq (requestBodyOf_unparsed hb (Request.parse_eq_none twice) _)

/-! ## SWEEP and the notices (R36 to R38, R67) -/

/-- Settles O22: SWEEP writes the mark alone. -/
theorem sweepSetsTheMark : Obligations.SweepSetsTheMark := by
  intro s q qs hs hq
  refine exec_quiet (c := .sweep) rfl rfl hs hq.1 ?_ rfl rfl
  rewrite [requestSweep, if_pos (Request.bare_of_carries hq)]
  rfl

theorem NoticeUnit.line_iff (u : NoticeUnit) :
    u.line = true ↔ u.hold = none ∧ ∃ c, (u.get c).pending = true ∧ (u.get c).mask = false := by
  have every (c : Cause) : c ∈ causes := by cases c <;> decide
  simp only [NoticeUnit.line, Bool.and_eq_true, Option.isNone_iff_eq_none, List.any_eq_true, Bool.not_eq_true']
  simp [every]

/-- Settles O28: END OF NOTICE and the expiry write the hold alone, and the line follows hold and flags. -/
theorem endOfNoticeHoldsTheLine : Obligations.EndOfNoticeHoldsTheLine := by
  refine ⟨fun s q qs hs hq => ?_, fun s => rfl, NoticeUnit.line_iff⟩
  refine exec_quiet (c := .endOfNotice) rfl rfl hs hq.1 ?_ rfl rfl
  rewrite [requestEndOfNotice, if_pos (Request.bare_of_carries hq)]
  rfl

theorem Request.causeItems_of_carries {q : Request} {code : Byte} {i : Item} (h : q.carries code 0 [i]) :
    q.causeItems = some [i] := by
  rw [Request.causeItems, Request.parse_of_carries h rfl rfl]

theorem causeOf_number (c : Cause) : causeOf c.number = some c := by cases c <;> rfl

theorem causeOf_eq_none {f : Nat} (h : f = 0 ∨ 10 ≤ f) : causeOf f = none := by
  unfold causeOf
  split <;> first | rfl | omega

namespace NoticeUnit

theorem get_put (u : NoticeUnit) (c : Cause) (n : Notice) : (u.put c n).get c = n := by cases c <;> rfl

theorem put_get (u : NoticeUnit) (c : Cause) : u.put c (u.get c) = u := by cases c <;> rfl

/-- R38: the pending flag of the cause named stands where the counts differ. -/
theorem acknowledgeItem_eq (u : NoticeUnit) (c : Cause) (v : Nat) :
    u.acknowledgeItem ⟨c.number, v⟩ =
      u.put c { u.get c with pending := (u.get c).pending && v != (u.get c).count } := by
  simp only [NoticeUnit.acknowledgeItem, causeOf_number, Nat.cast_inj]
  split
  · next same => simp [same]
  · next other =>
    have keep : ((u.get c).pending && v != (u.get c).count) = (u.get c).pending := by simp [other]
    rewrite [keep]
    exact (u.put_get c).symm

end NoticeUnit

theorem checkItems_singleton (i : Item) (check : Item → Option Result) : checkItems [i] check = check i := by
  cases h : check i <;> simp [checkItems, firstFailure, h]

/-- R37, R38: an item that names a cause, with a value in range, passes stage 4. -/
theorem causeRange_eq_none {c : Cause} {v last : Int} (lo : 0 ≤ v) (hi : v ≤ last) :
    checkItems [⟨c.number, v⟩] (causeRange last) = none := by
  simp [checkItems_singleton, causeRange, causeOf_number, inRange, refuseIf, within, lo, hi]

/-- Settles O27: each request by the one item that it carries. -/
theorem noticesMaskAndAcknowledge : Obligations.NoticesMaskAndAcknowledge := by
  intro s q qs hs
  refine ⟨fun hq => ?_, fun c b hq => ?_, fun c v hv hq => ?_, fun f v hf => ⟨fun hq => ?_, fun hq => ?_⟩⟩
  · refine exec_quiet (c := .notices) rfl rfl hs hq.1 ?_ rfl rfl
    rewrite [requestNotices, if_pos (Request.bare_of_carries hq)]
    rfl
  · refine exec_quiet (c := .mask) rfl rfl hs hq.1 ?_ rfl rfl
    have range : checkItems [⟨c.number, if b then 1 else 0⟩] (causeRange 1) = none := by
      cases b <;> exact causeRange_eq_none (by decide) (by decide)
    simp only [requestMask, Request.causeItems_of_carries hq, range, List.foldl, NoticeUnit.maskItem, causeOf_number,
      Txn.modNotices]
    cases b <;> rfl
  · intro n pending
    refine exec_quiet (c := .acknowledge) rfl rfl hs hq.1 ?_ rfl rfl
    have range : checkItems [⟨c.number, v⟩] (causeRange 255) = none :=
      causeRange_eq_none (by omega) (by omega)
    have items : [(⟨c.number, v⟩ : Item)].flatMap (s.notices.put c { n with pending := pending }).acknowledged =
        [{ field := c.number, width := some 2, value := ((if pending then 256 else 0) + n.count : Nat) }] := by
      simp only [List.flatMap_cons, List.flatMap_nil, List.append_nil, NoticeUnit.acknowledged, causeOf_number,
        NoticeUnit.get_put]
    have after : s.notices.acknowledgeItem ⟨c.number, v⟩ = s.notices.put c { n with pending := pending } :=
      s.notices.acknowledgeItem_eq c v
    rewrite [← items, ← after]
    simp only [requestAcknowledge, Request.causeItems_of_carries hq, range]
    rfl
  · refine exec_refused (c := .mask) rfl rfl hs hq.1 ?_
    simp only [requestMask, Request.causeItems_of_carries hq, checkItems_singleton, causeRange, causeOf_eq_none hf]
    rfl
  · refine exec_refused (c := .acknowledge) rfl rfl hs hq.1 ?_
    simp only [requestAcknowledge, Request.causeItems_of_carries hq, checkItems_singleton, causeRange, causeOf_eq_none hf]
    rfl

/-! STEP, console silence and CLEAR STORE, over a store without errors. -/

/-! ## Works over the keys of a table -/

/-- A change of the records of each key of a list, one after the other, changes each record of those keys once. -/
theorem foldl_update {α : Type} {key : α → Nat} {g : α → α} (hg : ∀ a, key (g a) = key a) :
    ∀ (keys : List Nat) (l : List α), keys.Nodup →
      keys.foldl (fun l k => update (key · == k) g l) l = l.map fun a => if key a ∈ keys then g a else a
  | [], l, _ => by simp
  | k :: keys, l, once => by
    obtain ⟨fresh, once⟩ := List.nodup_cons.mp once
    rewrite [List.foldl_cons, foldl_update hg keys _ once, update, List.map_map]
    refine List.map_congr_left fun a _ => ?_
    by_cases hk : key a = k
    · subst hk
      simp [hg, fresh]
    · simp [hk]

/-- A work over the keys of a table that changes, at each key, the record of that key changes every record once. -/
theorem Txn.forKeys_table {α : Type} {key : α → Nat} {g : α → α} (hg : ∀ a, key (g a) = key a) (inv : List α → Prop)
    (put : List α → Txn) (f : Nat → Txn → Txn) {l : List α} (once : (l.map key).Nodup) (hl : inv l)
    (step : ∀ m k, inv m → f k (put m) = put (update (key · == k) g m) ∧ inv (update (key · == k) g m)) :
    (put l).forKeys (l.map key) f = put (l.map g) ∧ inv (l.map g) := by
  have work : ∀ (keys : List Nat) (m : List α), inv m → (put m).forKeys keys f =
      put (keys.foldl (fun l k => update (key · == k) g l) m) ∧
        inv (keys.foldl (fun l k => update (key · == k) g l) m) := by
    intro keys
    induction keys with
    | nil => exact fun m hm => ⟨rfl, hm⟩
    | cons k keys ih =>
      intro m hm
      obtain ⟨made, kept⟩ := step m k hm
      rewrite [Txn.forKeys, List.foldl_cons, made, List.foldl_cons]
      exact ih _ kept
  have all : (l.map key).foldl (fun l k => update (key · == k) g l) l = l.map g := by
    rewrite [foldl_update hg _ _ once]
    exact List.map_congr_left fun a ha => if_pos (List.mem_map_of_mem ha)
  have := work (l.map key) l hl
  rwa [all] at this

theorem errorFree_of_renewed {h : Header} {ws : List Nat} (free : h.errorFree = true) : (h.renew ws).errorFree = true := by
  simp only [Header.errorFree, Header.renew, Bool.or_eq_true, beq_iff_eq] at free ⊢
  exact free.imp id fun clean => by simp [clean]

/-! ## STEP (R117) -/

theorem State.errorFree_iff (s : State) : s.errorFree = true ↔
    (∀ r ∈ s.barges, r.header.errorFree = true) ∧ (∀ r ∈ s.couplings, r.header.errorFree = true) ∧
    (∀ r ∈ s.engines, r.header.errorFree = true) ∧ (∀ r ∈ s.rudders, r.header.errorFree = true) ∧
    (∀ r ∈ s.tanks, r.header.errorFree = true) ∧ ∀ r ∈ s.transfers, r.header.errorFree = true := by
  simp [State.errorFree, and_assoc]

/-- R117: an engine as STEP leaves it. -/
def Engine.stepped (e : Engine) : Engine := if e.header.damaged then e else { e with next := e.staged }

/-- R117: a rudder channel as STEP leaves it. -/
def Rudder.stepped (r : Rudder) : Rudder := if r.header.damaged then r else { r with next := r.staged }

namespace Engine

theorem stepped_number (e : Engine) : e.stepped.number = e.number := by unfold Engine.stepped; split <;> rfl
theorem stepped_header (e : Engine) : e.stepped.header = e.header := by unfold Engine.stepped; split <;> rfl

end Engine

namespace Rudder
theorem stepped_channel (r : Rudder) : r.stepped.channel = r.channel := by unfold Rudder.stepped; split <;> rfl
theorem stepped_header (r : Rudder) : r.stepped.header = r.header := by unfold Rudder.stepped; split <;> rfl

end Rudder

theorem Header.bad_eq_nil {h : Header} (free : h.errorFree = true) (undamaged : h.damaged = false) : h.bad = [] := by
  simpa [Header.errorFree, undamaged] using free

/-- A record found by its key is the only one of that key. -/
theorem update_congr {α : Type} {key : α → Nat} {l : List α} {k : Nat} {f g : α → α}
    (h : ∀ a ∈ l, key a = k → f a = g a) : update (key · == k) f l = update (key · == k) g l :=
  List.map_congr_left fun a ha => by
    by_cases hk : key a = k
    · simp [hk, h a ha hk]
    · simp [hk]

theorem eq_of_nodup_key {α : Type} {key : α → Nat} {l : List α} (once : (l.map key).Nodup) {a b : α} (ha : a ∈ l)
    (hb : b ∈ l) (h : key a = key b) : a = b := List.inj_on_of_nodup_map once ha hb h

theorem find?_eq_some_of_nodup {α : Type} {key : α → Nat} {l : List α} (once : (l.map key).Nodup) {a : α} (ha : a ∈ l) :
    l.find? (key · == key a) = some a := by
  obtain ⟨b, hb⟩ := Option.isSome_iff_exists.mp (List.find?_isSome (p := fun b => key b == key a).mpr ⟨a, ha, by simp⟩)
  obtain ⟨same, mem⟩ := find?_key hb
  rw [hb, eq_of_nodup_key once ha mem same.symm]

theorem update_eq_self {α : Type} {key : α → Nat} {l : List α} {k : Nat} {f : α → α}
    (h : ∀ a ∈ l, key a = k → f a = a) : update (key · == k) f l = l := by
  rewrite [update_congr (g := id) h, update]
  simp

namespace State

theorem sound_engine {s : State} (once : (s.engines.map (·.number)).Nodup) {e : Engine} (he : e ∈ s.engines) :
    s.sound .engines e.number = !e.header.damaged := by
  have found : s.engine? e.number = some e := find?_eq_some_of_nodup once he
  simp [State.sound, State.header?, found]

theorem sound_rudder {s : State} (once : (s.rudders.map (·.channel)).Nodup) {r : Rudder} (hr : r ∈ s.rudders) :
    s.sound .rudders r.channel = !r.header.damaged := by
  have found : s.rudder? r.channel = some r := find?_eq_some_of_nodup once hr
  simp [State.sound, State.header?, found]

end State

namespace Txn

/-- A work over the engines that writes each undamaged one, over a store without errors. -/
theorem forEngines_errorFree {x : Txn} (free : x.st.errorFree = true) (once : (x.st.engines.map (·.number)).Nodup)
    {f : Nat → Txn → Txn} {g : Engine → Engine} (hn : ∀ e, (g e).number = e.number) (hh : ∀ e, (g e).header = e.header)
    (hf : ∀ (k : Nat) (y : Txn), (∃ m, y = x.on fun s => { s with engines := m }) → y.st.errorFree = true →
      (y.st.sound .engines k = false → f k y = y) ∧
      ∀ e, y.st.engine? k = some e → e.header.damaged = false → ∃ ws, f k y = y.modEngine k ws g) :
    x.forKeys (x.st.engines.map (·.number)) f =
      x.on (fun s => { s with engines := s.engines.map fun e => if e.header.damaged then e else g e }) := by
  let put (l : List Engine) : Txn := x.on fun s => { s with engines := l }
  let inv (l : List Engine) : Prop := (l.map (·.number)).Nodup ∧ ∀ e ∈ l, e.header.errorFree = true
  let written (e : Engine) : Engine := if e.header.damaged then e else g e
  have number (e : Engine) : (written e).number = e.number := by
    by_cases damaged : e.header.damaged <;> simp [written, damaged, hn]
  have header (e : Engine) : (written e).header = e.header := by
    by_cases damaged : e.header.damaged <;> simp [written, damaged, hh]
  obtain ⟨h1, h2, engines, h4⟩ := x.st.errorFree_iff.mp free
  refine (Txn.forKeys_table (put := put) (inv := inv) number _ once ⟨once, engines⟩ ?_).1
  rintro m k ⟨unique, clean⟩
  have freeNow : (put m).st.errorFree = true := (State.errorFree_iff _).mpr ⟨h1, h2, clean, h4⟩
  obtain ⟨unsound, sound⟩ := hf k (put m) ⟨m, rfl⟩ freeNow
  refine ⟨?_, ?_, ?_⟩
  · by_cases delivered : (put m).st.sound .engines k = false
    · have stands : update (·.number == k) written m = m := update_eq_self (key := Engine.number) fun e he hk => by
        subst hk
        have damaged : e.header.damaged = true := by
          simpa [delivered] using State.sound_engine (s := (put m).st) unique he
        exact if_pos damaged
      rw [unsound delivered, stands]
    · obtain ⟨e, he, undamaged⟩ : ∃ e, (put m).st.engine? k = some e ∧ e.header.damaged = false := by
        simp only [State.sound, State.header?] at delivered
        cases found : (put m).st.engine? k with
        | none => simp [found] at delivered
        | some e => exact ⟨e, rfl, by simpa [found] using delivered⟩
      obtain ⟨ws, hw⟩ := sound e he undamaged
      obtain ⟨hk, mem⟩ := find?_key (key := Engine.number) he
      rewrite [hw]
      refine congrArg put (update_congr (key := Engine.number) fun d hd same => ?_)
      obtain rfl := eq_of_nodup_key unique mem hd (hk.trans same.symm)
      have plain : written e = g e := if_neg (by simp [undamaged])
      rewrite [plain]
      exact Engine.renew_clean _ _ (hh e ▸ Header.bad_eq_nil (clean e mem) undamaged)
  · rewrite [map_update _ _ _ _ number]; exact unique
  · exact forall_mem_update (p := fun e : Engine => e.header.errorFree = true)
      (fun e _ _ he => by rewrite [header]; exact he) clean

/-- A work over the rudder channels that writes each undamaged one, over a store without errors. It may use a figure of
the channels that it leaves as it is. -/
theorem forRudders_errorFree {β : Type} {x : Txn} (free : x.st.errorFree = true)
    (once : (x.st.rudders.map (·.channel)).Nodup) {f : Nat → Txn → Txn} {g : Rudder → Rudder} {view : Rudder → β}
    (hn : ∀ r, (g r).channel = r.channel) (hh : ∀ r, (g r).header = r.header) (hv : ∀ r, view (g r) = view r)
    (hf : ∀ (k : Nat) (m : List Rudder) (y : Txn), y = x.on (fun s => { s with rudders := m }) →
      m.map view = x.st.rudders.map view → y.st.errorFree = true →
      (y.st.sound .rudders k = false → f k y = y) ∧
      ∀ r, y.st.rudder? k = some r → r.header.damaged = false → ∃ ws, f k y = y.modRudder k ws g) :
    x.forKeys (x.st.rudders.map (·.channel)) f =
      x.on (fun s => { s with rudders := s.rudders.map fun r => if r.header.damaged then r else g r }) := by
  let put (l : List Rudder) : Txn := x.on fun s => { s with rudders := l }
  let inv (l : List Rudder) : Prop := (l.map (·.channel)).Nodup ∧ (∀ r ∈ l, r.header.errorFree = true) ∧
    l.map view = x.st.rudders.map view
  let written (r : Rudder) : Rudder := if r.header.damaged then r else g r
  have channel (r : Rudder) : (written r).channel = r.channel := by
    by_cases damaged : r.header.damaged <;> simp [written, damaged, hn]
  have header (r : Rudder) : (written r).header = r.header := by
    by_cases damaged : r.header.damaged <;> simp [written, damaged, hh]
  have seen (r : Rudder) : view (written r) = view r := by
    by_cases damaged : r.header.damaged <;> simp [written, damaged, hv]
  obtain ⟨h1, h2, h3, rudders, h5⟩ := x.st.errorFree_iff.mp free
  refine (Txn.forKeys_table (put := put) (inv := inv) channel _ once ⟨once, rudders, rfl⟩ ?_).1
  rintro m k ⟨unique, clean, views⟩
  have freeNow : (put m).st.errorFree = true := (State.errorFree_iff _).mpr ⟨h1, h2, h3, clean, h5⟩
  obtain ⟨unsound, sound⟩ := hf k m (put m) rfl views freeNow
  refine ⟨?_, ?_, ?_, ?_⟩
  · by_cases delivered : (put m).st.sound .rudders k = false
    · have stands : update (·.channel == k) written m = m := update_eq_self (key := Rudder.channel) fun r hr hk => by
        subst hk
        have damaged : r.header.damaged = true := by
          simpa [delivered] using State.sound_rudder (s := (put m).st) unique hr
        exact if_pos damaged
      rw [unsound delivered, stands]
    · obtain ⟨r, hr, undamaged⟩ : ∃ r, (put m).st.rudder? k = some r ∧ r.header.damaged = false := by
        simp only [State.sound, State.header?] at delivered
        cases found : (put m).st.rudder? k with
        | none => simp [found] at delivered
        | some r => exact ⟨r, rfl, by simpa [found] using delivered⟩
      obtain ⟨ws, hw⟩ := sound r hr undamaged
      obtain ⟨hk, mem⟩ := find?_key (key := Rudder.channel) hr
      rewrite [hw]
      refine congrArg put (update_congr (key := Rudder.channel) fun d hd same => ?_)
      obtain rfl := eq_of_nodup_key unique mem hd (hk.trans same.symm)
      have plain : written r = g r := if_neg (by simp [undamaged])
      rewrite [plain]
      exact Rudder.renew_clean _ _ (hh r ▸ Header.bad_eq_nil (clean r mem) undamaged)
  · rewrite [map_update _ _ _ _ channel]; exact unique
  · exact forall_mem_update (p := fun r : Rudder => r.header.errorFree = true)
      (fun r _ _ hr => by rewrite [header]; exact hr) clean
  · rewrite [map_update _ _ _ _ seen]; exact views

theorem read_of_sound {y : Txn} {t : Tbl} {k : Nat} (free : y.st.errorFree = true) (sound : y.st.sound t k = true)
    (ws : List Nat) : y.read t k ws = (y, true) := by rw [Txn.read_errorFree y free, sound]

end Txn

namespace State

theorem sound_of_engine? {s : State} {k : Nat} {e : Engine} (found : s.engine? k = some e)
    (undamaged : e.header.damaged = false) : s.sound .engines k = true := by
  simp [State.sound, State.header?, found, undamaged]

theorem sound_of_rudder? {s : State} {k : Nat} {r : Rudder} (found : s.rudder? k = some r)
    (undamaged : r.header.damaged = false) : s.sound .rudders k = true := by
  simp [State.sound, State.header?, found, undamaged]

end State

namespace Txn

theorem stepEngines_errorFree (x : Txn) (free : x.st.errorFree = true) (once : (x.st.engines.map (·.number)).Nodup) :
    x.stepEngines = x.on (fun s => { s with engines := s.engines.map Engine.stepped }) :=
  Txn.forEngines_errorFree (g := fun e => { e with next := e.staged }) free once (fun _ => rfl) (fun _ => rfl)
    fun k y _ freeNow => ⟨fun unsound => by rw [Txn.read_unsound _ _ _ _ unsound], fun e he undamaged =>
      ⟨_, by rw [Txn.read_of_sound freeNow (State.sound_of_engine? he undamaged)]⟩⟩

theorem stepRudders_errorFree (x : Txn) (free : x.st.errorFree = true)
    (once : (x.st.rudders.map (·.channel)).Nodup) :
    x.stepRudders = x.on (fun s => { s with rudders := s.rudders.map Rudder.stepped }) :=
  Txn.forRudders_errorFree (g := fun r => { r with next := r.staged }) (view := fun _ => ()) free once (fun _ => rfl)
    (fun _ => rfl) (fun _ => rfl)
    fun k m y _ _ freeNow => ⟨fun unsound => by rw [Txn.read_unsound _ _ _ _ unsound], fun r hr undamaged =>
      ⟨_, by rw [Txn.read_of_sound freeNow (State.sound_of_rudder? hr undamaged)]⟩⟩

/-- R117: a STEP over a store without errors. -/
theorem performStep_errorFree (x : Txn) (free : x.st.errorFree = true) (law : x.st.recordLaw = true) :
    x.performStep = x.on (fun s => { s with
      engines := s.engines.map Engine.stepped
      rudders := s.rudders.map Rudder.stepped
      status := s.status.stepped }) := by
  obtain ⟨h1, h2, engines, h4⟩ := x.st.errorFree_iff.mp free
  obtain ⟨-, -, numbers, channels, -⟩ := (State.recordLaw_iff _).mp law
  have freeNow : (x.on fun s => { s with engines := s.engines.map Engine.stepped }).st.errorFree = true :=
    (State.errorFree_iff _).mpr ⟨h1, h2, List.forall_mem_map.mpr fun e he => by
      rewrite [Engine.stepped_header]; exact engines e he, h4⟩
  rewrite [Txn.performStep, Txn.stepEngines_errorFree x free numbers, Txn.stepRudders_errorFree _ freeNow channels]
  rfl

end Txn

/-- Settles O19: a STEP touches no coupling and writes what it copies. -/
theorem stepCopiesStagedValues : Obligations.StepCopiesStagedValues := by
  intro s q qs hs hq free law
  refine exec_quiet (c := .stepOrders) rfl rfl hs hq.1 ?_ rfl rfl
  rewrite [requestStep, if_pos (Request.bare_of_carries hq), Txn.performStep_errorFree s.opened free law]
  rfl

/-! ## Console silence (R34) -/

namespace State

theorem stageZero_errorFree (s : State) (free : s.errorFree = true) : s.stageZero = { s with
    engines := s.engines.map fun e => if e.header.damaged then e else { e with staged := 0 }
    rudders := s.rudders.map fun r => if r.header.damaged then r else { r with staged := 0 } } := by
  obtain ⟨-, -, engines, rudders, -⟩ := s.errorFree_iff.mp free
  have orders : update (fun e => !e.header.damaged) (fun e => Engine.renew { e with staged := 0 } [8]) s.engines =
      s.engines.map fun e => if e.header.damaged then e else { e with staged := 0 } :=
    List.map_congr_left fun e he => by
      cases undamaged : e.header.damaged with
      | true => simp [undamaged]
      | false =>
        simp only [undamaged, Bool.not_false, if_true, Bool.false_eq_true, if_false]
        exact Engine.renew_clean _ _ (Header.bad_eq_nil (engines e he) undamaged)
  have angles : update (fun r => !r.header.damaged) (fun r => Rudder.renew { r with staged := 0 } [7]) s.rudders =
      s.rudders.map fun r => if r.header.damaged then r else { r with staged := 0 } :=
    List.map_congr_left fun r hr => by
      cases undamaged : r.header.damaged with
      | true => simp [undamaged]
      | false =>
        simp only [undamaged, Bool.not_false, if_true, Bool.false_eq_true, if_false]
        exact Rudder.renew_clean _ _ (Header.bad_eq_nil (rudders r hr) undamaged)
  rw [State.stageZero, orders, angles]

/-- R34: the staged zeros keep keys and headers. -/
theorem stageZero_keeps (s : State) (free : s.errorFree = true) (law : s.recordLaw = true) :
    s.stageZero.errorFree = true ∧ s.stageZero.recordLaw = true := by
  obtain ⟨h1, h2, engines, rudders, h5⟩ := s.errorFree_iff.mp free
  obtain ⟨k1, k2, numbers, channels, k5, k6, shaped⟩ := (State.recordLaw_iff _).mp law
  rewrite [State.stageZero_errorFree s free, State.errorFree_iff, State.recordLaw_iff]
  refine ⟨⟨h1, h2, List.forall_mem_map.mpr fun e he => ?_, List.forall_mem_map.mpr fun r hr => ?_, h5⟩,
    k1, k2, ?_, ?_, k5, k6, List.forall_mem_map.mpr fun e he => ?_⟩
  · split
    · exact engines e he
    · exact engines e he
  · split
    · exact rudders r hr
    · exact rudders r hr
  · rewrite [List.map_map]
    have same : (fun e : Engine => e.number) ∘ (fun e : Engine => if e.header.damaged then e else { e with staged := 0 }) =
        (·.number) := funext fun e => by simp only [Function.comp]; split <;> rfl
    rwa [same]
  · rewrite [List.map_map]
    have same : (fun r : Rudder => r.channel) ∘ (fun r : Rudder => if r.header.damaged then r else { r with staged := 0 }) =
        (·.channel) := funext fun r => by simp only [Function.comp]; split <;> rfl
    rwa [same]
  · split
    · exact shaped e he
    · exact shaped e he

end State

/-- Settles O31: the transaction is a STEP of the staged zeros, with its count and notice. -/
theorem consoleSilenceStagesZero : Obligations.ConsoleSilenceStagesZero := by
  constructor
  · intro s t ht
    have e : exec .silenceTimerExpiry s = .next s.silenceExpiry := rfl
    rw [e, State.silenceExpiry, ht]
  · intro s granted asked free law
    have e : exec .consoleSilence s = .next s.silenceTransaction := rfl
    obtain ⟨freeNow, lawNow⟩ := (s.take .console).stageZero_keeps free law
    have work : s.opened.silenceWork = { s.opened with st := { s with
        arbiter := s.arbiter.grant .console
        engines := s.engines.map fun e => if e.header.damaged then e else { e with staged := 0, next := 0 }
        rudders := s.rudders.map fun r => if r.header.damaged then r else { r with staged := 0, next := 0 }
        status := { s.status.stepped with silenceEvents := saturate s.status.silenceEvents 1 }
        notices := s.notices.raise .console } } := by
      have zeroed : s.opened.on State.stageZero = Txn.start _ :=
        congrArg Txn.start (State.stageZero_errorFree (s.take .console) free)
      rewrite [Txn.silenceWork, Txn.performStep_errorFree (s.opened.on State.stageZero) freeNow lawNow, zeroed]
      have orders : (s.engines.map fun e => if e.header.damaged then e else { e with staged := 0 }).map Engine.stepped =
          s.engines.map fun e => if e.header.damaged then e else { e with staged := 0, next := 0 } := by
        rewrite [List.map_map]
        refine List.map_congr_left fun e _ => ?_
        cases damaged : e.header.damaged <;> simp [Engine.stepped, damaged]
      have angles : (s.rudders.map fun r => if r.header.damaged then r else { r with staged := 0 }).map Rudder.stepped =
          s.rudders.map fun r => if r.header.damaged then r else { r with staged := 0, next := 0 } := by
        rewrite [List.map_map]
        refine List.map_congr_left fun r _ => ?_
        cases damaged : r.header.damaged <;> simp [Rudder.stepped, damaged]
      rewrite [← orders, ← angles]
      rfl
    have ends := (Txn.commit_quiet s.opened.silenceWork (s.take .console) (by rewrite [work]; rfl) (by rewrite [work]; rfl)
      (by rewrite [work]; rfl) (by rewrite [work]; rfl)).trans (congrArg Txn.st work)
    have grants : (s.granted .console && s.console.askedSilence) = true := by simp [granted, asked]
    have run : s.silenceTransaction = settle { s.opened.silenceWork.commit (s.take .console) with
        console := { (s.opened.silenceWork.commit (s.take .console)).console with askedSilence := false } } := if_pos grants
    rewrite [e, run, ends]
    rfl

/-! ## CLEAR STORE (R18) -/

namespace Txn

/-- R144: without engines there is no REJECTED to end. -/
theorem releaseBow_noEngine (x : Txn) (none : x.st.engines = []) : x.releaseBow = x := by
  unfold Txn.releaseBow
  split
  · rfl
  · have unsound : x.st.sound .engines 5 = false := by simp [State.sound, State.header?, State.engine?, none]
    have stands : x.readBow = x := by rw [Txn.readBow, Txn.read_unsound _ _ _ _ unsound]
    dsimp only
    rewrite [stands]
    obtain ⟨st, _, _⟩ := x
    obtain ⟨_⟩ := st
    cases none
    rfl

/-- R56: without engines a change of bindings empties slots alone. -/
theorem settleBindings_noEngine (x : Txn) (before : State) (none : x.st.engines = []) :
    ∃ (p : Node → Bool) (phase : TowPhase), x.settleBindings before = x.on (fun s => { s with
      tow := { s.tow with nodes := update p Node.emptied s.tow.nodes, phase := phase } }) := by
  unfold Txn.settleBindings
  split
  · refine ⟨fun _ => false, x.st.tow.phase, ?_⟩
    have stands : update (fun _ => false) Node.emptied x.st.tow.nodes = x.st.tow.nodes := update_none _ _ _ fun _ _ => rfl
    rw [Txn.on, stands]
  · exact ⟨_, _, Txn.releaseBow_noEngine _ none⟩

end Txn

/-- R18: what CLEAR STORE reads before it decides. -/
theorem requestClearStore_of_bare {q : Request} {x : Txn} (bare : q.bare = true) (free : x.st.errorFree = true) :
    requestClearStore q x = if x.st.underWay then refuse x .wrongState else (x.on State.cleared, .done, []) := by
  rw [requestClearStore, if_pos bare, Txn.readAll_errorFree x free, Txn.readAll_errorFree x free]

theorem State.underWay_iff (s : State) : s.underWay = true ↔
    (∃ e ∈ s.engines, e.header.damaged = false ∧ e.sent ≠ 0) ∨
      ∃ t ∈ s.transfers, t.header.damaged = false ∧ t.state.inFlight = true := by
  simp [State.underWay]

/-- Settles O30: what is under way decides, and without engines the end of the transaction empties slots alone. -/
theorem clearStoreEmptiesTheTables : Obligations.ClearStoreEmptiesTheTables := by
  intro s q qs hs hq free
  have body := requestClearStore_of_bare (x := s.opened) (Request.bare_of_carries hq) free
  refine ⟨fun busy => ?_, fun engines transfers => ?_⟩
  · refine exec_refused (c := .clearStore) rfl rfl hs hq.1 (body.trans (if_pos ?_))
    exact s.underWay_iff.mpr busy
  · have idle : ¬ s.opened.st.underWay = true := by
      rewrite [State.underWay_iff]
      rintro (⟨e, he, sound, sent⟩ | ⟨t, ht, sound, flight⟩)
      · exact sent (engines e he sound)
      · exact absurd flight (by simp [transfers t ht sound])
    have ends := exec_answer (c := .clearStore) rfl rfl hs hq.1 (body.trans (if_neg idle))
    obtain ⟨p, phase, settled⟩ := (s.opened.on State.cleared).settleBindings_noEngine (s.take .console) rfl
    have committed : (s.opened.on State.cleared).commit (s.take .console) = { (s.take .console).cleared with
        tow := { (s.take .console).cleared.tow with
          nodes := update p Node.emptied (s.tow.nodes.map Node.emptied), phase := phase } } := by
      have untouched : (s.opened.on State.cleared).touched = false := rfl
      rewrite [Txn.commit, if_neg (by rewrite [untouched]; decide), settled]
      rfl
    rewrite [committed] at ends
    refine ⟨_, ends, ?_⟩
    simp only [settle_barges, settle_strings, settle_couplings, settle_engines, settle_rudders, settle_tanks,
      settle_transfers, settle_lockage, settle_readings, settle_link_contexts, settle_link_results, settle_patrol,
      settle_tow_nodes, settle_policy, settle_status, settle_notices, settle_console_requests, settle_console_responses,
      true_and]
    refine ⟨rfl, rfl, rfl, rfl, rfl, rfl, rfl, rfl, rfl, rfl, rfl, rfl, ?_, ?_, rfl, rfl, rfl, rfl⟩
    · refine forall_mem_update (p := fun n : Node => ∀ o ∈ n.slots, o = none) (fun n _ _ _ => ?_) ?_
      · simp [Node.emptied]
      · simp [Node.emptied]
    · rewrite [map_update p Node.emptied (·.address) _ fun _ => rfl, List.map_map]
      rfl

/-! The requests on transfers and tanks, over a store without errors. -/

/-! ## One transfer written (R165) -/

/-- The transaction with `t` in the place of the transfer of its number. -/
def Txn.putTransfer (x : Txn) (t : Transfer) : Txn :=
  x.on fun s => { s with transfers := update (·.number == t.number) (fun _ => t) s.transfers }

/-- A record written over the record of its key, and then changed. -/
theorem update_put {α : Type} {key : α → Nat} {k : Nat} {a : α} (h : key a = k) (f : α → α) (l : List α) :
    update (key · == k) f (update (key · == k) (fun _ => a) l) = update (key · == k) (fun _ => f a) l := by
  rewrite [update, update, List.map_map]
  refine List.map_congr_left fun b _ => ?_
  by_cases hb : key b = k
  · simp [hb, h]
  · simp [hb]

theorem find?_put {α : Type} {key : α → Nat} {k : Nat} {a b : α} {l : List α} (found : l.find? (key · == k) = some b)
    (h : key a = k) : (update (key · == k) (fun _ => a) l).find? (key · == k) = some a := by
  induction l with
  | nil => cases found
  | cons c l ih =>
    rewrite [update, List.map_cons]
    by_cases hc : key c = k
    · simp [hc, h]
    · have rest : l.find? (key · == k) = some b := by simpa [hc] using found
      simpa [hc, update] using ih rest

/-- A record found by its key stands where it is written over itself. -/
theorem put_self {α : Type} {key : α → Nat} {k : Nat} {a : α} {l : List α} (once : (l.map key).Nodup)
    (found : l.find? (key · == k) = some a) : update (key · == k) (fun _ => a) l = l := by
  obtain ⟨rfl, mem⟩ := find?_key found
  exact update_eq_self fun b hb same => eq_of_nodup_key once mem hb same.symm

namespace Transfer

theorem enter_number (t : Transfer) (new : TransferState) : (t.enter new).number = t.number := rfl

theorem enter_header (t : Transfer) (new : TransferState) : (t.enter new).header = t.header := rfl

end Transfer

/-- What a transaction finds under a transfer's number: this transfer, alone. -/
structure Txn.HasTransfer (x : Txn) (t : Transfer) : Prop where
  found : x.st.transfer? t.number = some t
  once : (x.st.transfers.map (·.number)).Nodup
  clean : t.header.bad = []

section
variable {x : Txn} {t u : Transfer}

namespace Txn

theorem HasTransfer.put (h : x.HasTransfer t) (hn : u.number = t.number) (clean : u.header.bad = []) :
    (x.putTransfer u).HasTransfer u where
  found := find?_put (key := Transfer.number) (k := u.number) (b := t) (hn ▸ h.found) rfl
  once := by
    have same : (x.putTransfer u).st.transfers.map (·.number) = x.st.transfers.map (·.number) :=
      map_update_key (key := Transfer.number) x.st.transfers rfl
    rewrite [same]
    exact h.once
  clean := clean

theorem putTransfer_put (hn : u.number = t.number) : (x.putTransfer t).putTransfer u = x.putTransfer u := by
  have twice := update_put (key := Transfer.number) (k := t.number) rfl (fun _ => u) x.st.transfers
  simp only [Txn.putTransfer, Txn.on, hn, twice]

namespace HasTransfer

theorem modTransfer (h : x.HasTransfer t) {f : Transfer → Transfer} (hn : (f t).number = t.number)
    (hh : (f t).header = t.header) (ws : List Nat) : x.modTransfer t.number ws f = x.putTransfer (f t) := by
  have written : update (·.number == t.number) (fun r => (f r).renew ws) x.st.transfers =
      update (·.number == t.number) (fun _ => f t) x.st.transfers :=
    update_congr (key := Transfer.number) fun r hr same => by
      obtain ⟨-, mem⟩ := find?_key h.found
      rewrite [eq_of_nodup_key h.once hr mem same]
      exact Transfer.renew_clean _ _ (hh ▸ h.clean)
  rewrite [Txn.modTransfer, Txn.putTransfer, hn, Txn.on, written]
  rfl

theorem enterTransfer (h : x.HasTransfer t) {new : TransferState} (other : t.state ≠ new) :
    x.enterTransfer t.number new = (x.putTransfer (t.enter new)).raise .transfer := by
  rewrite [Txn.enterTransfer, h.found]
  refine (if_neg other).trans ?_
  rw [h.modTransfer (f := (·.enter new)) rfl rfl]

end HasTransfer

theorem putTransfer_errorFree (free : x.st.errorFree = true) (clean : t.header.bad = []) :
    (x.putTransfer t).st.errorFree = true := by
  obtain ⟨h1, h2, h3, h4, h5, h6⟩ := x.st.errorFree_iff.mp free
  have transfers := forall_mem_update (p := fun u : Transfer => u.header.errorFree = true) (f := fun _ => t)
    (q := (·.number == t.number)) (fun _ _ _ _ => by simp [Header.errorFree, clean]) h6
  exact (State.errorFree_iff _).mpr ⟨h1, h2, h3, h4, h5, transfers⟩

/-- R168: the batch check of a transfer, over a store without errors. -/
theorem HasTransfer.batchCheck (h : x.HasTransfer t) (free : x.st.errorFree = true) {volume : Nat}
    (hv : volume = if t.batchMoved == 0 || t.full then t.batchVolume * 1000 else t.remaining) {new : TransferState}
    (outcome : x.st.batchOutcome t volume = new) (other : t.state ≠ new) : x.batchCheck t.number =
      (x.putTransfer (Transfer.enter
        (if new = .running ∧ (t.batchMoved == 0 || t.full) = true then { t with batchMoved := 0 } else t) new)).raise
        .transfer := by
  have stands : x.readTanks t = x := by simp only [Txn.readTanks, Txn.read_errorFree x free]
  rewrite [Txn.batchCheck, h.found]
  dsimp only
  rewrite [stands, ← hv, outcome]
  split
  · have zeroed : x.modTransfer t.number [11] (fun t => { t with batchMoved := 0 }) =
        x.putTransfer { t with batchMoved := 0 } := h.modTransfer rfl rfl _
    have held : (x.putTransfer { t with batchMoved := 0 }).HasTransfer { t with batchMoved := 0 } := h.put rfl h.clean
    rewrite [zeroed]
    refine (held.enterTransfer (new := new) other).trans ?_
    rw [Txn.putTransfer_put (Transfer.enter_number _ _)]
  · exact h.enterTransfer other

end Txn

end

theorem Txn.hasTransfer_of_law {x : Txn} {t : Transfer} (free : x.st.errorFree = true) (law : x.st.recordLaw = true)
    (found : x.st.transfer? t.number = some t) (undamaged : t.header.damaged = false) : x.HasTransfer t where
  found := found
  once := by
    obtain ⟨-, -, -, -, -, once, -⟩ := (State.recordLaw_iff _).mp law
    exact once
  clean := by
    obtain ⟨-, -, -, -, -, transfers⟩ := x.st.errorFree_iff.mp free
    exact Header.bad_eq_nil (transfers t (find?_key found).2) undamaged

/-! ## Requests on a transfer (R169, R173, R174) -/

theorem onTransfer_of_carries {q : Request} {code : Byte} {x : Txn} {t : Transfer} (hq : q.carries code 7 [⟨1, t.number⟩])
    (free : x.st.errorFree = true) (found : x.st.transfer? t.number = some t) (undamaged : t.header.damaged = false)
    (body : Nat → Transfer → Txn → Answer) : onTransfer q x body = body t.number t x := by
  have key : (valueOf [⟨1, t.number⟩] 1).bind natOf = some t.number := by simp [valueOf, natOf]
  have sound : x.st.sound .transfers t.number = true := by simp [State.sound, State.header?, found, undamaged]
  have enrolled : ¬ (x.st.transfer? t.number).isNone = true := by simp [found]
  rewrite [onTransfer, Request.exactly_of_carries hq (t := 7) (fields := [1]) rfl rfl rfl]
  dsimp only
  rewrite [key]
  dsimp only
  rewrite [if_neg enrolled, Txn.read_errorFree x free, sound]
  dsimp only
  rw [found]

namespace Txn.HasTransfer

theorem transferAnswer {x : Txn} {t : Transfer} (h : x.HasTransfer t) {k : Nat} (hk : t.number = k) :
    transferAnswer x k = answer x [item 14 t.state.code] := by
  rw [Sys2Proof.Machine.transferAnswer, ← hk, h.found]

theorem raise {x : Txn} {t : Transfer} (h : x.HasTransfer t) (c : Cause) : (x.raise c).HasTransfer t :=
  ⟨h.found, h.once, h.clean⟩

end Txn.HasTransfer

/-- Settles O24: each request writes the transfer once and answers with its state. -/
theorem stopAtGapAndAbort : Obligations.StopAtGapAndAbort := by
  intro s q qs tr hs free law found undamaged put
  have has : s.opened.HasTransfer tr := Txn.hasTransfer_of_law free law found undamaged
  let pending : Transfer := { tr with pendingAbort := true }
  have pends : s.opened.pendAbort tr.number = s.opened.putTransfer pending := has.modTransfer rfl rfl _
  have hasPending : (s.opened.putTransfer pending).HasTransfer pending := has.put rfl has.clean
  refine ⟨fun hq => ?_, fun hq => ⟨fun running => ?_, fun cause stopping => ?_, fun reason held => ?_, fun rest => ?_⟩⟩
  · refine exec_quiet (c := .stopAtGap) rfl rfl hs hq.1 ?_ (by split <;> rfl) (by split <;> rfl)
    rewrite [requestStopAtGap, onTransfer_of_carries hq free found undamaged]
    cases rest : tr.state.atRest with
    | true => exact has.transferAnswer rfl
    | false =>
      simp only [Bool.false_eq_true, if_false]
      rewrite [has.modTransfer (f := fun t => { t with gapRequest := true }) rfl rfl]
      exact (has.put (u := { tr with gapRequest := true }) rfl has.clean).transferAnswer rfl
  · refine exec_quiet (c := .abortTransfer) rfl rfl hs hq.1 ?_ rfl rfl
    have state : pending.state = .running := running
    have written : pending.enter (.stopping .aborted) =
        { tr with state := .stopping .aborted, pendingAbort := true, pumpRun := false, quiet := 0 } := by
      simp [Transfer.enter, pending, running, TransferState.stopCause?, TransferState.endReason?]
    have entered := hasPending.enterTransfer (new := .stopping .aborted) (by rewrite [state]; exact TransferState.noConfusion)
    rewrite [Txn.putTransfer_put (Transfer.enter_number _ _), written] at entered
    rewrite [requestAbort, onTransfer_of_carries hq free found undamaged]
    dsimp only
    rewrite [running]
    dsimp only
    rewrite [pends, entered]
    exact (((has.put (u := { tr with
      state := .stopping .aborted, pendingAbort := true, pumpRun := false, quiet := 0 }) rfl has.clean).raise
      .transfer).transferAnswer rfl)
  · refine exec_quiet (c := .abortTransfer) rfl rfl hs hq.1 ?_ rfl rfl
    have body : requestAbort q s.opened = transferAnswer (s.opened.pendAbort tr.number) tr.number := by
      rw [requestAbort, onTransfer_of_carries hq free found undamaged, stopping]
    have state : pending.state.code = 2 := by
      have same : pending.state = .stopping cause := stopping
      rewrite [same]
      rfl
    rewrite [body, pends, hasPending.transferAnswer rfl, state]
    rfl
  · refine exec_quiet (c := .abortTransfer) rfl rfl hs hq.1 ?_ rfl rfl
    have written : tr.enter (.ended .aborted) =
        { tr with state := .ended .aborted, gapRequest := false, pendingAbort := false, pumpRun := false } := by
      simp [Transfer.enter, TransferState.stopCause?, TransferState.endReason?]
    have entered := has.enterTransfer (new := .ended .aborted) (by rewrite [held]; exact TransferState.noConfusion)
    rewrite [written] at entered
    rewrite [requestAbort, onTransfer_of_carries hq free found undamaged]
    dsimp only
    rewrite [held]
    dsimp only
    rewrite [entered]
    exact (((has.put (u := { tr with
      state := .ended .aborted, gapRequest := false, pendingAbort := false, pumpRun := false }) rfl has.clean).raise
      .transfer).transferAnswer rfl)
  · refine exec_refused (c := .abortTransfer) rfl rfl hs hq.1 ?_
    rewrite [requestAbort, onTransfer_of_carries hq free found undamaged]
    cases state : tr.state <;> rw [state] at rest <;> first | rfl | cases rest

/-! ## The batch check (R168, R169) -/

section
variable {s : State} {t : Transfer} {source destination : Tank} {volume : Nat}

namespace State

theorem tanksSound_of (hs : s.tank? t.source = some source) (ss : source.header.damaged = false)
    (hd : s.tank? t.destination = some destination) (sd : destination.header.damaged = false) : s.tanksSound t = true := by
  simp [State.tanksSound, State.sound, State.header?, hs, hd, ss, sd]

theorem batchOutcome_pumpLost (sound : s.tanksSound t = true)
    (lost : ∀ c, s.context? t.pump = some c → c.state ≠ .exchange) : s.batchOutcome t volume = .held .pumpLost := by
  have pump : s.pumpInExchange t = false := by
    unfold State.pumpInExchange
    split
    · rfl
    · next c hc => simpa using lost c hc
  simp [State.batchOutcome, sound, pump]

theorem batchOutcome_running (hs : s.tank? t.source = some source) (ss : source.header.damaged = false)
    (hd : s.tank? t.destination = some destination) (sd : destination.header.damaged = false) {c : Context}
    (hc : s.context? t.pump = some c) (pump : c.state = .exchange)
    (low : source.lowMark * 1000 + volume ≤ source.content)
    (full : (destination.content : Int) + volume ≤ ((destination.capacity : Int) - s.policy.overfillMargin) * 1000) :
    s.batchOutcome t volume = .running := by
  have inExchange : s.pumpInExchange t = true := by simp [State.pumpInExchange, hc, pump]
  have enough : s.sourceTooLow t volume = false := by
    rewrite [State.sourceTooLow, hs]
    exact decide_eq_false (by omega)
  have room : s.destinationTooFull t volume = false := by
    rewrite [State.destinationTooFull, hd]
    exact decide_eq_false (by omega)
  simp [State.batchOutcome, State.tanksSound_of hs ss hd sd, inExchange, enough, room]

end State

end

/-- R169: a transfer that TRANSFER GO starts takes the batch check anew. -/
theorem requestGo_of_carries {q : Request} {x : Txn} {t : Transfer} (hq : q.carries 0x20 7 [⟨1, t.number⟩])
    (free : x.st.errorFree = true) (has : x.HasTransfer t) (undamaged : t.header.damaged = false)
    (rest : t.state.atRest = true) {new : TransferState} (outcome : x.st.batchOutcome t (t.batchVolume * 1000) = new)
    (other : t.state ≠ new) : requestGo q x =
      answer ((x.putTransfer (t.restarted.enter new)).raise .transfer)
        (item 14 new.code :: itemOf 15 (new.heldReason?.map HeldReason.code)) := by
  have started : x.modTransfer t.number ([10, 11] ++ wide 12 ++ [16, 17, 18, 20]) Transfer.restarted =
      x.putTransfer t.restarted := has.modTransfer rfl rfl _
  have hasFresh : (x.putTransfer t.restarted).HasTransfer t.restarted := has.put rfl has.clean
  have freeNow : (x.putTransfer t.restarted).st.errorFree = true := Txn.putTransfer_errorFree free has.clean
  have checked := hasFresh.batchCheck freeNow (volume := t.batchVolume * 1000) rfl (new := new) outcome other
  have fresh : (if new = .running ∧ (t.restarted.batchMoved == 0 || t.restarted.full) = true
      then { t.restarted with batchMoved := 0 } else t.restarted) = t.restarted := ite_self _
  rewrite [fresh, Txn.putTransfer_put (Transfer.enter_number _ _)] at checked
  have hasNew : ((x.putTransfer (t.restarted.enter new)).raise .transfer).HasTransfer (t.restarted.enter new) :=
    (has.put (u := t.restarted.enter new) rfl has.clean).raise .transfer
  rewrite [requestGo, onTransfer_of_carries hq free has.found undamaged]
  rewrite [if_pos rest, started]
  have number : t.number = t.restarted.number := rfl
  rewrite [number, checked, goAnswer]
  have found : ((x.putTransfer (t.restarted.enter new)).raise .transfer).st.transfer? t.restarted.number =
    some (t.restarted.enter new) := hasNew.found
  rewrite [found]
  rfl

/-- Settles O23: the batch check decides what TRANSFER GO enters. -/
theorem transferGoTakesTheBatchCheck : Obligations.TransferGoTakesTheBatchCheck := by
  intro s q qs tr source destination hs hq free law found undamaged rest hsrc ss hdst sd fresh
  have has : s.opened.HasTransfer tr := Txn.hasTransfer_of_law free law found undamaged
  refine ⟨fun ⟨c, hc, pump⟩ low full => ?_, fun lost => ?_⟩
  · have outcome : s.opened.st.batchOutcome tr (tr.batchVolume * 1000) = .running :=
      State.batchOutcome_running hsrc ss hdst sd hc pump low (by exact_mod_cast full)
    have other : tr.state ≠ .running := fun h => by rewrite [h] at rest; cases rest
    have written : tr.restarted.enter .running = { fresh with state := .running, pumpRun := true } := by
      simp [Transfer.enter, Transfer.restarted, fresh, TransferState.stopCause?]
    refine exec_quiet (c := .transferGo) rfl rfl hs hq.1 ?_ rfl rfl
    rewrite [requestGo_of_carries hq free has undamaged rest outcome other, written]
    rfl
  · have outcome : s.opened.st.batchOutcome tr (tr.batchVolume * 1000) = .held .pumpLost :=
      State.batchOutcome_pumpLost (State.tanksSound_of hsrc ss hdst sd) lost
    have other : tr.state ≠ .held .pumpLost := fun h => by rewrite [h] at rest; cases rest
    have written : tr.restarted.enter (.held .pumpLost) = { fresh with state := .held .pumpLost, pumpRun := false } := by
      simp [Transfer.enter, Transfer.restarted, fresh, TransferState.stopCause?]
    refine exec_quiet (c := .transferGo) rfl rfl hs hq.1 ?_ rfl rfl
    rewrite [requestGo_of_carries hq free has undamaged rest outcome other, written]
    rfl

/-- Settles O25: either request takes the batch check of the batch held. -/
theorem continueAndConfirmRunOn : Obligations.ContinueAndConfirmRunOn := by
  intro s q qs tr source destination c i code hs hq free law which found undamaged part hsrc ss hdst sd hc pump low full
  have has : s.opened.HasTransfer tr := Txn.hasTransfer_of_law free law found undamaged
  have notFull : tr.full = false := decide_eq_false (by omega)
  have outcome : s.opened.st.batchOutcome tr (tr.batchVolume * 1000 - tr.batchMoved) = .running :=
    State.batchOutcome_running hsrc ss hdst sd hc pump low full
  have held : ∃ reason, tr.state = .held reason := which.elim (fun h => ⟨_, h.2.2⟩) fun h => ⟨_, h.2.2⟩
  obtain ⟨reason, held⟩ := held
  have other : tr.state ≠ .running := by rewrite [held]; exact TransferState.noConfusion
  have volume : tr.batchVolume * 1000 - tr.batchMoved =
      if tr.batchMoved == 0 || tr.full then tr.batchVolume * 1000 else tr.remaining := by
    by_cases begun : tr.batchMoved = 0
    · simp [begun]
    · simp [begun, notFull, Transfer.remaining]
  have written : Transfer.enter (if TransferState.running = .running ∧ (tr.batchMoved == 0 || tr.full) = true
      then { tr with batchMoved := 0 } else tr) .running = { tr with state := .running, pumpRun := true } := by
    by_cases begun : tr.batchMoved = 0
    · simp [Transfer.enter, begun, TransferState.stopCause?, TransferState.endReason?]
    · simp [Transfer.enter, begun, notFull, TransferState.stopCause?, TransferState.endReason?]
  have checked := has.batchCheck free volume outcome other
  rewrite [written] at checked
  have hasNew := (has.put (u := { tr with state := .running, pumpRun := true }) rfl has.clean).raise .transfer
  have answered : transferAnswer (s.opened.batchCheck tr.number) tr.number = _ :=
    (congrArg (transferAnswer · tr.number) checked).trans (hasNew.transferAnswer rfl)
  rcases which with ⟨rfl, rfl, state⟩ | ⟨rfl, rfl, state⟩
  · refine exec_quiet (c := .continueTransfer) rfl rfl hs hq.1 ?_ rfl rfl
    have taken : s.opened.st.continues tr = true := by rw [State.continues, state]
    rewrite [requestContinue, onTransfer_of_carries hq free found undamaged]
    exact (if_pos taken).trans answered
  · refine exec_quiet (c := .confirm) rfl rfl hs hq.1 ?_ rfl rfl
    rewrite [requestConfirm, onTransfer_of_carries hq free found undamaged]
    dsimp only
    rewrite [if_pos state, if_neg (by simp [notFull])]
    exact answered

/-! ## Tanks (R152, R153, R159, R160) -/

/-- The transaction with `t` in the place of the tank of its number. -/
def Txn.putTank (x : Txn) (t : Tank) : Txn :=
  x.on fun s => { s with tanks := update (·.number == t.number) (fun _ => t) s.tanks }

namespace Tank

/-- R153: a tank with its low flag evaluated. -/
def evaluated (t : Tank) : Tank := { t with low := t.isLow }

theorem evaluated_number (t : Tank) : t.evaluated.number = t.number := rfl

end Tank

/-- What a transaction finds under a tank's number: this tank, alone. -/
structure Txn.HasTank (x : Txn) (t : Tank) : Prop where
  found : x.st.tank? t.number = some t
  once : (x.st.tanks.map (·.number)).Nodup
  clean : t.header.bad = []

section
variable {x : Txn} {t u : Tank}

namespace Txn

theorem HasTank.put (h : x.HasTank t) (hn : u.number = t.number) (clean : u.header.bad = []) :
    (x.putTank u).HasTank u where
  found := find?_put (key := Tank.number) (k := u.number) (b := t) (hn ▸ h.found) rfl
  once := by
    have same : (x.putTank u).st.tanks.map (·.number) = x.st.tanks.map (·.number) :=
      map_update_key (key := Tank.number) x.st.tanks rfl
    rewrite [same]
    exact h.once
  clean := clean

theorem putTank_put (hn : u.number = t.number) : (x.putTank t).putTank u = x.putTank u := by
  have twice := update_put (key := Tank.number) (k := t.number) rfl (fun _ => u) x.st.tanks
  simp only [Txn.putTank, Txn.on, hn, twice]

namespace HasTank

theorem modTank (h : x.HasTank t) {f : Tank → Tank} (hn : (f t).number = t.number)
    (hh : (f t).header = t.header) (ws : List Nat) : x.modTank t.number ws f = x.putTank (f t) := by
  have written : update (·.number == t.number) (fun r => (f r).renew ws) x.st.tanks =
      update (·.number == t.number) (fun _ => f t) x.st.tanks :=
    update_congr (key := Tank.number) fun r hr same => by
      obtain ⟨-, mem⟩ := find?_key h.found
      rewrite [eq_of_nodup_key h.once hr mem same]
      exact Tank.renew_clean _ _ (hh ▸ h.clean)
  rewrite [Txn.modTank, Txn.putTank, hn, Txn.on, written]
  rfl

/-- R153: the low flag of a tank, evaluated. -/
theorem evaluateLow (h : x.HasTank t) :
    x.evaluateLow t.number = (x.putTank t.evaluated).raiseIf (t.isLow && !t.low) .fuel := by
  rewrite [Txn.evaluateLow, h.found]
  dsimp only
  rewrite [h.modTank (f := fun t => { t with low := t.isLow }) rfl rfl]
  rfl

/-- R152, R153: a change of a tank's content with its term, and the evaluation that follows it. -/
theorem written (h : x.HasTank t) {f : Tank → Tank} (hn : (f t).number = t.number)
    (hh : (f t).header = t.header) (hl : (f t).low = t.low) (ws : List Nat) :
    (x.modTank t.number ws f).evaluateLow t.number =
      (x.putTank (f t).evaluated).raiseIf ((f t).isLow && !t.low) .fuel := by
  have held : (x.putTank (f t)).HasTank (f t) := h.put hn (hh ▸ h.clean)
  have evaluated := held.evaluateLow
  rewrite [hn, hl, Txn.putTank_put (Tank.evaluated_number _)] at evaluated
  rw [h.modTank hn hh, evaluated]

end HasTank

end Txn

end

theorem Txn.hasTank_of_law {x : Txn} {t : Tank} (free : x.st.errorFree = true) (law : x.st.recordLaw = true)
    (found : x.st.tank? t.number = some t) (undamaged : t.header.damaged = false) : x.HasTank t where
  found := found
  once := by
    obtain ⟨-, -, -, -, once, -⟩ := (State.recordLaw_iff _).mp law
    exact once
  clean := by
    obtain ⟨-, -, -, -, tanks, -⟩ := x.st.errorFree_iff.mp free
    exact Header.bad_eq_nil (tanks t (find?_key found).2) undamaged

theorem onTank_of_carries {q : Request} {code : Byte} {field : Nat} {x : Txn} {t : Tank} {v : Nat}
    (hq : q.carries code 6 [⟨1, t.number⟩, ⟨field, v⟩]) (hf : field ≠ 1)
    (free : x.st.errorFree = true) (found : x.st.tank? t.number = some t) (undamaged : t.header.damaged = false)
    (limit : Tank → Int) (body : Nat → Tank → Nat → Txn → Answer) : onTank q field x limit body =
      if (v : Int) ≤ limit t then body t.number t v x else refuse x (.badField field) := by
  have items : q.exactly 6 [1, field] = some [⟨1, t.number⟩, ⟨field, v⟩] :=
    Request.exactly_of_carries hq rfl (by simp [onceEach, hf.symm]) (by simp [gives])
  have key : (valueOf [⟨1, t.number⟩, ⟨field, v⟩] 1).bind natOf = some t.number := by simp [valueOf, natOf]
  have value : (valueOf [⟨1, t.number⟩, ⟨field, v⟩] field).getD 0 = v := by simp [valueOf, hf.symm]
  have sound : x.st.sound .tanks t.number = true := by simp [State.sound, State.header?, found, undamaged]
  have enrolled : ¬ (x.st.tank? t.number).isNone = true := by simp [found]
  rewrite [onTank, items]
  dsimp only
  rewrite [key]
  dsimp only
  rewrite [if_neg enrolled, Txn.read_errorFree x free, sound]
  dsimp only
  rewrite [found]
  dsimp only
  rewrite [value]
  simp [within]

/-- Settles O26: receipt and sounding write the content with its term, and the low flag follows. -/
theorem receiveAndSoundKeepTheAccount : Obligations.ReceiveAndSoundKeepTheAccount := by
  intro s q qs tk n hs free law found undamaged put
  have has : s.opened.HasTank tk := Txn.hasTank_of_law free law found undamaged
  refine ⟨fun hq => ?_, fun hq => ?_⟩
  · have body := onTank_of_carries (x := s.opened) hq (by decide) free found undamaged (fun _ => 400000000)
      fun k t amount y => answer (y.receipt k amount) [item 6 (t.content + amount : Nat)]
    refine ⟨fun nothing => ?_, fun some most => ?_, fun excess => ?_⟩
    · subst nothing
      refine exec_quiet (c := .receive) rfl rfl hs hq.1 (body.trans (if_pos (by decide))) rfl rfl
    · refine exec_quiet (c := .receive) rfl rfl hs hq.1 ((body.trans (if_pos (by omega))).trans ?_) rfl rfl
      have written := has.written (f := fun t => { t with content := t.content + n, received := t.received + n }) rfl rfl rfl
        (wide 6 ++ wide 8)
      have receipt : s.opened.receipt tk.number n = _ := (if_neg (by omega)).trans written
      rewrite [receipt, Txn.raiseIf_spec]
      rfl
    · exact exec_refused (c := .receive) rfl rfl hs hq.1 (body.trans (if_neg (by omega)))
  · have body := onTank_of_carries (x := s.opened) hq (by decide) free found undamaged (fun t => (t.capacity : Int) * 1000)
      fun k t content y => answer (y.sounding k content) [item 6 content, item 12 ((content : Int) - t.content)]
    refine ⟨fun fits => ?_, fun excess => ?_⟩
    · refine exec_quiet (c := .sound) rfl rfl hs hq.1 ((body.trans (if_pos (by omega))).trans ?_) rfl rfl
      have written := has.written
        (f := fun t => { t with content := n, adjustments := t.adjustments + ((n : Int) - t.content) }) rfl rfl rfl
        (wide 6 ++ wide 12)
      have sounding : s.opened.sounding tk.number n = _ := written
      rewrite [sounding, Txn.raiseIf_spec]
      rfl
    · exact exec_refused (c := .sound) rfl rfl hs hq.1 (body.trans (if_neg (by omega)))

/-! The tow line: replies, misses and deliveries. -/

/-! ## Misses (R53, R59) -/

/-- Settles O35: the three ends of a missed call. -/
theorem missesAreCountedAndTheThirdDrops : Obligations.MissesAreCountedAndTheThirdDrops := by
  constructor
  · intro s a n hp hd hn
    have miss : s.towMiss = if n.misses < 2 then
        (s.modNode a fun n => { n with missing := true, misses := n.misses + 1 }).towIdle
        else (s.towPhase (.dropping a)).ask .towLine := by
      rewrite [State.towMiss, hp]
      simp only [hd, Bool.false_eq_true, if_false, State.statusMiss, hn]
    have e : exec .towReplyTimeout s = .next (settle s.towMiss) := rfl
    rewrite [e, miss]
    split <;> rfl
  · intro s a hp
    have e : exec .towReplyTimeout s = .next (settle s.towMiss) := rfl
    rewrite [e, State.towMiss, hp]
    rfl

/-! ## Replies (R54, R59, R191) -/

theorem flagOf_flag (b : Bool) : flagOf (if b then 1 else 0) = some b := by cases b <;> rfl

/-- R59, R191: the readings that a payload gives, winch by winch. -/
theorem readWinches_bytes (rest : List Byte) : ∀ winches : List (Byte × Byte × Bool),
    (∀ w ∈ winches, w.1.toNat * 256 + w.2.1.toNat ≤ 4095) →
    readWinches winches.length ((winches.flatMap fun w => [w.1, w.2.1, if w.2.2 then 1 else 0]) ++ rest) =
      some (winches.map fun w => (w.1.toNat * 256 + w.2.1.toNat, w.2.2), rest)
  | [], _ => rfl
  | w :: winches, most => by
    have tail := readWinches_bytes rest winches fun v hv => most v (List.mem_cons_of_mem _ hv)
    have tension : beNat [w.1, w.2.1] = w.1.toNat * 256 + w.2.1.toNat := by simp [beNat]
    simp only [List.flatMap_cons, List.cons_append, List.nil_append, List.length_cons, readWinches, tension,
      flagOf_flag, tail, List.map_cons]
    exact if_pos (most w (List.mem_cons_self ..))

theorem beInt_pair (h l : Byte) : beInt [h, l] =
    if h.toNat < 128 then ((h.toNat * 256 + l.toNat : Nat) : Int) else (h.toNat * 256 + l.toNat : Nat) - 65536 := by
  have figure : beNat [h, l] = h.toNat * 256 + l.toNat := by simp [beNat]
  have half : h.toNat * 256 + l.toNat < 32768 ↔ h.toNat < 128 := by
    have := l.isLt
    omega
  have words : 256 ^ [h, l].length = 65536 := by norm_num
  rewrite [beInt, figure, words]
  simp only [Nat.reduceDiv, half]
  rfl

/-- Settles O34: a good reply's checks pass, and its contents are the readings and the report that it carries. -/
theorem statusReplyAsksForPosting : Obligations.StatusReplyAsksForPosting := by
  intro s r a n winches h l alarm hp hd hn count few most flag order payload good
  have framed : s.towFramed r a 0x11 n.statusLength = true := by
    refine s.towFramed_of_good r a 0x11 _ ?_ good
    have most : (64 : Nat) = Config.maxPayload := rfl
    rewrite [Node.statusLength, ← most]
    split <;> omega
  have contents : n.statusContents r.payload = some (winches.map fun w => (w.1.toNat * 256 + w.2.1.toNat, w.2.2),
      if n.bow then some (max (-1000) (min order 1000), alarm) else none) := by
    have figure : (byte n.winches).toNat = n.winches := by simp only [byte, BitVec.toNat_ofNat]; omega
    have readings := readWinches_bytes (if n.bow then [h, l, flag alarm] else []) winches most
    rewrite [← count] at readings
    rewrite [payload, List.cons_append, Node.statusContents]
    rewrite [if_pos figure, readings]
    cases n.bow with
    | true =>
      simp only [if_true, flag, flagOf_flag, Option.map_some, beInt_pair]
      rfl
    | false => rfl
  have e : exec (.statusReply r) s = .next (settle (s.statusReply r)) := rfl
  rewrite [e, State.statusReply, hp]
  dsimp only
  rewrite [if_neg (by simp [hd]), hn]
  dsimp only
  rewrite [if_pos framed, contents]
  rfl

/-! ## Deliveries (R62, R63) -/

namespace State

/-- R62: one ACCEPT or DEFER ends in the delivery transaction where it is owed one. -/
theorem endDelivery_eq {s : State} {a : Nat} {n : Node} (hn : s.node? a = some n) (taken : Bool)
    (accepted : List Nat) : s.endDelivery a taken accepted =
      if (n.slots.any fun o => match o with | none => false | some c => decide (3 ≤ c.failures)) || taken then
        { s with
          tow := { s.tow with phase := .delivering a accepted }, arbiter := { s.arbiter with towLine := true } }
      else { s with tow := { s.tow with phase := .ready } } := by
  rewrite [State.endDelivery, hn]
  rfl

theorem node?_modNode {s : State} {a : Nat} {n : Node} {f : Node → Node} (hn : s.node? a = some n)
    (hf : ∀ n, (f n).address = n.address) : (s.modNode a f).node? a = some (f n) := by
  have found : (update (·.address == a) f s.tow.nodes).find? (·.address == a) = _ :=
    find?_update _ _ _ _ fun n => by rw [hf n]
  have named : s.tow.nodes.find? (·.address == a) = some n := hn
  rewrite [named, Option.map_some, if_pos (by simpa using (find?_key (key := Node.address) hn).1)] at found
  exact found

end State

/-- Settles O37: the one held slot decides what is sent and what each answer does. -/
theorem deliveryCarriesHeldCommands : Obligations.DeliveryCarriesHeldCommands := by
  intro s a n c hn slots
  have holds : n.holds = true := by simp [Node.holds, slots]
  have held : n.held = [(2, c.stamp)] := by simp [Node.held, slots]
  have bits : n.heldBits = 2 := by rewrite [Node.heldBits, held]; rfl
  have payload : n.commandPayload =
      [1, 2, byte c.command.code, byte (c.command.target / 256), byte c.command.target] := by
    simp [Node.commandPayload, slots, beBytes]
  refine ⟨fun hp => ?_, fun hp => ?_, fun r hd good => ⟨fun hp => ?_, fun hp => ⟨?_, ?_⟩⟩, ?_⟩
  · have e : exec .readyEnquiry s = .next (settle s.readyEnquiry) := rfl
    simp only [e, State.readyEnquiry, hp, hn, holds, if_true, held, bits]
    rfl
  · have e : exec .command s = .next (settle s.sendCommand) := rfl
    simp only [e, State.sendCommand, hp, hn, holds, if_true, held, payload]
    rfl
  · have e : exec (.accept r) s = .next (settle (s.acceptReply r)) := rfl
    have reply : s.acceptReply r = s.towPhase (.commandDue a) := by
      simp only [State.acceptReply, hp, hd, Bool.false_eq_true, if_false,
        s.towFramed_of_good r a 0x13 0 (by decide) good, if_true]
    rewrite [e, reply]
    rfl
  · have e : exec (.accept r) s = .next (settle (s.acceptReply r)) := rfl
    have named := State.node?_modNode (f := (·.taken [(2, c.stamp)])) hn fun _ => rfl
    have reply : s.acceptReply r = (s.modNode a (·.taken [(2, c.stamp)])).endDelivery a true [2] := by
      simp only [State.acceptReply, hp, hd, Bool.false_eq_true, if_false,
        s.towFramed_of_good r a 0x13 0 (by decide) good, if_true]
      rfl
    rewrite [e, reply, State.endDelivery_eq named, Bool.or_true]
    rfl
  · simp [Node.taken, slots, takenSlot]
  · intro r hd hp left
    refine ⟨?_, by simp [Node.failed, slots, Slot.failed]⟩
    have e : exec (.defer r) s = .next (settle s.towMiss) := rfl
    have named := State.node?_modNode (f := (·.failed [(2, c.stamp)])) hn fun _ => rfl
    have third : ((n.failed [(2, c.stamp)]).slots.any fun o =>
        match o with | none => false | some c => decide (3 ≤ c.failures)) = decide (2 ≤ c.failures) := by
      simp [Node.failed, slots, Slot.failed]
    have miss : s.towMiss = (s.modNode a (·.failed [(2, c.stamp)])).endDelivery a false [] := by
      simp only [State.towMiss, hp, hd, Bool.false_eq_true, if_false, State.deliveryFailed, hn]
    rewrite [e, miss, State.endDelivery_eq named, third, Bool.or_false]
    simp only [decide_eq_true_iff]
    rfl

/-! The machinery link: the cycle timer, the slots, and the answers that end them. -/

theorem beBytes_two (n : Nat) : beBytes 2 n = [byte (n / 256), byte n] := by simp [beBytes]

theorem beBytes_four (n : Nat) :
    beBytes 4 n = [byte (n / 16777216), byte (n / 65536), byte (n / 256), byte n] := by simp [beBytes]

/-! ## The cycle (R99, R100, R119) -/

/-- Settles O43: the expiry's three writes, and the one state in which CYCLE START goes out. -/
theorem cycleTimerAndCycleStart : Obligations.CycleTimerAndCycleStart := by
  constructor
  · intro s
    have e : exec .cycleTimerExpiry s = .next s.cycleExpiry := rfl
    have counted : s.countOverrun = { s with status := { s.status with
        overruns := if s.link.cycle.isSome then min 65535 (s.status.overruns + 1) else s.status.overruns } } := by
      rewrite [State.countOverrun]
      split <;> rfl
    have handed (t : State) : t.handExpiry = { t with
        openedPeriod := if t.arbiter.coordination then t.openedPeriod else t.link.timer.period / 1000
        arbiter := { t.arbiter with coordination := true } } := by
      obtain ⟨_, _, _, _, _, _, _, _, _, _, _, _, _, arbiter, _, _, _, _, _, _⟩ := t
      obtain ⟨_, _, _, coordination, _, _, _⟩ := arbiter
      cases coordination <;> rfl
    rewrite [e, State.cycleExpiry, counted, handed]
    rfl
  · intro s o idle fresh latest
    have e : exec .cycleStart s = .next (settle s.cycleStart) := rfl
    rewrite [e, State.cycleStart, idle, fresh, latest]
    dsimp only
    rewrite [OutputSet.startFrame, beBytes_four]
    rfl

/-! ## Slots (R100, R103, R104, R106) -/

theorem State.slot_eq {s : State} {c : Cycle} {k : Context} {rest : List Nat} (cycle : s.link.cycle = some c)
    (idle : s.link.exchange = none) (slots : c.slots = k.address :: rest) (found : s.context? k.address = some k) :
    s.slot = some (c, k) := by
  rewrite [State.slot, cycle]
  dsimp only
  rewrite [if_neg (by simp [idle]), slots]
  dsimp only
  rewrite [found]
  rfl

/-- Settles O44: the slot's context decides the frame, and its kind the payload. -/
theorem slotsSendTheFrameOfTheState : Obligations.SlotsSendTheFrameOfTheState := by
  intro s c k rest cycle idle slots found sending parameters
  have slot := State.slot_eq cycle idle slots found
  have begins (kind : Nat) (payload : List Byte) : s.beginSlot c k kind payload = sending kind payload := by
    rewrite [State.beginSlot, slots]
    rfl
  have carried : s.parametersPayload k.parameters = parameters := by
    cases h : k.parameters <;> simp only [parameters, h, State.parametersPayload, beBytes_two, beBytes_four] <;> rfl
  have output {payload : List Byte} (state : k.state = .exchange) (h : s.outputPayload c k = payload) :
      exec .output s = .next (settle (sending 0x46 payload)) := by
    have e : exec .output s = .next (settle s.sendOutput) := rfl
    rewrite [e, State.sendOutput, slot]
    dsimp only
    rw [if_pos state, h, begins]
  have parametersGo (goes : k.state = .parameterize ∨ (k.state = .offline ∧ k.retryDue s.clock = true)) :
      exec .parameters s = .next (settle ((sending 0x41 parameters).beginAdmission k)) := by
    have e : exec .parameters s = .next (settle s.sendParameters) := rfl
    rewrite [e, State.sendParameters, slot]
    dsimp only
    rw [if_pos goes, carried, begins]
  refine ⟨fun state => ⟨fun kind o ho => ?_, fun kind a ha => ?_, fun kind none => ?_, fun kind none => ?_,
    fun kind t ht => ?_, fun kind => ?_⟩, fun state => ?_, fun state => ?_, ?_⟩
  · exact output state (by simp only [State.outputPayload, kind, ho, Option.map_some, Option.getD_some])
  · exact output state (by simp only [State.outputPayload, kind, ha, Option.map_some, Option.getD_some])
  · exact output state (by simp only [State.outputPayload, kind, none]; rfl)
  · exact output state (by simp only [State.outputPayload, kind, none]; rfl)
  · exact output state (by simp only [State.outputPayload, kind, ht]; rfl)
  · exact output state (by rcases kind with kind | kind <;> simp only [State.outputPayload, kind])
  · have e : exec .configuration s = .next (settle s.sendConfiguration) := rfl
    rewrite [e, State.sendConfiguration, slot]
    dsimp only
    rw [if_pos state, begins]
  · rw [parametersGo (.inl state), State.beginAdmission, if_neg (by simp [state])]
  · intro state due sent contexts
    have retry : k.retryDue s.clock = true := by
      rewrite [Context.retryDue]
      rcases due with none | ⟨t, ht, passed⟩
      · rw [none]
      · rewrite [ht]
        exact decide_eq_true passed
    rewrite [parametersGo (.inr ⟨state, retry⟩), State.beginAdmission, if_pos state]
    rfl

/-! ## Answers (R101, R102, R107, R192) -/

theorem linkFramed_of_good {r : LineReply} {a kind length : Nat} (short : length ≤ Config.maxPayload)
    (good : r.good 400 32 a kind length) : linkFramed r a kind length = true := by
  obtain ⟨delay, payload, dest, source, check⟩ := good
  simp only [linkFramed, LineReply.framed, Bool.and_eq_true, decide_eq_true_eq, beq_iff_eq]
  exact ⟨⟨⟨⟨⟨delay, payload ▸ short⟩, payload⟩, dest⟩, source⟩, check⟩

namespace State

theorem endSlot_eq {s : State} {e : LinkExchange} (h : s.link.exchange = some e)
    (outcome : LinkExchange → SlotOutcome) : s.endSlot outcome = { s with link := { s.link with
      exchange := none
      results := s.link.results ++
        [{ address := e.address, held := e.held, outcome := outcome e, stale := e.stale }] } } := by
  rewrite [State.endSlot, h]
  rfl

/-- R107: a good INPUT of a context in EXCHANGE gives the values of its kind. -/
theorem inputOutcome_of_good {s : State} {r : LineReply} {e : LinkExchange} {c : Context}
    (found : s.context? e.address = some c) (held : e.held = .exchange) {length : Nat} (hl : inputLength c.kind = length)
    (good : r.good 400 32 e.address 0x47 length) : s.inputOutcome r e =
      match inputValues c.kind r.payload with
      | none => .miss
      | some v => .input v := by
  have short : length ≤ Config.maxPayload := by
    have most : (64 : Nat) = Config.maxPayload := rfl
    rewrite [← hl, ← most]
    cases c.kind <;> decide
  rewrite [State.inputOutcome, found]
  dsimp only
  rewrite [hl]
  exact if_pos ⟨held, linkFramed_of_good short good⟩

end State

theorem beNat_pair (h l : Byte) : beNat [h, l] = h.toNat * 256 + l.toNat := by simp [beNat]

theorem temperatureOf_pair (h l : Byte) :
    temperatureOf [h, l] = if h = 0x80 ∧ l = 0 then none else some (beInt [h, l]) := by
  simp [temperatureOf]

theorem inputFlag_eq (b : Byte) : inputFlag b = if b = 0 ∨ b = 1 then some (b == 1) else none := by
  unfold inputFlag
  by_cases clear : b = 0
  · subst clear; rfl
  · by_cases set : b = 1
    · subst set; rfl
    · rw [if_neg clear, if_neg set, if_neg (by tauto)]

/-- Settles O45: each answer's outcome, by the kind and the payload. -/
theorem answersEndTheSlot : Obligations.AnswersEndTheSlot := by
  intro s e r under ended signed temperature
  have input {o : SlotOutcome} (h : s.inputOutcome r e = o) : exec (.input r) s = .next (ended o) := by
    have run : exec (.input r) s = .next (settle (s.endSlot (s.inputOutcome r))) := rfl
    rw [run, State.endSlot_eq under, h]
  have figure (h l : Byte) : beInt [h, l] = signed h l := beInt_pair h l
  have heat (h l : Byte) : temperatureOf [h, l] = temperature h l := by rw [temperatureOf_pair, figure]
  refine ⟨fun c found held => ⟨fun h l a kind payload good => ?_, fun h l kind payload good => ?_,
    fun h l a b kind payload good => ?_, fun h l a b f kind payload good => ?_,
    fun a b h l kind payload good => ?_⟩, fun held good => ?_, fun held good => ?_,
    fun kind channels held payload good => ?_, ?_⟩
  · refine input ((State.inputOutcome_of_good found held (by rewrite [kind]; rfl) good).trans ?_)
    simp only [kind, payload, inputValues, inputFlag_eq, figure]
    by_cases flag : a = 0 ∨ a = 1
    · simp only [if_pos flag, Option.map_some]
    · simp only [if_neg flag, Option.map_none]
  · refine input ((State.inputOutcome_of_good found held (by rewrite [kind]; rfl) good).trans ?_)
    simp only [kind, payload, inputValues, figure]
  · refine input ((State.inputOutcome_of_good found held (by rewrite [kind]; rfl) good).trans ?_)
    simp only [kind, payload, inputValues, heat, beNat_pair]
  · refine input ((State.inputOutcome_of_good found held (by rewrite [kind]; rfl) good).trans ?_)
    simp only [kind, payload, inputValues, heat, beNat_pair, inputFlag_eq]
    by_cases flag : f = 0 ∨ f = 1
    · simp only [if_pos flag, Option.map_some]
    · simp only [if_neg flag, Option.map_none]
  · refine input ((State.inputOutcome_of_good found held (by rewrite [kind]; rfl) good).trans ?_)
    simp only [kind, payload, inputValues, beNat, List.foldl, Nat.zero_mul, Nat.zero_add]
  · have run : exec (.paramOk r) s = .next (settle (s.endSlot (paramOkOutcome r))) := rfl
    have slot : e.parametersSlot = true := by rcases held with held | held <;> rewrite [LinkExchange.parametersSlot, held] <;> rfl
    rewrite [run, State.endSlot_eq under, paramOkOutcome, slot, linkFramed_of_good (by decide) good]
    rfl
  · have run : exec (.paramFault r) s = .next (settle (s.endSlot (paramFaultOutcome r))) := rfl
    have slot : e.parametersSlot = true := by rcases held with held | held <;> rewrite [LinkExchange.parametersSlot, held] <;> rfl
    rewrite [run, State.endSlot_eq under, paramFaultOutcome, slot, linkFramed_of_good (by decide) good]
    rfl
  · have run : exec (.configurationReply r) s = .next (settle (s.endSlot (configurationOutcome r))) := rfl
    rw [run, State.endSlot_eq under, configurationOutcome, if_pos ⟨held, linkFramed_of_good (by decide) good⟩, payload]
  · have run : exec .machineryReplyTimeout s = .next (settle (s.endSlot fun _ => .miss)) := rfl
    rw [run, State.endSlot_eq under]

/-! Conversions, tension evaluations, and the cycle computation over a store without errors. -/

/-! ## Conversion (R156) -/

/-- Settles O48: the expansion takes away less than the volume, and a figure splits at 10⁹. -/
theorem conversionIsExact : Obligations.ConversionIsExact := by
  intro d k beta residual t hb lo hi volume
  have expansion : (beta : Int) * (t - 150) ≤ 1000000 := by
    have : (beta : Int) ≤ 200 := by exact_mod_cast hb
    nlinarith
  have nonneg : 0 ≤ volume := by
    have pulses : 0 ≤ ((d * k : Nat) : Int) := Int.natCast_nonneg _
    have split : volume = (d * k : Nat) * (1000000 - beta * (t - 150)) + residual := by
      simp only [volume, convertedVolume]
      ring
    have part : 0 ≤ ((d * k : Nat) : Int) * (1000000 - beta * (t - 150)) := mul_nonneg pulses (by linarith)
    rewrite [split]
    omega
  refine ⟨nonneg, ?_, ?_⟩
  · simp only [postedAmount, newResidual]
    omega
  · simp only [newResidual]
    omega

/-! ## Tension (R80, R81) -/

theorem elapsed_iff (timer : Option Nat) (clock ms : Nat) :
    elapsed timer clock ms = true ↔ ∃ start, timer = some start ∧ ms * 1000 ≤ clock - start := by
  cases timer <;> simp [elapsed]

/-- Settles O50: the thresholds are in order, so the branches of the evaluation are the cases of the statement. -/
theorem tensionDecidesTheState : Obligations.TensionDecidesTheState := by
  intro p phase clock t c rated strain strainLow slack o
  have slackBelow : c.rated * p.slackLimit / 1000 ≤ c.rated * p.strainLimit / 1000 :=
    Nat.div_le_div_right (Nat.mul_le_mul_left _ (by omega))
  have strainBelow : c.rated * p.strainLimit / 1000 < c.rated := by
    rewrite [Nat.div_lt_iff_lt_mul (by decide)]
    nlinarith
  simp only [o, evaluateTension, strainThreshold, slackThreshold, makeUpTension, ← elapsed_iff]
  by_cases overload : c.rated ≤ t
  · have notSlack : ¬ t < c.rated * p.slackLimit / 1000 := by omega
    have notStrained : ¬ t < c.rated := by omega
    by_cases was : c.state = .overload
    · simp [overload, was, notSlack, notStrained]
    · simp [overload, was, notSlack, notStrained]
  · have below : t < c.rated := by omega
    by_cases strains : c.rated * p.strainLimit / 1000 ≤ t
    · have notSlack : ¬ t < c.rated * p.slackLimit / 1000 := by omega
      simp [overload, below, strains, notSlack]
    · by_cases slacks : t < c.rated * p.slackLimit / 1000
      · by_cases was : c.state = .slack
        · simp [overload, strains, slacks, was]
        · by_cases waited : elapsed c.slackTimer clock p.slackTime = true
          · by_cases crosses : c.crossing = true ∧ phase = .split
            · simp [overload, strains, slacks, was, waited, crosses]
            · simp [overload, strains, slacks, was, waited, crosses]
          · simp [overload, strains, slacks, was, waited]
      · simp [overload, strains, slacks]

/-! The cycle computation over a store without errors (R119 to R128, R137, R138, R146). -/

/-! ## The stages -/

/-- R120: an engine after stage 0, with a step waiting or without. -/
def Engine.handed (waiting : Bool) (e : Engine) : Engine :=
  if waiting && !e.header.damaged then { e with live := e.next } else e

/-- R120: a rudder channel after stage 0, with a step waiting or without. -/
def Rudder.handed (waiting : Bool) (r : Rudder) : Rudder :=
  if waiting && !r.header.damaged then { r with live := r.next } else r

/-- R120: the state after stage 0. -/
def State.handed (s : State) : State :=
  { s with
    engines := s.engines.map (Engine.handed s.status.stepWaiting)
    rudders := s.rudders.map (Rudder.handed s.status.stepWaiting)
    status := { s.status with stepWaiting := false } }

/-- R124, R146: an engine after stage 3. -/
def Engine.distributed (l : Limits) (ahead astern : Nat) (e : Engine) : Engine :=
  if e.header.damaged then e
  else { e with allowed := if e.number = 5 then allowedBow e l else allowedOrder e l ahead astern }

/-- R124, R146: the state after stage 3. -/
def State.distributed (s : State) (l : Limits) : State :=
  { s with engines := s.engines.map (Engine.distributed l s.aheadDemand s.asternDemand) }

/-- R126: an engine after stage 4. -/
def Engine.slewed (step period dwell : Nat) (e : Engine) : Engine :=
  if e.header.damaged then e else e.slew step period dwell

/-- R125, R126: the state after stage 4. -/
def State.slewed (s : State) (mass period : Nat) : State :=
  { s with engines :=
    s.engines.map (Engine.slewed (slewStep s.policy.slewConstant mass) period s.policy.reversalDwell) }

/-- R137, R138: a channel after stage 5. -/
def Rudder.steered (limit demand period : Nat) (r : Rudder) : Rudder :=
  if r.header.damaged then r else r.steer limit demand period

namespace State

/-- R137, R138: the state after stage 5. -/
def steered (s : State) (limit period : Nat) : State :=
  { s with rudders := s.rudders.map (Rudder.steered limit s.flankDemand period) }

/-- R49: the tow mass. -/
def mass (s : State) : Nat :=
  s.policy.boatMass + ((s.barges.filter fun b => s.movedBarges.contains b.hull).map Barge.mass).sum

end State

theorem Engine.handed_same (w : Bool) (e : Engine) : (e.handed w).number = e.number ∧ (e.handed w).header = e.header ∧
    (e.handed w).state = e.state ∧ (e.handed w).rated = e.rated ∧ (e.handed w).sent = e.sent ∧
    (e.handed w).bowBarge = e.bowBarge := by
  unfold Engine.handed
  split <;> exact ⟨rfl, rfl, rfl, rfl, rfl, rfl⟩

theorem Rudder.handed_same (w : Bool) (r : Rudder) : (r.handed w).channel = r.channel ∧ (r.handed w).header = r.header ∧
    (r.handed w).state = r.state := by
  unfold Rudder.handed
  split <;> exact ⟨rfl, rfl, rfl⟩

namespace Engine

theorem distributed_same (l : Limits) (ahead astern : Nat) (e : Engine) :
    (e.distributed l ahead astern).number = e.number ∧ (e.distributed l ahead astern).header = e.header := by
  unfold Engine.distributed
  split <;> exact ⟨rfl, rfl⟩

theorem slew_same (step period dwell : Nat) (e : Engine) : (e.slew step period dwell).number = e.number ∧
    (e.slew step period dwell).header = e.header := by
  unfold Engine.slew
  split <;> exact ⟨rfl, rfl⟩

theorem slewed_same (step period dwell : Nat) (e : Engine) : (e.slewed step period dwell).number = e.number ∧
    (e.slewed step period dwell).header = e.header := by
  unfold Engine.slewed
  split
  · exact ⟨rfl, rfl⟩
  · exact e.slew_same step period dwell

end Engine

namespace State

/-- What the stages need of the store, and keep: no word error, and keys once. -/
def Fit (s : State) : Prop :=
  s.errorFree = true ∧ (s.engines.map (·.number)).Nodup ∧ (s.rudders.map (·.channel)).Nodup

theorem fit_of_law {s : State} (free : s.errorFree = true) (law : s.recordLaw = true) : s.Fit := by
  obtain ⟨-, -, numbers, channels, -⟩ := (State.recordLaw_iff _).mp law
  exact ⟨free, numbers, channels⟩

namespace Fit

theorem withEngines {s : State} (h : s.Fit) {g : Engine → Engine} (hn : ∀ e, (g e).number = e.number)
    (hh : ∀ e, (g e).header = e.header) : State.Fit { s with engines := s.engines.map g } := by
  obtain ⟨free, numbers, channels⟩ := h
  obtain ⟨h1, h2, engines, h4⟩ := s.errorFree_iff.mp free
  refine ⟨(State.errorFree_iff _).mpr ⟨h1, h2, List.forall_mem_map.mpr fun e he => ?_, h4⟩, ?_, channels⟩
  · rewrite [hh]; exact engines e he
  · have same : (·.number) ∘ g = (·.number) := funext hn
    rewrite [List.map_map, same]
    exact numbers

theorem withRudders {s : State} (h : s.Fit) {g : Rudder → Rudder} (hn : ∀ r, (g r).channel = r.channel)
    (hh : ∀ r, (g r).header = r.header) : State.Fit { s with rudders := s.rudders.map g } := by
  obtain ⟨free, numbers, channels⟩ := h
  obtain ⟨h1, h2, h3, rudders, h5⟩ := s.errorFree_iff.mp free
  refine ⟨(State.errorFree_iff _).mpr ⟨h1, h2, h3, List.forall_mem_map.mpr fun r hr => ?_, h5⟩, numbers, ?_⟩
  · rewrite [hh]; exact rudders r hr
  · have same : (·.channel) ∘ g = (·.channel) := funext hn
    rewrite [List.map_map, same]
    exact channels

theorem handed {s : State} (h : s.Fit) : s.handed.Fit :=
  (h.withEngines (g := Engine.handed s.status.stepWaiting) (fun e => (e.handed_same _).1)
    fun e => (e.handed_same _).2.1).withRudders (fun r => (r.handed_same s.status.stepWaiting).1)
      fun r => (r.handed_same _).2.1

theorem distributed {s : State} (h : s.Fit) (l : Limits) : (s.distributed l).Fit :=
  h.withEngines (fun e => (e.distributed_same ..).1) fun e => (e.distributed_same ..).2

theorem slewed {s : State} (h : s.Fit) (mass period : Nat) : (s.slewed mass period).Fit :=
  h.withEngines (fun e => (e.slewed_same ..).1) fun e => (e.slewed_same ..).2

end Fit

end State

section
variable {x : Txn}

namespace Txn

theorem handover_fit (h : x.st.Fit) : x.handover = x.on State.handed := by
  obtain ⟨free, numbers, channels⟩ := h
  unfold Txn.handover
  cases waiting : x.st.status.stepWaiting with
  | false =>
    have engines : x.st.engines.map (Engine.handed false) = x.st.engines := List.map_id'' (fun _ => rfl) _
    have rudders : x.st.rudders.map (Rudder.handed false) = x.st.rudders := List.map_id'' (fun _ => rfl) _
    have status : { x.st.status with stepWaiting := false } = x.st.status := by rw [← waiting]
    rewrite [Txn.on, State.handed, waiting, engines, rudders, status]
    rfl
  | true =>
    have engines : x.handEngines = x.on (fun s => { s with engines := s.engines.map (Engine.handed true) }) := by
      have work := Txn.forEngines_errorFree (g := fun e => { e with live := e.next }) free numbers (fun _ => rfl)
        (fun _ => rfl) (f := fun k y => match y.read .engines k [9] with
          | (z, false) => z
          | (z, true) => z.modEngine k [10] fun e => { e with live := e.next })
        fun k y _ freeNow => ⟨fun unsound => by rw [Txn.read_unsound _ _ _ _ unsound], fun e he undamaged =>
          ⟨_, by rw [Txn.read_of_sound freeNow (State.sound_of_engine? he undamaged)]⟩⟩
      have same : (fun e : Engine => if e.header.damaged then e else { e with live := e.next }) = Engine.handed true :=
        funext fun e => by cases damaged : e.header.damaged <;> simp [Engine.handed, damaged]
      rewrite [same] at work
      exact work
    have fit : State.Fit { x.st with engines := x.st.engines.map (Engine.handed true) } :=
      State.Fit.withEngines ⟨free, numbers, channels⟩ (fun e => (e.handed_same _).1) fun e => (e.handed_same _).2.1
    have rudders (y : Txn) (fit : y.st.Fit) :
        y.handRudders = y.on (fun s => { s with rudders := s.rudders.map (Rudder.handed true) }) := by
      obtain ⟨free, -, channels⟩ := fit
      have work := Txn.forRudders_errorFree (g := fun r => { r with live := r.next }) (view := fun _ => ()) free channels
        (fun _ => rfl) (fun _ => rfl) (fun _ => rfl) (f := fun k y => match y.read .rudders k [8] with
          | (z, false) => z
          | (z, true) => z.modRudder k [9] fun r => { r with live := r.next })
        fun k m y _ _ freeNow => ⟨fun unsound => by rw [Txn.read_unsound _ _ _ _ unsound], fun r hr undamaged =>
          ⟨_, by rw [Txn.read_of_sound freeNow (State.sound_of_rudder? hr undamaged)]⟩⟩
      have same : (fun r : Rudder => if r.header.damaged then r else { r with live := r.next }) = Rudder.handed true :=
        funext fun r => by cases damaged : r.header.damaged <;> simp [Rudder.handed, damaged]
      rewrite [same] at work
      exact work
    rewrite [if_pos rfl, engines, rudders _ fit, Txn.on, Txn.on, Txn.on, State.handed, waiting]
    rfl

theorem distribute_fit (h : x.st.Fit) (l : Limits) : x.distribute l = x.on (·.distributed l) := by
  obtain ⟨free, -, -⟩ := h
  obtain ⟨-, -, engines, -⟩ := x.st.errorFree_iff.mp free
  have written : update (fun e => !e.header.damaged) (Engine.allow l x.st.aheadDemand x.st.asternDemand) x.st.engines =
      x.st.engines.map (Engine.distributed l x.st.aheadDemand x.st.asternDemand) :=
    List.map_congr_left fun e he => by
      cases damaged : e.header.damaged with
      | true => simp [Engine.distributed, damaged]
      | false =>
        simp only [Engine.distributed, damaged, Bool.not_false, if_true, Bool.false_eq_true, if_false]
        exact Engine.renew_clean _ _ (Header.bad_eq_nil (engines e he) damaged)
  have stands := Txn.readRunning_errorFree x free [10]
  have made : x.distribute l = x.on (fun s => { s with
      engines := (update (fun e => !e.header.damaged) (Engine.allow l s.aheadDemand s.asternDemand) s.engines) }) := by
    rewrite [Txn.distribute, stands]
    rfl
  rewrite [made, Txn.on, written]
  rfl

theorem towMass_fit (h : x.st.Fit) : x.towMass = (x, x.st.mass) := by
  obtain ⟨free, -, -⟩ := h
  rewrite [Txn.towMass, Txn.readAll_errorFree x free]
  rfl

theorem slewAll_fit (h : x.st.Fit) (mass period : Nat) : x.slewAll mass period = x.on (·.slewed mass period) := by
  obtain ⟨free, numbers, -⟩ := h
  refine Txn.forEngines_errorFree
    (g := fun e => e.slew (slewStep x.st.policy.slewConstant mass) period x.st.policy.reversalDwell) free numbers
    (fun e => (e.slew_same ..).1) (fun e => (e.slew_same ..).2) fun k y ⟨m, hy⟩ freeNow =>
      ⟨fun unsound => ?_, fun e he undamaged => ?_⟩
  · unfold Txn.slewEngine
    dsimp only
    split
    · rfl
    · rw [Txn.read_unsound _ _ _ _ unsound]
  · subst hy
    exact ⟨_, (Txn.slewEngine_errorFree _ freeNow k _ period e he).trans (if_neg (by simp [undamaged]))⟩

end Txn

/-- R137: the flank demand is a figure of the channels' states, live targets and shafts. -/
theorem State.flankDemand_eq (s : State) : s.flankDemand =
    ((s.rudders.map fun r => (r.steers, r.live, r.shaft)).map fun v : Bool × Int × Nat =>
      if v.1 then v.2.1.natAbs * s.shaftThrust v.2.2 / Config.fullRudder else 0).sum := by
  rewrite [State.flankDemand, List.map_map]
  induction s.rudders with
  | nil => rfl
  | cons r l ih =>
    rewrite [List.map_cons, List.sum_cons, ← ih, List.filter_cons]
    cases steers : r.steers <;> simp [steers, State.flankTerm]

theorem Rudder.steer_same (limit demand period : Nat) (r : Rudder) : (r.steer limit demand period).channel = r.channel ∧
    (r.steer limit demand period).header = r.header ∧
    ((r.steer limit demand period).steers, (r.steer limit demand period).live, (r.steer limit demand period).shaft) =
      (r.steers, r.live, r.shaft) := by
  unfold Rudder.steer
  split <;> exact ⟨rfl, rfl, rfl⟩

theorem Txn.steerAll_fit (h : x.st.Fit) (l : Limits) (period : Nat) :
    x.steerAll l period = x.on (·.steered l.flank period) := by
  obtain ⟨free, -, channels⟩ := h
  rewrite [Txn.steerAll, Txn.readChannels_errorFree x free]
  refine Txn.forRudders_errorFree (g := fun r => r.steer l.flank x.st.flankDemand period)
    (view := fun r => (r.steers, r.live, r.shaft)) free channels (fun r => (r.steer_same ..).1)
    (fun r => (r.steer_same ..).2.1) (fun r => (r.steer_same ..).2.2) fun k m y hy views freeNow =>
      ⟨fun unsound => ?_, fun r hr undamaged => ?_⟩
  · rewrite [Txn.steerChannel_errorFree y freeNow, unsound]
    rfl
  · have demand : y.st.flankDemand = x.st.flankDemand := by
      subst hy
      rewrite [State.flankDemand_eq, State.flankDemand_eq]
      exact congrArg (fun v : List (Bool × Int × Nat) => (v.map fun v : Bool × Int × Nat =>
        if v.1 then v.2.1.natAbs * x.st.shaftThrust v.2.2 / Config.fullRudder else 0).sum) views
    rewrite [← demand]
    exact ⟨_, (Txn.steerChannel_errorFree y freeNow ..).trans (if_pos (State.sound_of_rudder? hr undamaged))⟩

end

/-! ## The computation (R119) -/

namespace State

/-- R122, R123: the limits that a computation decides. -/
def cycleLimits (s : State) : Limits := s.handed.limits s.handed.sums

/-- R119: the records as stages 0 to 5 leave them. -/
def coordinated (s : State) : State :=
  ((s.handed.distributed s.cycleLimits).slewed s.mass s.openedPeriod).steered s.cycleLimits.flank s.openedPeriod

end State

/-- R119: the computation, stage by stage. -/
theorem Txn.computeCycle_fit {x : Txn} (h : x.st.Fit) :
    x.computeCycle = (x.on State.coordinated).writeResults x.st.handed.sums x.st.cycleLimits x.st.mass := by
  have handed := h.handed
  have distributed := handed.distributed x.st.cycleLimits
  have slewed := distributed.slewed x.st.mass x.st.openedPeriod
  have reads : (x.on State.handed).readCouplings = x.on State.handed := Txn.readCouplings_errorFree _ handed.1
  have engines : (x.on State.handed).readEngines = x.on State.handed := Txn.readEngines_errorFree _ handed.1
  have mass : (x.on fun s => s.handed.distributed x.st.cycleLimits).towMass = (_, x.st.mass) := Txn.towMass_fit distributed
  have slews := Txn.slewAll_fit (x := x.on fun s => s.handed.distributed x.st.cycleLimits) distributed x.st.mass
    x.st.openedPeriod
  have steers := Txn.steerAll_fit (x := x.on fun s => (s.handed.distributed x.st.cycleLimits).slewed x.st.mass
    x.st.openedPeriod) slewed x.st.cycleLimits x.st.openedPeriod
  have distribute : (x.on State.handed).distribute x.st.cycleLimits = x.on fun s => s.handed.distributed x.st.cycleLimits :=
    Txn.distribute_fit handed _
  have limits : (x.on State.handed).st.limits (x.on State.handed).st.sums = x.st.cycleLimits := rfl
  simp only [Txn.computeCycle, Txn.handover_fit h, reads, engines, limits, distribute, mass, slews]
  exact congrArg (·.writeResults x.st.handed.sums x.st.cycleLimits x.st.mass) steers

/-! What a granted cycle computation writes (R119 to R128, R137, R138, R146). -/

/-! ## The state after a computation -/

theorem Txn.writeResults_eq (x : Txn) (sums : Sums) (l : Limits) (mass : Nat) : x.writeResults sums l mass =
    let status := x.st.status.computed sums l mass x.st.limited
    x.on fun s => { s with
      status := status
      notices := if s.limited && !s.status.limiting then s.notices.raise .limit else s.notices
      link := { s.link with latest := some (State.outputSet { s with status := status }), fresh := true } } := by
  rewrite [Txn.writeResults, Txn.raiseIf_spec]
  rfl

/-- The stages change engines, rudder channels and the tow status alone. -/
theorem State.coordinated_eq (s : State) : s.coordinated = { s with
    engines := s.coordinated.engines, rudders := s.coordinated.rudders
    status := { s.status with stepWaiting := false } } := by
  have chain (a b c d e : State) (u : TowStatus) (hb : b = { a with engines := b.engines, rudders := b.rudders, status := u })
      (hc : c = { b with engines := c.engines }) (hd : d = { c with engines := d.engines })
      (he : e = { d with rudders := e.rudders }) :
      e = { a with engines := e.engines, rudders := e.rudders, status := u } := by
    cases a; cases b; cases c; cases d; cases e
    simp only [State.mk.injEq] at *
    simp_all
  exact chain s s.handed (s.handed.distributed s.cycleLimits)
    ((s.handed.distributed s.cycleLimits).slewed s.mass s.openedPeriod) _ _ rfl rfl rfl rfl

/-! The grant itself touches no figure that the stages use. -/

section
variable (s : State) (r : Requester)

namespace State

theorem handed_take : (s.take r).handed = s.handed.take r := rfl
theorem distributed_take (l : Limits) : (s.take r).distributed l = (s.distributed l).take r := rfl
theorem slewed_take (mass period : Nat) : (s.take r).slewed mass period = (s.slewed mass period).take r := rfl
theorem steered_take (limit period : Nat) : (s.take r).steered limit period = (s.steered limit period).take r := rfl
theorem mass_take : (s.take r).mass = s.mass := rfl
theorem sums_take : (s.take r).sums = s.sums := rfl
theorem limits_take (u : Sums) : (s.take r).limits u = s.limits u := rfl
theorem limited_take : (s.take r).limited = s.limited := rfl

theorem cycleLimits_take : (s.take r).cycleLimits = s.cycleLimits := by
  rewrite [State.cycleLimits, State.handed_take, State.sums_take, State.limits_take]
  rfl

theorem coordinated_take : (s.take r).coordinated = s.coordinated.take r := by
  have period : (s.take r).openedPeriod = s.openedPeriod := rfl
  rewrite [State.coordinated, State.cycleLimits_take, State.mass_take, State.handed_take, State.distributed_take,
    State.slewed_take, State.steered_take, period]
  rfl

end State

end

namespace State

/-- R119, R128: the records and figures after a granted computation. -/
structure Computed (s t : State) : Prop where
  engines : t.engines = s.coordinated.engines
  rudders : t.rudders = s.coordinated.rudders
  status : t.status =
    TowStatus.computed { s.status with stepWaiting := false } s.handed.sums s.cycleLimits s.mass s.coordinated.limited
  notices : t.notices = if t.status.limiting && !s.status.limiting then s.notices.raise .limit else s.notices
  latest : t.link.latest = some t.outputSet
  fresh : t.link.fresh = true
  stands : t.couplings = s.couplings ∧ t.barges = s.barges ∧ t.tanks = s.tanks ∧ t.transfers = s.transfers ∧
    t.policy = s.policy ∧ t.lockage = s.lockage

/-- R119, R128: the state that a computation leaves. -/
def afterCycle (s : State) : State :=
  let status := TowStatus.computed { s.status with stepWaiting := false } s.handed.sums s.cycleLimits s.mass
    s.coordinated.limited
  { s with
    engines := s.coordinated.engines
    rudders := s.coordinated.rudders
    status := status
    notices := if s.coordinated.limited && !s.status.limiting then s.notices.raise .limit else s.notices
    link := { s.link with latest := some (State.outputSet { s.coordinated with status := status }), fresh := true } }

theorem afterCycle_take (s : State) (r : Requester) : (s.take r).afterCycle = s.afterCycle.take r := by
  rewrite [State.afterCycle, State.coordinated_take, State.cycleLimits_take, State.mass_take, State.handed_take,
    State.sums_take, State.limited_take]
  rfl

end State

theorem Txn.computeCycle_eq {s : State} (fit : s.Fit) : (Txn.start s).computeCycle = Txn.start s.afterCycle := by
  rewrite [Txn.computeCycle_fit (x := Txn.start s) fit, Txn.writeResults_eq]
  have stands := s.coordinated_eq
  have work : (Txn.start s).on State.coordinated = Txn.start s.coordinated := rfl
  rewrite [work]
  simp only [Txn.on, State.afterCycle]
  generalize s.coordinated = c at stands ⊢
  generalize engines : c.engines = es at stands ⊢
  generalize rudders : c.rudders = rs at stands ⊢
  subst stands
  rfl

theorem State.afterCycle_stands (s : State) : s.afterCycle.couplings = s.couplings ∧ s.afterCycle.barges = s.barges ∧
    s.afterCycle.tanks = s.tanks ∧ s.afterCycle.transfers = s.transfers ∧ s.afterCycle.policy = s.policy ∧
    s.afterCycle.lockage = s.lockage := by
  simp only [State.afterCycle, and_self]

theorem exec_cycleComputation {s : State} (granted : s.granted .coordination = true) (fit : s.Fit) :
    ∃ t, exec .cycleComputation s = .next t ∧ s.Computed t := by
  have work := Txn.computeCycle_eq (s := s.take .coordination) fit
  rewrite [State.afterCycle_take] at work
  obtain ⟨couplings, barges, tanks, transfers, policy, lockage⟩ := s.afterCycle_stands
  have quiet := State.transact_quiet s .coordination Txn.computeCycle granted _ work rfl rfl barges policy
  have run : exec .cycleComputation s = .next (settle (s.afterCycle.take .coordination)) := congrArg _ quiet
  refine ⟨_, run, ?_, ?_, ?_, ?_, ?_, ?_, ?_⟩
  · rewrite [settle_engines]; simp only [State.take, State.afterCycle]
  · rewrite [settle_rudders]; simp only [State.take, State.afterCycle]
  · rewrite [settle_status]; simp only [State.take, State.afterCycle]
  · rewrite [settle_notices, settle_status]; simp only [State.take, State.afterCycle, TowStatus.computed]; rfl
  · rewrite [settle_link_latest, State.outputSet, settle_engines, settle_rudders, settle_status]
    simp only [State.take, State.afterCycle, State.outputSet]
  · rewrite [settle_link_fresh]; simp only [State.take, State.afterCycle]
  · simp only [settle_couplings, settle_barges, settle_tanks, settle_transfers, settle_policy, settle_lockage]
    exact ⟨couplings, barges, tanks, transfers, policy, lockage⟩

/-! What a granted cycle computation writes into each record (R119 to R128, R137, R138, R146). -/

/-! ## The records -/

namespace State

/-- R124, R126: an engine as a computation leaves it. -/
def engineAfter (s : State) (e : Engine) : Engine :=
  ((e.handed s.status.stepWaiting).distributed s.cycleLimits s.handed.aheadDemand s.handed.asternDemand).slewed
    (slewStep s.policy.slewConstant s.mass) s.openedPeriod s.policy.reversalDwell

/-- R137: the flank demand of a computation. -/
def cycleDemand (s : State) : Nat :=
  ((s.handed.distributed s.cycleLimits).slewed s.mass s.openedPeriod).flankDemand

/-- R137, R138: a rudder channel as a computation leaves it. -/
def rudderAfter (s : State) (r : Rudder) : Rudder :=
  (r.handed s.status.stepWaiting).steered s.cycleLimits.flank s.cycleDemand s.openedPeriod

theorem coordinated_engines (s : State) : s.coordinated.engines = s.engines.map s.engineAfter := by
  simp only [State.coordinated, State.steered, State.slewed, State.distributed, State.handed, List.map_map]
  rfl

theorem coordinated_rudders (s : State) : s.coordinated.rudders = s.rudders.map s.rudderAfter := by
  have stages : s.coordinated.rudders = (s.rudders.map (Rudder.handed s.status.stepWaiting)).map
      (Rudder.steered s.cycleLimits.flank s.cycleDemand s.openedPeriod) := rfl
  rewrite [stages, List.map_map]
  rfl

end State

/-! ## The slew (R126, R127) -/

/-- R126: the table of the slew. -/
theorem slewOrder_eq (sent a : Int) (step : Nat) (released : Bool) : slewOrder sent a step released =
    if sent = 0 then if a ≠ 0 ∧ released = true then moveToward sent a step else 0
    else if (0 < sent ∧ 0 < a) ∨ (sent < 0 ∧ a < 0) then
      if a.natAbs ≤ sent.natAbs then a else moveToward sent a step
    else 0 := by
  have side : sameSign sent a = true ↔ (0 < sent ∧ 0 < a) ∨ (sent < 0 ∧ a < 0) := by simp [sameSign]
  unfold slewOrder
  by_cases rest : sent = 0
  · subst rest
    by_cases still : a = 0 <;> simp [still]
  · simp only [rest, if_false, side]

/-- R127: what lets an engine at rest move to an order that is not 0. -/
theorem Engine.released_iff (e : Engine) (period dwell : Nat) (h : e.allowed ≠ 0) : e.released period dwell = true ↔
    e.number = 5 ∨ e.lastDirection = .none ∨ (e.lastDirection = .ahead ∧ 0 < e.allowed) ∨
      (e.lastDirection = .astern ∧ e.allowed < 0) ∨ dwell ≤ e.counted period := by
  have direction : e.lastDirection = directionOf e.allowed ↔
      (e.lastDirection = .ahead ∧ 0 < e.allowed) ∨ (e.lastDirection = .astern ∧ e.allowed < 0) := by
    rcases Int.lt_or_gt_of_ne h with astern | ahead
    · have not : ¬ 0 < e.allowed := by omega
      simp [directionOf, not, astern]
    · have not : ¬ e.allowed < 0 := by omega
      simp [directionOf, not, ahead]
  simp only [Engine.released, Bool.or_eq_true, beq_iff_eq, decide_eq_true_eq, direction, or_assoc]

theorem slewOrder_bounds (sent allowed : Int) (step : Nat) (released : Bool) :
    let new := slewOrder sent allowed step released
    new.natAbs ≤ allowed.natAbs ∧ (0 < new → 0 < allowed) ∧ (new < 0 → allowed < 0) ∧
    new.natAbs ≤ sent.natAbs + step ∧
    (0 < sent → 0 < allowed → allowed ≤ sent → new = allowed) ∧
    (sent ≠ 0 → (0 < sent ∧ allowed < 0 ∨ sent < 0 ∧ 0 < allowed) → new = 0) := by
  intro new
  have within := slewOrder_within sent allowed step released
  refine ⟨within.natAbs_le, within.side.1, within.side.2, ?_, fun hs ha near => ?_, fun moving sides => ?_⟩
  · change (slewOrder sent allowed step released).natAbs ≤ _
    obtain h | ⟨h, near⟩ | ⟨hs, h0, -, h⟩ | ⟨hs, h0, -, h⟩ := slewOrder_cases sent allowed step released
    · rewrite [h]
      exact Nat.zero_le _
    · rewrite [h]
      exact Nat.le_add_right_of_le near
    · clear within
      omega
    · clear within
      omega
  · have closer : allowed.natAbs ≤ sent.natAbs := by clear within; omega
    exact (slewOrder_eq ..).trans (by rw [if_neg hs.ne', if_pos (.inl ⟨hs, ha⟩), if_pos closer])
  · have other : ¬ ((0 < sent ∧ 0 < allowed) ∨ (sent < 0 ∧ allowed < 0)) := by clear within moving; omega
    exact (slewOrder_eq ..).trans (by rw [if_neg moving, if_neg other])

/-! ## Engines (R124, R126, R127, R146) -/

section
variable {s : State} {e : Engine}

/-- R120: the live target that the computation goes by. -/
def State.liveOf (s : State) (e : Engine) : Int := if s.status.stepWaiting then e.next else e.live

theorem Engine.handed_undamaged (undamaged : e.header.damaged = false) :
    e.handed s.status.stepWaiting = { e with live := s.liveOf e } := by
  unfold Engine.handed State.liveOf
  cases s.status.stepWaiting <;> simp [undamaged]

namespace State

/-- R124, R146: the allowed order that the computation gives an undamaged engine. -/
def allows (s : State) (e : Engine) : Int :=
  let live : Engine := { e with live := s.liveOf e }
  if e.number = 5 then allowedBow live s.cycleLimits
  else allowedOrder live s.cycleLimits s.handed.aheadDemand s.handed.asternDemand

theorem engineAfter_undamaged (undamaged : e.header.damaged = false) : s.engineAfter e =
    Engine.slew { e with live := s.liveOf e, allowed := s.allows e } (slewStep s.policy.slewConstant s.mass)
      s.openedPeriod s.policy.reversalDwell := by
  rewrite [State.engineAfter, Engine.handed_undamaged undamaged, Engine.distributed, if_neg (by simp [undamaged]),
    Engine.slewed, if_neg (by simp [undamaged])]
  rfl

theorem engineAfter_damaged (damaged : e.header.damaged = true) : s.engineAfter e = e := by
  have stands : e.handed s.status.stepWaiting = e := if_neg (by simp [damaged])
  rw [State.engineAfter, stands, Engine.distributed, if_pos damaged, Engine.slewed, if_pos damaged]

/-- R124: a figure of the driving engines after stage 0, by the live targets that stand then. -/
theorem handed_drives (s : State) (f : Engine → Nat) :
    ((s.handed.engines.filter Engine.drives).map f).sum =
      ((s.engines.filter Engine.drives).map fun e => f { e with live := s.liveOf e }).sum := by
  have drives : Engine.drives ∘ Engine.handed s.status.stepWaiting = Engine.drives := funext fun e => by
    obtain ⟨number, header, state, -⟩ := e.handed_same s.status.stepWaiting
    simp only [Function.comp, Engine.drives, number, header, state]
  have engines : s.handed.engines = s.engines.map (Engine.handed s.status.stepWaiting) := rfl
  rewrite [engines, List.filter_map, drives, List.map_map]
  refine congrArg List.sum (List.map_congr_left fun e he => ?_)
  have undamaged : e.header.damaged = false := by
    have := (List.mem_filter.mp he).2
    simp only [Engine.drives, Bool.and_eq_true, Bool.not_eq_true'] at this
    exact this.2
  rw [Function.comp, Engine.handed_undamaged undamaged]

end State

end

section
variable {s : State} {e : Engine}

namespace State

/-- An undamaged engine as the slew finds it. -/
def toSlew (s : State) (e : Engine) : Engine := { e with live := s.liveOf e, allowed := s.allows e }

/-- R126, R127: a RUNNING, undamaged engine after the slew. -/
theorem engineAfter_running (running : e.state = .running) (undamaged : e.header.damaged = false) :
    (s.engineAfter e).number = e.number ∧ (s.engineAfter e).allowed = s.allows e ∧
    (s.engineAfter e).sent = slewOrder e.sent (s.allows e) (slewStep s.policy.slewConstant s.mass)
      ((s.toSlew e).released s.openedPeriod s.policy.reversalDwell) ∧
    (s.engineAfter e).zeroTime =
      (if (s.engineAfter e).sent = 0 ∧ e.sent ≠ 0 then 0 else (s.toSlew e).counted s.openedPeriod) ∧
    (s.engineAfter e).lastDirection =
      if (s.engineAfter e).sent = 0 then e.lastDirection else directionOf (s.engineAfter e).sent := by
  rewrite [State.engineAfter_undamaged undamaged, Engine.slew, if_pos running]
  exact ⟨rfl, rfl, rfl, rfl, rfl⟩

end State

end

/-- Settles O51: the bounds of the slew, and the table of R126 read off the engine that the computation leaves. -/
theorem slewNeverPassesTheAllowedOrder : Obligations.SlewNeverPassesTheAllowedOrder := by
  refine ⟨slewOrder_bounds, ?_⟩
  intro s granted free law live share drives ahead astern
  obtain ⟨t, run, computed⟩ := exec_cycleComputation granted (State.fit_of_law free law)
  refine ⟨t, run, fun e he running undamaged => ⟨s.engineAfter e, ?_, ?_⟩⟩
  · rewrite [computed.engines, State.coordinated_engines]
    exact List.mem_map_of_mem he
  · have aheadDemand : s.handed.aheadDemand = ahead := s.handed_drives fun e => e.share.toNat
    have asternDemand : s.handed.asternDemand = astern := s.handed_drives fun e => (-e.share).toNat
    have limitAhead : t.status.limitAhead = s.cycleLimits.ahead := by rewrite [computed.status]; rfl
    have limitAstern : t.status.limitAstern = s.cycleLimits.astern := by rewrite [computed.status]; rfl
    have limitBow : t.status.limitBow = s.cycleLimits.bow := by rewrite [computed.status]; rfl
    have mass : t.status.towMass = s.mass := by rewrite [computed.status]; rfl
    obtain ⟨number, allowed, sent, zeroTime, direction⟩ := s.engineAfter_running running undamaged
    refine ⟨number, ?_, ?_⟩
    · rewrite [allowed, limitAhead, limitAstern, limitBow]
      by_cases bow : e.number = 5
      · simp only [State.allows, allowedBow, bow, if_true, running]
        rfl
      · have drives : Engine.drives { e with live := s.liveOf e } = true := by simp [Engine.drives, bow, running, undamaged]
        simp only [State.allows, allowedOrder, bow, if_false, drives, if_true, aheadDemand, asternDemand]
        rfl
    · intro a step toward rest
      have same : a = s.allows e := allowed
      have steps : step = slewStep s.policy.slewConstant s.mass := by simp only [step, mass]; rfl
      refine ⟨?_, zeroTime, ?_⟩
      · rewrite [sent, slewOrder_eq, ← same, ← steps]
        by_cases still : e.sent = 0
        · rewrite [if_pos still, if_pos still]
          by_cases none : a = 0
          · rw [if_neg (by simp [none]), if_neg (by simp [none])]
          · have released := (s.toSlew e).released_iff s.openedPeriod s.policy.reversalDwell (fun h => none (same.trans h))
            have order : (s.toSlew e).allowed = a := same.symm
            have counted : (s.toSlew e).counted s.openedPeriod = rest := rfl
            rewrite [counted, order] at released
            simp only [released]
            rfl
        · rewrite [if_neg still, if_neg still]
          rfl
      · rewrite [direction, directionOf]
        by_cases none : (s.engineAfter e).sent = 0
        · simp [none]
        · by_cases up : 0 < (s.engineAfter e).sent
          · simp [none, up]
          · have down : (s.engineAfter e).sent < 0 := by omega
            simp [none, up, down]

/-! The figures of a granted cycle computation (R91, R119 to R123, R128, R137, R138, R49). -/

section
variable (s : State)

namespace State

/-- R122: what stands in for a limit, by lockage and boat cut. -/
theorem limits_eq (u : Sums) :
    let light : Bool := decide (s.barges = []) || (s.lockage.phase != .whole && s.lockage.boatCut == .none)
    let conflict : Bool := !light && s.lockage.phase != .whole && s.lockage.boatCut == .conflict
    let limit (ordinary free : Nat) : Nat := if light then free else if conflict then 0 else ordinary
    s.limits u = {
      ahead := limit ((u.face + u.long) * s.policy.aheadFactor / 1000) s.runningThrust
      astern := limit (u.face * s.policy.asternFactor / 1000) s.runningThrust
      flank := limit (u.breast * s.policy.flankFactor / 1000) 4294967295
      bow := limit (u.bow * s.policy.flankFactor / 1000) 4294967295 } := by
  intro light conflict limit
  have noLimit : Config.noLimit = 4294967295 := rfl
  simp only [State.limits, ordinaryLimits, limit, conflict, light, noLimit]
  by_cases none : s.barges = []
  · simp [none]
  · by_cases whole : s.lockage.phase = .whole
    · simp [none, whole]
    · obtain ⟨x, cut⟩ : ∃ x, s.lockage.boatCut = x := ⟨_, rfl⟩
      cases x <;> simp [none, whole, cut]

theorem handed_runningThrust : s.handed.runningThrust =
    ((s.engines.filter fun e => e.number != 5 && e.state == .running && !e.header.damaged).map (·.rated)).sum :=
  s.handed_drives (·.rated)

end State

theorem Coupling.usable_eq (c : Coupling) : c.usable =
    if c.header.damaged then 0
      else match c.tending, c.state with
        | .winch _ _, .made => if c.winchFault then c.rated / 2 else c.rated
        | .winch _ _, .slack => c.rated / 2
        | .winch _ _, .strained => c.rated / 2
        | .hand, .made => 3 * c.rated / 4
        | _, _ => 0 := by
  unfold Coupling.usable
  split
  · rfl
  · cases c.tending <;> cases c.state <;> rfl

namespace State

/-- R121: a coupling is counted in WHOLE, and outside it in the boat cut. -/
theorem counted_eq (c : Coupling) : s.counted c = (s.lockage.phase == .whole ||
    (match s.lockage.boatCut with
      | .cut k => !s.crossing c && s.cut? c.endB == some k &&
        (match c.endA with | .boat => true | .barge h => s.cut? h == some k)
      | .none => false
      | .conflict => false)) := by
  unfold State.counted
  by_cases whole : s.lockage.phase = .whole
  · simp [whole]
  · obtain ⟨x, cut⟩ : ∃ x, s.lockage.boatCut = x := ⟨_, rfl⟩
    have other : (s.lockage.phase == .whole) = false := by simp [whole]
    simp only [whole, if_false, cut, other, Bool.false_or]
    cases x <;> rfl

theorem bowBarge?_handed : s.handed.bowBarge? = s.bowBarge? := by
  have found : s.handed.engine? 5 = (s.engine? 5).map (Engine.handed s.status.stepWaiting) := by
    have engines : s.handed.engines = s.engines.map (Engine.handed s.status.stepWaiting) := rfl
    rewrite [State.engine?, engines, List.find?_map]
    have same : (fun e : Engine => e.number == 5) ∘ Engine.handed s.status.stepWaiting = (·.number == 5) :=
      funext fun e => by rw [Function.comp, (e.handed_same _).1]
    rewrite [same]
    rfl
  rewrite [State.bowBarge?, State.bowBarge?, found]
  cases s.engine? 5 with
  | none => rfl
  | some e =>
    obtain ⟨-, -, -, -, -, bow⟩ := e.handed_same s.status.stepWaiting
    exact bow

/-- R49: the barges whose mass counts. -/
theorem mass_eq : s.mass = s.policy.boatMass + ((s.barges.filter fun b =>
    s.lockage.phase == .whole || s.lockage.boatCut == .conflict ||
      (match s.lockage.boatCut with | .cut k => s.cut? b.hull == some k | .none => false | .conflict => false)).map
    fun b => if b.header.damaged then 4000 else b.laden).sum := by
  have moved : s.barges.filter (fun b => s.movedBarges.contains b.hull) = s.barges.filter fun b =>
      s.lockage.phase == .whole || s.lockage.boatCut == .conflict ||
      (match s.lockage.boatCut with | .cut k => s.cut? b.hull == some k | .none => false | .conflict => false) := by
    refine List.filter_congr fun b hb => ?_
    have mem : b.hull ∈ s.barges.map (·.hull) := List.mem_map_of_mem hb
    unfold State.movedBarges
    by_cases whole : s.lockage.phase = .whole
    · simp only [whole, if_true, beq_self_eq_true, Bool.true_or]
      simpa using mem
    · obtain ⟨x, cut⟩ : ∃ x, s.lockage.boatCut = x := ⟨_, rfl⟩
      cases x with
      | none => simp [whole, cut]
      | conflict => simpa [whole, cut] using mem
      | cut k =>
        have picked : b.hull ∈ (s.barges.map (·.hull)).filter (fun h => s.cut? h == some k) ↔
            (s.cut? b.hull == some k) = true := by
          rewrite [List.mem_filter]
          exact and_iff_right mem
        have other : (s.lockage.phase == .whole) = false := by simp [whole]
        have calm : (BoatCut.cut k == .conflict) = false := rfl
        simp only [whole, cut, if_false, other, calm, Bool.false_or]
        rw [Bool.eq_iff_iff, List.contains_iff_mem, picked]
  rewrite [State.mass, moved]
  rfl

/-- R120: a channel's live target that the computation goes by. -/
def liveAngle (r : Rudder) : Int := if s.status.stepWaiting then r.next else r.live

/-- R137: the flank demand, by the live targets that stand after stage 0. -/
theorem cycleDemand_eq : s.cycleDemand =
    ((s.rudders.filter fun r => r.state == .running && !r.header.damaged).map fun r =>
      (s.liveAngle r).natAbs * s.coordinated.shaftThrust r.shaft / 350).sum := by
  have steers : Rudder.steers ∘ Rudder.handed s.status.stepWaiting = Rudder.steers := funext fun r => by
    obtain ⟨-, header, state⟩ := r.handed_same s.status.stepWaiting
    simp only [Function.comp, Rudder.steers, header, state]
  have stages : s.cycleDemand = (((s.rudders.map (Rudder.handed s.status.stepWaiting)).filter Rudder.steers).map
      (State.flankTerm ((s.handed.distributed s.cycleLimits).slewed s.mass s.openedPeriod))).sum := rfl
  rewrite [stages, List.filter_map, steers, List.map_map]
  refine congrArg List.sum (List.map_congr_left fun r hr => ?_)
  have undamaged : r.header.damaged = false := by
    have := (List.mem_filter.mp hr).2
    simp only [Rudder.steers, Bool.and_eq_true, Bool.not_eq_true'] at this
    exact this.2
  have handed : r.handed s.status.stepWaiting = { r with live := s.liveAngle r } := by
    unfold Rudder.handed State.liveAngle
    cases s.status.stepWaiting <;> simp [undamaged]
  rewrite [Function.comp, handed]
  rfl

/-- R137, R138: a channel as the computation leaves it, in full. -/
theorem rudderAfter_eq (r : Rudder) : s.rudderAfter r =
    let allowed : Int := if s.cycleDemand ≤ s.cycleLimits.flank then s.liveAngle r
      else (s.liveAngle r * s.cycleLimits.flank).tdiv s.cycleDemand
    let step : Nat := max 1 (r.rate * s.openedPeriod / 1000)
    if r.header.damaged then r
    else if r.state = .running then
      { r with
        live := s.liveAngle r, allowed := allowed
        sent := if r.sent ≤ allowed then min (r.sent + step) allowed else max (r.sent - step) allowed }
    else { r with live := s.liveAngle r, allowed := 0, sent := 0 } := by
  cases damaged : r.header.damaged with
  | true =>
    have stands : r.handed s.status.stepWaiting = r := if_neg (by simp [damaged])
    rewrite [State.rudderAfter, stands, Rudder.steered, if_pos damaged]
    rfl
  | false =>
    have handed : r.handed s.status.stepWaiting = { r with live := s.liveAngle r } := by
      unfold Rudder.handed State.liveAngle
      cases s.status.stepWaiting <;> simp [damaged]
    have steers : s.rudderAfter r =
        Rudder.steer { r with live := s.liveAngle r } s.cycleLimits.flank s.cycleDemand s.openedPeriod := by
      rewrite [State.rudderAfter, handed]
      exact if_neg (by simp [damaged])
    rewrite [steers]
    rfl

end State

end

section
variable (s : State) (e : Engine)

namespace State

theorem engineAfter_number : (s.engineAfter e).number = e.number := by
  cases damaged : e.header.damaged with
  | true => rw [s.engineAfter_damaged damaged]
  | false =>
    rewrite [State.engineAfter_undamaged damaged]
    exact (Engine.slew_same ..).1

theorem engineAfter_live :
    (s.engineAfter e).live = if s.status.stepWaiting && !e.header.damaged then e.next else e.live := by
  cases damaged : e.header.damaged with
  | true =>
    rewrite [s.engineAfter_damaged damaged]
    simp
  | false =>
    rewrite [State.engineAfter_undamaged damaged]
    obtain ⟨sent, direction, rest, slewed⟩ := Engine.slew_fields { e with live := s.liveOf e, allowed := s.allows e }
      (slewStep s.policy.slewConstant s.mass) s.openedPeriod s.policy.reversalDwell
    rewrite [slewed]
    simp [State.liveOf]

/-- R126: an undamaged engine that is not RUNNING is sent nothing. -/
theorem engineAfter_idle (undamaged : (s.engineAfter e).header.damaged = false)
    (idle : (s.engineAfter e).state ≠ .running) : (s.engineAfter e).sent = 0 := by
  cases damaged : e.header.damaged with
  | true =>
    rewrite [s.engineAfter_damaged damaged] at undamaged
    exact absurd damaged (by simp [undamaged])
  | false =>
    rewrite [State.engineAfter_undamaged damaged] at idle ⊢
    unfold Engine.slew at idle ⊢
    split at idle
    · next running => exact absurd running idle
    · next other => rw [if_neg other]

end State

end

/-- Settles O49: the figures by the lemmas above, and the records of `State.coordinated`. -/
theorem cycleComputationWritesItsResults : Obligations.CycleComputationWritesItsResults := by
  intro s granted free law inCut usable sum face long breast bow own light conflict limit pushed
  obtain ⟨t, run, computed⟩ := exec_cycleComputation granted (State.fit_of_law free law)
  obtain ⟨couplings, barges, tanks, transfers, policy, lockage⟩ := computed.stands
  have engines : t.engines = s.engines.map s.engineAfter := computed.engines.trans s.coordinated_engines
  have rudders : t.rudders = s.rudders.map s.rudderAfter := computed.rudders.trans s.coordinated_rudders
  have usableIs : Coupling.usable = usable := funext Coupling.usable_eq
  have countedIs : s.counted = inCut := funext s.counted_eq
  have sumIs (pick : Coupling → Bool) : s.handed.usableSum pick = sum pick := by
    simp only [sum, ← usableIs, ← countedIs]
    rfl
  have sums : s.handed.sums = { face := face, long := long, breast := breast, bow := bow } := by
    simp only [State.sums, sumIs, State.bowBarge?_handed]
    rfl
  have limits : s.cycleLimits = _ := s.handed.limits_eq s.handed.sums
  rewrite [sums, State.handed_runningThrust] at limits
  have shown : t.status = TowStatus.computed { s.status with stepWaiting := false }
      { face := face, long := long, breast := breast, bow := bow } _ _ _ := sums ▸ computed.status
  refine ⟨t, t.outputSet, run, ?_, ?_, ?_, computed.fresh, computed.latest, rfl, ?_, rfl, ?_, ?_, ?_, ?_, ?_, ?_, ?_, ?_,
    ?_, ?_, ?_, ?_, ?_, ?_, computed.notices, couplings, barges, tanks, transfers, policy, lockage⟩
  · rewrite [shown]; rfl
  · rewrite [shown]; rfl
  · rewrite [shown]; rfl
  · exact (congrArg TowStatus.stepNumber shown).trans rfl
  · refine List.map_congr_left fun r _ => ?_
    simp [Rudder.carried, Rudder.steers]
  · rewrite [engines, List.map_map]
    exact List.map_congr_left fun e _ => s.engineAfter_live e
  · rewrite [engines, List.map_map]
    exact List.map_congr_left fun e _ => s.engineAfter_number e
  · rewrite [engines]
    exact List.forall_mem_map.mpr fun e _ => s.engineAfter_idle e
  · rewrite [shown]; rfl
  · rewrite [shown]; rfl
  · rewrite [shown]; rfl
  · rewrite [shown]; exact congrArg Limits.ahead limits
  · rewrite [shown]; exact congrArg Limits.astern limits
  · rewrite [shown]; exact congrArg Limits.flank limits
  · rewrite [shown]; exact congrArg Limits.bow limits
  · rewrite [shown]; exact s.mass_eq
  · intro shaft live demand
    have shaftIs : s.coordinated.shaftThrust = shaft := by
      funext n
      have same : t.engine? n = s.coordinated.engine? n := by rewrite [State.engine?, computed.engines]; rfl
      simp only [shaft, same]
      rfl
    have demandIs : s.cycleDemand = demand := by
      rewrite [s.cycleDemand_eq, shaftIs]
      rfl
    have flankIs : t.status.limitFlank = s.cycleLimits.flank := by rewrite [computed.status]; rfl
    rewrite [rudders]
    refine List.map_congr_left fun r _ => ?_
    rewrite [s.rudderAfter_eq, demandIs, ← flankIs]
    rfl
  · have limiting : t.status.limiting = s.coordinated.limited := by rewrite [computed.status]; rfl
    rewrite [limiting, State.limited, ← computed.engines, ← computed.rudders]
    simp [Rudder.steers, and_assoc]

/-! What a read of a store word finds, and what follows in each table (R11, R12). -/

/-! ## A read that fails -/

namespace Txn

/-- R12: a read of a word with two bad bits damages the record, with the consequences that are its own. -/
theorem readRecord_failed {x : Txn} {t : Tbl} {key word : Nat} {h : Header} (found : x.st.header? t key = some h)
    (undamaged : h.damaged = false) (fails : h.check word = .failed) :
    x.readRecord t key [word] = ((x.markDamaged t key).damageFollows t key, false) := by
  have scan : x.scan h [word] = (x, false) := by rw [Txn.scan, fails]
  rewrite [Txn.readRecord, found]
  simp only [undamaged, Bool.false_eq_true, if_false, scan]

theorem read_failed {x : Txn} {t : Tbl} {key word : Nat} {h : Header} (found : x.st.header? t key = some h)
    (undamaged : h.damaged = false) (fails : h.check word = .failed) (other : t ≠ .tanks) :
    x.read t key [word] = ((x.markDamaged t key).damageFollows t key, false) := by
  rewrite [Txn.read, Txn.readRecord_failed found undamaged fails]
  exact if_neg fun tank => other tank.1

/-- R176: a tank found damaged stops the transfers that name it. -/
theorem read_tank_failed {x : Txn} {key word : Nat} {h : Header} (found : x.st.header? .tanks key = some h)
    (undamaged : h.damaged = false) (fails : h.check word = .failed) :
    x.read .tanks key [word] = ((x.markDamaged .tanks key).tankDamaged key, false) := by
  have was : x.st.sound .tanks key = true := by simp [State.sound, found, undamaged]
  have now : (x.markDamaged .tanks key).st.header? .tanks key = some { h with damaged := true } := by
    have marked := State.header?_modHeader x.st .tanks key (fun h => { h with damaged := true }) key
    rewrite [found, Option.map_some, if_pos rfl] at marked
    exact marked
  have gone : (x.markDamaged .tanks key).st.sound .tanks key = false := by simp [State.sound, now]
  rewrite [Txn.read, Txn.readRecord_failed found undamaged fails]
  exact if_pos ⟨rfl, was, by rewrite [Txn.damageFollows, gone]; decide⟩

end Txn

/-! ## Transfers stopped for a damaged tank (R176) -/

namespace Transfer

/-- R176: a transfer that a damaged tank stops. -/
def stopsFor (t : Transfer) (key : Nat) : Bool :=
  (t.source == key || t.destination == key) && !t.header.damaged && t.state == .running

/-- R176: a transfer stopped for a damaged tank. -/
def stoppedForTank (t : Transfer) : Transfer :=
  { t with state := .stopping .tankDamaged, pumpRun := false, quiet := 0 }

theorem enter_tankDamaged {t : Transfer} (running : t.state = .running) :
    t.enter (.stopping .tankDamaged) = t.stoppedForTank := by
  simp [Transfer.enter, Transfer.stoppedForTank, running, TransferState.stopCause?, TransferState.endReason?]

end Transfer

namespace Txn

/-- R176: the work on one transfer that names the tank. -/
def stopForTank (k : Nat) (y : Txn) : Txn :=
  match y.readRecord .transfers k [14] with
  | (z, false) => z
  | (z, true) =>
    match z.st.transfer? k with
    | none => z
    | some t => if t.state = .running then z.enterTransfer k (.stopping .tankDamaged) else z

theorem readRecord_transfer {y : Txn} {t : Transfer} (found : y.st.transfer? t.number = some t)
    (clean : t.header.errorFree = true) : y.readRecord .transfers t.number [14] = (y, !t.header.damaged) := by
  have header : y.st.header? .transfers t.number = some t.header := by simp [State.header?, found]
  rewrite [Txn.readRecord, header]
  dsimp only
  cases undamaged : t.header.damaged with
  | true => rfl
  | false =>
    have scan : y.scan t.header [14] = (y, true) :=
      Txn.scan_clean y t.header [14] fun _ _ _ => by simp [Header.bad_eq_nil clean undamaged]
    rewrite [scan]
    rfl

theorem stopForTank_clean {y : Txn} {t : Transfer} (found : y.st.transfer? t.number = some t)
    (once : (y.st.transfers.map (·.number)).Nodup) (clean : t.header.errorFree = true) :
    Txn.stopForTank t.number y =
      if t.header.damaged = false ∧ t.state = .running then (y.putTransfer t.stoppedForTank).raise .transfer
      else y := by
  rewrite [Txn.stopForTank, Txn.readRecord_transfer found clean]
  cases undamaged : t.header.damaged with
  | true => simp
  | false =>
    simp only [Bool.not_false, found, true_and]
    split
    · next running =>
      have has : y.HasTransfer t := ⟨found, once, Header.bad_eq_nil clean undamaged⟩
      rw [has.enterTransfer (by rewrite [running]; exact TransferState.noConfusion), Transfer.enter_tankDamaged running]
    · rfl

/-- R176: the works on transfers that stand under their numbers, one after the other. -/
theorem forKeys_stopForTank : ∀ (l : List Transfer) (y : Txn), (l.map (·.number)).Nodup →
    (∀ t ∈ l, y.st.transfer? t.number = some t) → (y.st.transfers.map (·.number)).Nodup →
    (∀ t ∈ l, t.header.errorFree = true) →
    let stopped : List Transfer := l.filter fun t => !t.header.damaged && t.state == .running
    y.forKeys (l.map (·.number)) Txn.stopForTank = { y with st := { y.st with
      transfers := update (fun t => decide (t ∈ stopped)) Transfer.stoppedForTank y.st.transfers
      notices := stopped.foldl (fun n _ => n.raise .transfer) y.st.notices } }
  | [], y, _, _, _, _ => by simp [Txn.forKeys, update]
  | t :: l, y, keys, found, once, clean => by
    intro stopped
    obtain ⟨fresh, keys⟩ := List.nodup_cons.mp keys
    have apart : ∀ u ∈ l, u.number ≠ t.number := fun u hu same => fresh (List.mem_map.mpr ⟨u, hu, same⟩)
    have foundHere := found t (by simp)
    have rest := fun z => Txn.forKeys_stopForTank l z keys
    have first : y.forKeys ((t :: l).map (·.number)) Txn.stopForTank =
        (Txn.stopForTank t.number y).forKeys (l.map (·.number)) Txn.stopForTank := rfl
    rewrite [first, Txn.stopForTank_clean foundHere once (clean t (by simp))]
    by_cases stops : t.header.damaged = false ∧ t.state = .running
    · obtain ⟨undamaged, running⟩ := stops
      rewrite [if_pos ⟨undamaged, running⟩]
      have others : ∀ u ∈ l, ((y.putTransfer t.stoppedForTank).raise .transfer).st.transfer? u.number = some u :=
        fun u hu => by
          have kept := find?_update (fun v : Transfer => v.number == t.number) (fun v : Transfer => v.number == u.number)
            (fun v => if v.number = t.number then t.stoppedForTank else v) y.st.transfers fun v => by
              by_cases hv : v.number = t.number
              · simp [hv, Transfer.stoppedForTank]
              · simp [hv]
          have same : update (fun v : Transfer => v.number == t.number)
              (fun v => if v.number = t.number then t.stoppedForTank else v) y.st.transfers =
              update (fun v : Transfer => v.number == t.number) (fun _ => t.stoppedForTank) y.st.transfers :=
            update_congr (key := Transfer.number) fun v _ hv => by simp [hv]
          have here : y.st.transfers.find? (fun v => v.number == u.number) = some u := found u (by simp [hu])
          rewrite [same, here, Option.map_some, if_neg (by simpa using apart u hu)] at kept
          exact kept
      have unique : (((y.putTransfer t.stoppedForTank).raise .transfer).st.transfers.map (·.number)).Nodup := by
        have same : ((y.putTransfer t.stoppedForTank).raise .transfer).st.transfers.map (·.number) =
            y.st.transfers.map (·.number) := map_update_key (key := Transfer.number) y.st.transfers rfl
        rewrite [same]
        exact once
      rewrite [rest _ others unique fun u hu => clean u (by simp [hu])]
      have taken : stopped = t :: l.filter fun t => !t.header.damaged && t.state == .running := by
        simp [stopped, undamaged, running]
      have table : update (fun u => decide (u ∈ l.filter fun t => !t.header.damaged && t.state == .running))
          Transfer.stoppedForTank (update (·.number == t.number) (fun _ => t.stoppedForTank) y.st.transfers) =
          update (fun u => decide (u ∈ stopped)) Transfer.stoppedForTank y.st.transfers := by
        rewrite [taken]
        simp only [update, List.map_map]
        refine List.map_congr_left fun u hu => ?_
        by_cases same : u.number = t.number
        · obtain rfl := eq_of_nodup_key once hu (find?_key (key := Transfer.number) foundHere).2 same
          have absent : u.stoppedForTank ∉ l := fun h => apart _ h rfl
          simp [absent]
        · have other : u ≠ t := fun h => same (by rw [h])
          simp [same, other]
      rewrite [← table, taken]
      rfl
    · rewrite [if_neg stops, rest y (fun u hu => found u (by simp [hu])) once fun u hu => clean u (by simp [hu])]
      have taken : stopped = l.filter fun t => !t.header.damaged && t.state == .running :=
        List.filter_cons_of_neg (by simpa using stops)
      rw [← taken]

/-- R176: a damaged tank stops every undamaged RUNNING transfer that names it, and raises TRANSFER for each. -/
theorem tankDamaged_clean (y : Txn) (key : Nat) (once : (y.st.transfers.map (·.number)).Nodup)
    (clean : ∀ t ∈ y.st.transfers, t.header.errorFree = true) : y.tankDamaged key = { y with st := { y.st with
      transfers := update (·.stopsFor key) Transfer.stoppedForTank y.st.transfers
      notices := (y.st.transfers.filter (·.stopsFor key)).foldl (fun n _ => n.raise .transfer) y.st.notices } } := by
  let named := y.st.transfers.filter fun t => t.source == key || t.destination == key
  have works := Txn.forKeys_stopForTank named y (once.sublist (List.filter_sublist.map _))
    (fun t ht => find?_eq_some_of_nodup once (List.mem_of_mem_filter ht)) once
    fun t ht => clean t (List.mem_of_mem_filter ht)
  have stopped : (named.filter fun t => !t.header.damaged && t.state == .running) =
      y.st.transfers.filter (·.stopsFor key) := by
    rewrite [List.filter_filter]
    exact List.filter_congr fun t _ => by rw [Transfer.stopsFor, Bool.and_comm, Bool.and_assoc]
  rewrite [stopped] at works
  have table : update (fun t => decide (t ∈ y.st.transfers.filter (·.stopsFor key))) Transfer.stoppedForTank
      y.st.transfers = update (·.stopsFor key) Transfer.stoppedForTank y.st.transfers :=
    List.map_congr_left fun t ht => by simp [ht]
  rewrite [← table]
  exact works

end Txn

/-! ## The outcomes of a read -/

/-- Settles O6: a read is decided by the bad bits of its word, and a failing one writes what its table asks for. -/
theorem readsCheckWords : Obligations.ReadsCheckWords := by
  intro x t key word h found undamaged
  refine ⟨fun clean => ?_, fun b one => ?_, fun b c two => ?_⟩
  · exact Txn.read_clean x t key [word] h found undamaged fun w hw b => by
      obtain rfl := List.mem_singleton.mp hw
      exact clean b
  · have corrects : h.check word = .corrected := (h.check_corrected word).mpr (by rewrite [one]; rfl)
    have scan : x.scan h [word] = (x.countCorrected, true) := by rewrite [Txn.scan, corrects]; rfl
    have reads : x.readRecord t key [word] = (x.countCorrected, true) := by
      rewrite [Txn.readRecord, found]
      simp only [undamaged, Bool.false_eq_true, if_false, scan]
    rewrite [Txn.read, reads]
    rfl
  · intro noted hurt rewritten
    have fails : h.check word = .failed := (h.check_failed word).mpr (by rewrite [two]; simp)
    refine ⟨?_, ?_, ?_, ?_, ?_, ?_⟩
    · rintro rfl
      exact Txn.read_failed found undamaged fails Tbl.noConfusion
    · rintro c rfl here
      have marked : (x.markDamaged .couplings key).st.coupling? key = some { c with header := hurt c.header } := by
        have look := find?_update (fun d : Coupling => d.number == key) (fun d => d.number == key)
          (fun d => { d with header := hurt d.header }) x.st.couplings fun _ => rfl
        have at_ : x.st.couplings.find? (fun d => d.number == key) = some c := here
        obtain ⟨number, -⟩ := find?_key (key := Coupling.number) at_
        rewrite [at_, Option.map_some, if_pos (by simpa using number)] at look
        exact look
      rewrite [Txn.read_failed found undamaged fails Tbl.noConfusion, Txn.damageFollows, Txn.couplingDamaged, marked]
      have table := (update_update (·.number == key) (fun r : Coupling => { r with header := hurt r.header })
        (fun r => Coupling.renew { r with debounce := none, slackTimer := none, dropSeen := false } []) x.st.couplings
        fun _ => rfl).trans (update_congr (key := Coupling.number) (g := fun r => { r with
          debounce := none, slackTimer := none, dropSeen := false, header := hurt r.header }) fun r _ _ => by
            simp [Coupling.renew, Header.renew])
      rewrite [← table]
      dsimp only
      rewrite [Txn.placeFor_spec]
      rfl
    · rintro rfl
      rewrite [Txn.read_failed found undamaged fails Tbl.noConfusion]
      have table := update_update (·.number == key) (fun r : Engine => { r with header := hurt r.header })
        (fun r => Engine.renew { r with allowed := 0, sent := 0 } [11, 12]) x.st.engines fun _ => rfl
      exact congrArg (fun l => ({ x with st := { noted with engines := l } }, false)) table
    · rintro rfl
      rewrite [Txn.read_failed found undamaged fails Tbl.noConfusion]
      have table := update_update (·.channel == key) (fun r : Rudder => { r with header := hurt r.header })
        (fun r => Rudder.renew { r with allowed := 0, sent := 0 } [10, 11]) x.st.rudders fun _ => rfl
      exact congrArg (fun l => ({ x with st := { noted with rudders := l } }, false)) table
    · rintro rfl law clean stops
      obtain ⟨-, -, -, -, -, once, -⟩ := (State.recordLaw_iff _).mp law
      rewrite [Txn.read_tank_failed found undamaged fails]
      refine congrArg (·, false) ((Txn.tankDamaged_clean (x.markDamaged .tanks key) key once clean).trans ?_)
      rfl
    · rintro rfl
      rewrite [Txn.read_failed found undamaged fails Tbl.noConfusion]
      have table := (update_update (·.number == key) (fun r : Transfer => { r with header := hurt r.header })
        (fun r => Transfer.renew { r with pumpRun := false } []) x.st.transfers
        fun _ => rfl).trans (update_congr (key := Transfer.number)
          (g := fun r => { r with pumpRun := false, header := hurt r.header }) fun r _ _ => by
            simp [Transfer.renew, Header.renew])
      exact congrArg (fun l => ({ x with st := { noted with transfers := l } }, false)) table

/-! Statements of the tow line that two couplings of one number refute: a write of a coupling renews the words it writes
in every record of its number, a damaged one included, and no premise of these statements asks that numbers be unique. -/

/-- A coupling of winch 1 of barge 101. -/
def servedCoupling : Coupling :=
  { number := 1, kind := .face, endA := .boat, endB := 101, tending := .winch (.barge 101) 1, rated := 400,
    tendOrder := .none, declaredMade := false, state := .made, tension := none, seated := none, winchFault := false,
    crossing := false, header := Header.fresh, debounce := none, slackTimer := none, dropSeen := false }

/-- A damaged HAND coupling of the same number, with two bad bits in the word of a field. -/
def strickenTwin (word : Nat) : Coupling :=
  { servedCoupling with tending := .hand, header := { damaged := true, bad := [(word, 0), (word, 1)] } }

/-- The coupling and its twin, with the node of barge 101 listed and the tow line granted in a phase. -/
def twinned (word : Nat) (phase : TowPhase) (faults : List OwedFault) : State :=
  { State.reset with
    barges := [{ hull := 101, string := 1, node := some 20, laden := 1500, draft := 300, bowFitted := false,
                 header := Header.fresh }]
    strings := [1, 1, 1, 1, 1, 1]
    couplings := [servedCoupling, strickenTwin word]
    tow := { TowLine.initial with nodes := [newNode 20 false 1], phase := phase, faults := faults }
    arbiter := { Arbiter.initial with towLine := true } }

/-- The couplings that a command leaves. -/
def couplingsAfter : Host.Outcome State Fault Refusal → List Coupling
  | .next t => t.couplings
  | .fault _ => []
  | .refused _ => []

/-- Refutes O38: the winch fault transaction renews the word of the flag in the damaged twin too. -/
theorem not_winchFaultsFollowDeliveries : ¬ Obligations.WinchFaultsFollowDeliveries := by
  intro h
  have claim := (h (twinned 14 .faulting [{ member := .barge 101, winch := 1 }]) (.barge 101) 1 servedCoupling rfl
    (by decide) rfl (by decide) (by decide) rfl).2 rfl rfl
  exact absurd (congrArg couplingsAfter claim) (by decide)

/-- Refutes O41: the drop transaction renews the words of the readings in the damaged twin too. -/
theorem not_dropLosesTheCoupling : ¬ Obligations.DropLosesTheCoupling := by
  intro h
  have claim := h (twinned 12 (.dropping 20) []) 20 (newNode 20 false 1) (.barge 101) servedCoupling rfl rfl
    (by decide) (by decide) (by decide) (by decide) rfl (by decide) (by decide) rfl (by decide) (by decide)
  exact absurd (congrArg couplingsAfter claim) (by decide)

/-! The machinery posting of one result, over a store without errors (R102 to R109). -/

/-! ## Changes of a context -/

namespace Txn

theorem modContext_modContext (x : Txn) (a : Nat) {f : Context → Context} (hf : ∀ c, (f c).address = c.address)
    (g : Context → Context) : (x.modContext a f).modContext a g = x.modContext a fun c => g (f c) :=
  congrArg (fun l => x.on fun s => { s with link := { s.link with contexts := l } })
    (update_update (·.address == a) f g x.st.link.contexts fun c => by rw [hf])

/-- R109: the mirrored state is written into the engine or the channel of the key. -/
theorem mirror_eq (x : Txn) (kind : StationKind) (k : Nat) (state : ContextState) :
    x.mirror kind k state = x.on fun s => { s with
      engines := if kind = .engine then update (·.number == k) (·.inState state.mirrored) s.engines else s.engines
      rudders := if kind = .rudder then update (·.channel == k) (·.inState state.mirrored) s.rudders else s.rudders } := by
  cases kind <;> rfl

end Txn

section
variable {x : Txn} {c : Context} {new : ContextState}

namespace Txn

theorem enterContext_mirrors (found : x.st.context? c.address = some c) (outside : c.state ≠ .exchange)
    (moves : c.state ≠ new) : x.enterContext c.address new =
      (x.modContext c.address fun d => { d with state := new }).mirror c.kind c.key new := by
  rewrite [Txn.enterContext, found]
  simp only [outside, false_and, if_false, moves]

theorem enterContext_leaves (found : x.st.context? c.address = some c) (inside : c.state = .exchange)
    (leaves : new ≠ .exchange) : x.enterContext c.address new =
      ((x.modContext c.address fun d => { d with state := new }).leaveExchange c).mirror c.kind c.key new := by
  have moves : c.state ≠ new := inside ▸ leaves.symm
  rewrite [Txn.enterContext, found]
  simp only [inside, leaves, ne_eq, not_false_eq_true, and_self, if_true]
  exact if_neg (inside ▸ moves)

end Txn

end

theorem Header.renew_renew (h : Header) (ws vs : List Nat) : (h.renew ws).renew vs = h.renew (ws ++ vs) := by
  simp only [Header.renew, List.filter_filter]
  congr 1
  refine List.filter_congr fun p _ => ?_
  simp [List.contains_eq_mem, Bool.and_comm]

/-! ## The posting of one result -/

/-- R102: the machinery posting at its grant, with its results taken. -/
def State.resultsTaken (s : State) : Txn :=
  (Txn.start (s.take .machinery)).on fun s => s.modLink fun l => { l with results := [] }

section
variable {s : State} {r : SlotResult}

theorem exec_machineryPosting {y : Txn} {new : List Reading} (granted : s.granted .machinery = true)
    (one : s.link.results = [r]) (applied : s.resultsTaken.applyResult r = (y, new)) (ht : y.touched = false)
    (hc : y.commands = []) (hb : y.st.barges = s.barges) (hp : y.st.policy = s.policy) :
    exec .machineryPosting s = .next (settle { y.st with readings := joinReadings y.st.readings new }) := by
  have e : exec .machineryPosting s = .next (s.transact .machinery Txn.postResults) := rfl
  have all : s.resultsTaken.applyResults [r] = (y, new) := by
    rewrite [Txn.applyResults, applied]
    simp [Txn.applyResults]
  have work : Txn.postResults (Txn.start (s.take .machinery)) =
      y.on fun s => { s with readings := joinReadings s.readings new } := by
    have results : (Txn.start (s.take .machinery)).st.link.results = [r] := one
    rewrite [Txn.postResults, results]
    exact congrArg (fun a : Txn × List Reading => a.1.on fun s => { s with readings := joinReadings s.readings a.2 }) all
  rewrite [e, State.transact_quiet s .machinery _ granted _ work ht hc hb hp]
  rfl

/-- R102: a result without a reading. -/
theorem exec_posts_nothing {y : Txn} {t : State} (granted : s.granted .machinery = true) (one : s.link.results = [r])
    (applied : s.resultsTaken.applyResult r = (y, [])) (state : y = Txn.start { t with arbiter := s.arbiter.grant .machinery })
    (hb : t.barges = s.barges) (hp : t.policy = s.policy) :
    exec .machineryPosting s = .next (s.ended .machinery t) := by
  subst state
  rewrite [exec_machineryPosting granted one applied rfl rfl hb hp]
  have same : joinReadings t.readings [] = t.readings := by simp [joinReadings]
  exact congrArg (fun l => Host.Outcome.next (settle { t with arbiter := s.arbiter.grant .machinery, readings := l })) same

end

/-! ## Leaving EXCHANGE (R109) -/

theorem Engine.stopped_offline (e : Engine) :
    Engine.renew { Engine.renew { e with allowed := 0, sent := 0, delivered := none, alarm := false, zeroTime := 0 }
      [11, 12, 13, 14, 17] with state := .offline } [15] = e.stopped .offline := by
  simp only [Engine.stopped, Engine.renew, Header.renew_renew]
  congr 1
  simp only [Header.renew]
  congr 1
  refine List.filter_congr fun p _ => ?_
  simp [List.contains_eq_mem, Bool.and_comm (!decide (p.1 = 15))]

theorem Rudder.stopped_offline (r : Rudder) :
    Rudder.renew { Rudder.renew { r with allowed := 0, sent := 0, feedback := none } [10, 11, 12] with
      state := .offline } [13] =
      Rudder.renew { r with allowed := 0, sent := 0, feedback := none, state := .offline } [10, 11, 12, 13] := by
  simp only [Rudder.renew, Header.renew_renew]
  rfl

section
variable {x : Txn} {c : Context}

/-- R108: the third miss in a row, by what leaving EXCHANGE leads to. -/
theorem Txn.inputMissed_third {y : Txn} (found : x.st.context? c.address = some c) (inside : c.state = .exchange)
    (third : 2 ≤ c.misses)
    (left : (x.modContext c.address fun d => { d with state := .offline }).leaveExchange c = y) :
    x.inputMissed c = (((y.mirror c.kind c.key .offline).modContext c.address fun d =>
      { d with misses := 0 }).raise .station) := by
  have leaves := Txn.enterContext_leaves (new := .offline) found inside ContextState.noConfusion
  rewrite [left] at leaves
  rw [Txn.inputMissed, if_neg (by omega), leaves]

end

namespace State

theorem errorFree_congr {s t : State} (barges : s.barges = t.barges) (couplings : s.couplings = t.couplings)
    (engines : s.engines = t.engines) (rudders : s.rudders = t.rudders) (tanks : s.tanks = t.tanks)
    (transfers : s.transfers = t.transfers) : s.errorFree = t.errorFree := by
  simp only [State.errorFree, barges, couplings, engines, rudders, tanks, transfers]

theorem recordLaw_congr {s t : State} (barges : s.barges = t.barges) (couplings : s.couplings = t.couplings)
    (engines : s.engines = t.engines) (rudders : s.rudders = t.rudders) (tanks : s.tanks = t.tanks)
    (transfers : s.transfers = t.transfers) : s.recordLaw = t.recordLaw := by
  simp only [State.recordLaw, barges, couplings, engines, rudders, tanks, transfers]

end State

/-- R175: the pump of a transfer is lost. -/
def Transfer.pumpLost (t : Transfer) : Transfer :=
  if t.state.inFlight then { t with
    state := if t.pendingAbort then .ended .aborted else .held .pumpLost
    pumpRun := false
    mark := t.mark.map fun _ => (t.totalMoved / (t.interval * 1000) + 1) * (t.interval * 1000)
    gapRequest := t.gapRequest && !t.pendingAbort, pendingAbort := false }
  else t

namespace Txn.HasTransfer

theorem moveMark {x : Txn} {t : Transfer} (h : x.HasTransfer t) :
    x.moveMark t.number = x.putTransfer t.moveMark := by
  have mark : (x.st.transfer? t.number).bind (·.mark) = t.mark := by rewrite [h.found]; rfl
  rewrite [Txn.moveMark, mark]
  cases m : t.mark with
  | none =>
    have same : t.moveMark = t := by
      cases t
      cases m
      rfl
    have stands : update (·.number == t.number) (fun _ => t) x.st.transfers = x.st.transfers :=
      put_self (key := Transfer.number) h.once h.found
    rw [same, Txn.putTransfer, Txn.on, stands]
  | some _ => exact h.modTransfer (f := Transfer.moveMark) rfl rfl _

theorem pumpLost {x : Txn} {t : Transfer} (h : x.HasTransfer t) (free : x.st.errorFree = true)
    (undamaged : t.header.damaged = false) : x.pumpLost t.number =
      if t.state.inFlight then (x.putTransfer t.pumpLost).raise .transfer else x := by
  have sound : x.st.sound .transfers t.number = true := by simp [State.sound, State.header?, h.found, undamaged]
  rewrite [Txn.pumpLost, Txn.read_of_sound free sound]
  dsimp only
  rewrite [h.found]
  dsimp only
  cases flight : t.state.inFlight with
  | false => simp
  | true =>
    rewrite [if_pos rfl, if_pos rfl, Txn.read_of_sound free sound]
    dsimp only
    have marked : (x.putTransfer t.moveMark).HasTransfer t.moveMark := h.put rfl h.clean
    have moves : t.moveMark.state ≠ if t.pendingAbort then .ended .aborted else .held .pumpLost := by
      intro same
      have state : t.moveMark.state = t.state := rfl
      rewrite [state] at same
      rewrite [same] at flight
      revert flight
      split <;> exact Bool.noConfusion
    have entered : t.moveMark.enter (if t.pendingAbort then .ended .aborted else .held .pumpLost) = t.pumpLost := by
      cases abort : t.pendingAbort <;>
        simp [Transfer.enter, Transfer.pumpLost, Transfer.moveMark, flight, abort, TransferState.stopCause?,
          TransferState.endReason?]
    rewrite [h.moveMark]
    refine (marked.enterTransfer moves).trans ?_
    have number : t.pumpLost.number = t.moveMark.number := by simp [Transfer.pumpLost, flight, Transfer.moveMark]
    rw [entered, Txn.putTransfer_put number]

end Txn.HasTransfer

section
variable {x : Txn} {c : Context} (found : x.st.context? c.address = some c) (inside : c.state = .exchange)
  (third : 2 ≤ c.misses)
include found inside third

namespace Txn

theorem inputMissed_engine (kind : c.kind = .engine) : x.inputMissed c = ((x.modContext c.address fun d =>
    { d with state := .offline, misses := 0 }).on fun s => { s with
      engines := update (·.number == c.key) (·.stopped .offline) s.engines }).raise .station := by
  have left : (x.modContext c.address fun d => { d with state := .offline }).leaveExchange c =
      (x.engineLeavesRunning c.key).modContext c.address fun d => { d with state := .offline } := by
    rewrite [Txn.leaveExchange, kind]
    rfl
  have engines : (x.engineLeavesRunning c.key).modEngine c.key [15] (fun e => { e with state := .offline }) =
      x.on fun s => { s with engines := update (·.number == c.key) (·.stopped .offline) s.engines } := by
    simp only [← Engine.stopped_offline]
    exact congrArg (fun l => x.on fun s => { s with engines := l })
      (update_update (·.number == c.key) _ _ x.st.engines (by intro _; rfl))
  have mirrored : (((x.engineLeavesRunning c.key).modContext c.address fun d => { d with state := .offline }).mirror
      .engine c.key .offline) = ((x.engineLeavesRunning c.key).modEngine c.key [15] fun e =>
        { e with state := .offline }).modContext c.address fun d => { d with state := .offline } := rfl
  rewrite [Txn.inputMissed_third found inside third left, kind, mirrored, engines,
    Txn.modContext_modContext _ _ (by intro _; rfl)]
  rfl

theorem inputMissed_rudder (kind : c.kind = .rudder) : x.inputMissed c = ((x.modContext c.address fun d =>
    { d with state := .offline, misses := 0 }).on fun s => { s with
      rudders := update (·.channel == c.key) (fun r => Rudder.renew
        { r with allowed := 0, sent := 0, feedback := none, state := .offline } [10, 11, 12, 13]) s.rudders }).raise
      .station := by
  let leaves : Txn := x.modRudder c.key [10, 11, 12] fun r => { r with allowed := 0, sent := 0, feedback := none }
  have left : (x.modContext c.address fun d => { d with state := .offline }).leaveExchange c =
      leaves.modContext c.address fun d => { d with state := .offline } := by
    rewrite [Txn.leaveExchange, kind]
    rfl
  have rudders : leaves.modRudder c.key [13] (fun r => { r with state := .offline }) =
      x.on fun s => { s with rudders := update (·.channel == c.key) (fun r => Rudder.renew
        { r with allowed := 0, sent := 0, feedback := none, state := .offline } [10, 11, 12, 13]) s.rudders } := by
    simp only [← Rudder.stopped_offline]
    exact congrArg (fun l => x.on fun s => { s with rudders := l })
      (update_update (·.channel == c.key) _ _ x.st.rudders (by intro _; rfl))
  have mirrored : ((leaves.modContext c.address fun d => { d with state := .offline }).mirror .rudder c.key .offline) =
      (leaves.modRudder c.key [13] fun r => { r with state := .offline }).modContext c.address fun d =>
        { d with state := .offline } := rfl
  rewrite [Txn.inputMissed_third found inside third left, kind, mirrored, rudders,
    Txn.modContext_modContext _ _ (by intro _; rfl)]
  rfl

theorem inputMissed_gauge (kind : c.kind = .gauge) : x.inputMissed c = ((x.modContext c.address fun d =>
    { d with state := .offline, misses := 0 }).modTank c.key [15] fun t => { t with gauged := none }).raise
      .station := by
  have left : (x.modContext c.address fun d => { d with state := .offline }).leaveExchange c =
      (x.modTank c.key [15] fun t => { t with gauged := none }).modContext c.address fun d =>
        { d with state := .offline } := by
    rewrite [Txn.leaveExchange, kind]
    rfl
  rewrite [Txn.inputMissed_third found inside third left, kind, Txn.mirror, Txn.modContext_modContext _ _ (by intro _; rfl)]
  rfl

/-- R109: the baseline, the last temperature and the readings of a context go. -/
def unmetered (x : Txn) (a : Nat) : Txn :=
  (x.modContext a fun d => { d with state := .offline, baseline := none, lastTemperature := none }).withdraw a

theorem inputMissed_meter (kind : c.kind = .meter) : x.inputMissed c = ((x.modContext c.address fun d =>
    { d with state := .offline, misses := 0, baseline := none, lastTemperature := none }).withdraw c.address).raise
      .station := by
  have left : (x.modContext c.address fun d => { d with state := .offline }).leaveExchange c =
      (x.withdraw c.address).modContext c.address fun d =>
        { d with state := .offline, baseline := none, lastTemperature := none } := by
    rewrite [Txn.leaveExchange, kind]
    dsimp only
    rewrite [Txn.modContext_modContext _ _ (by intro _; rfl)]
    rfl
  rewrite [Txn.inputMissed_third found inside third left, kind, Txn.mirror, Txn.modContext_modContext _ _ (by intro _; rfl)]
  rfl

theorem inputMissed_pump {t : Transfer} (kind : c.kind = .pump) (has : (x.unmetered c.address).HasTransfer t)
    (free : x.st.errorFree = true) (undamaged : t.header.damaged = false) (number : t.number = c.key) :
    x.inputMissed c =
      let gone : Txn := (x.modContext c.address fun d =>
        { d with state := .offline, misses := 0, baseline := none, lastTemperature := none }).withdraw c.address
      if t.state.inFlight then ((gone.on fun s => { s with
        transfers := update (·.number == t.number) (fun _ => t.pumpLost) s.transfers }).raise .transfer).raise .station
      else gone.raise .station := by
  have pump := has.pumpLost free undamaged
  have left : (x.modContext c.address fun d => { d with state := .offline }).leaveExchange c =
      (x.unmetered c.address).pumpLost t.number := by
    rewrite [Txn.leaveExchange, kind, number]
    dsimp only
    rewrite [Txn.modContext_modContext _ _ (by intro _; rfl)]
    rfl
  rewrite [pump] at left
  have twice := Txn.modContext_modContext (x.withdraw c.address) c.address
    (f := fun d => { d with state := .offline, baseline := none, lastTemperature := none }) (by intro _; rfl)
    fun d => { d with misses := 0 }
  rewrite [Txn.inputMissed_third found inside third left, kind, Txn.mirror]
  cases flight : t.state.inFlight with
  | false => exact congrArg (·.raise .station) twice
  | true =>
    have same : t.pumpLost.number = t.number := by simp [Transfer.pumpLost, flight]
    rewrite [if_pos rfl, Txn.putTransfer, same]
    exact congrArg (fun y : Txn => ((y.on fun s => { s with
      transfers := update (·.number == t.number) (fun _ => t.pumpLost) s.transfers }).raise .transfer).raise .station)
      twice

end Txn

end

section
variable {s : State} {c : Context} {outcome : SlotOutcome} (granted : s.granted .machinery = true)
  (found : s.context? c.address = some c)
  (one : s.link.results = [{ address := c.address, held := c.state, outcome, stale := false }])
include granted found one

theorem posts_outcome {y : Txn} {t : State} (work : s.resultsTaken.applyOutcome c outcome = (y, []))
    (state : y = Txn.start { t with arbiter := s.arbiter.grant .machinery }) (hb : t.barges = s.barges)
    (hp : t.policy = s.policy) : exec .machineryPosting s = .next (s.ended .machinery t) := by
  have applied : s.resultsTaken.applyResult { address := c.address, held := c.state, outcome, stale := false } =
      s.resultsTaken.applyOutcome c outcome := by
    have here : s.resultsTaken.st.context? c.address = some c := found
    rewrite [Txn.applyResult, here]
    exact if_pos ⟨rfl, rfl⟩
  exact exec_posts_nothing granted one (applied.trans work) state hb hp

end

section
variable {s : State} {c : Context} (granted : s.granted .machinery = true) (found : s.context? c.address = some c)
  (one : s.link.results = [{ address := c.address, held := c.state, outcome := .miss, stale := false }])
  (inside : c.state = .exchange)
include granted found one inside

theorem posts_third_miss {y : Txn} {t : State} (third : s.resultsTaken.inputMissed c = y)
    (state : y = Txn.start { t with arbiter := s.arbiter.grant .machinery }) (hb : t.barges = s.barges)
    (hp : t.policy = s.policy) : exec .machineryPosting s = .next (s.ended .machinery t) :=
  posts_outcome granted found one (by rw [Txn.applyOutcome, if_pos inside, third]) state hb hp

namespace State

/-- R109: the state after the third miss of a context, before the consequences of its kind. -/
def contextLost (s : State) (c : Context) : State := { s with
  link := { s.link with results := [], contexts := update (·.address == c.address) (fun d =>
    { d with state := .offline, misses := 0 }) s.link.contexts }
  notices := s.notices.raise .station }

/-- R109: the state after the third miss of a context that reads pulses. -/
def pulsesLost (s : State) (c : Context) : State := { s with
  link := { s.link with results := [], contexts := update (·.address == c.address) (fun d =>
    { d with state := .offline, misses := 0, baseline := none, lastTemperature := none }) s.link.contexts }
  readings := s.readings.filter (·.address != c.address), notices := s.notices.raise .station }

end State

theorem posts_lost_engine (many : 2 ≤ c.misses) (kind : c.kind = .engine) :
    exec .machineryPosting s = .next (s.ended .machinery { s.contextLost c with
      engines := update (·.number == c.key) (·.stopped .offline) s.engines }) := by
  have third := Txn.inputMissed_engine (x := s.resultsTaken) found inside many kind
  refine posts_third_miss granted found one inside third ?_ ?_ ?_ <;> rfl

theorem posts_lost_rudder (many : 2 ≤ c.misses) (kind : c.kind = .rudder) :
    exec .machineryPosting s = .next (s.ended .machinery { s.contextLost c with
      rudders := update (·.channel == c.key) (fun r => Rudder.renew
        { r with allowed := 0, sent := 0, feedback := none, state := .offline } [10, 11, 12, 13]) s.rudders }) := by
  have third := Txn.inputMissed_rudder (x := s.resultsTaken) found inside many kind
  refine posts_third_miss granted found one inside third ?_ ?_ ?_ <;> rfl

theorem posts_lost_gauge (many : 2 ≤ c.misses) (kind : c.kind = .gauge) :
    exec .machineryPosting s = .next (s.ended .machinery { s.contextLost c with
      tanks := update (·.number == c.key) (fun k => Tank.renew { k with gauged := none } [15]) s.tanks }) := by
  have third := Txn.inputMissed_gauge (x := s.resultsTaken) found inside many kind
  refine posts_third_miss granted found one inside third ?_ ?_ ?_ <;> rfl

theorem posts_lost_meter (many : 2 ≤ c.misses) (kind : c.kind = .meter) :
    exec .machineryPosting s = .next (s.ended .machinery (s.pulsesLost c)) := by
  have third := Txn.inputMissed_meter (x := s.resultsTaken) found inside many kind
  refine posts_third_miss granted found one inside third ?_ ?_ ?_ <;> rfl

section
variable {t : Transfer} (free : s.errorFree = true) (law : s.recordLaw = true) (many : 2 ≤ c.misses)
  (kind : c.kind = .pump) (served : s.transfer? c.key = some t) (undamaged : t.header.damaged = false)
include free law many kind served undamaged

omit granted one in
theorem inputMissed_lostPump : s.resultsTaken.inputMissed c =
      let gone : Txn := (s.resultsTaken.modContext c.address fun d =>
        { d with state := .offline, misses := 0, baseline := none, lastTemperature := none }).withdraw c.address
      if t.state.inFlight then ((gone.on fun s => { s with
        transfers := update (·.number == t.number) (fun _ => t.pumpLost) s.transfers }).raise .transfer).raise .station
      else gone.raise .station := by
  obtain ⟨number, -⟩ := find?_key (key := Transfer.number) served
  have has : (s.resultsTaken.unmetered c.address).HasTransfer t := Txn.hasTransfer_of_law
    ((State.errorFree_congr rfl rfl rfl rfl rfl rfl).trans free)
    ((State.recordLaw_congr rfl rfl rfl rfl rfl rfl).trans law) (by rewrite [number]; exact served) undamaged
  exact Txn.inputMissed_pump (x := s.resultsTaken) found inside many kind has
    ((State.errorFree_congr rfl rfl rfl rfl rfl rfl).trans free) undamaged number

/-- R175: the third miss of a pump. -/
theorem posts_lost_pump : exec .machineryPosting s = .next (s.ended .machinery
    (if t.state.inFlight then { s.pulsesLost c with
      transfers := update (·.number == c.key) (fun _ => { t with
        state := if t.pendingAbort then .ended .aborted else .held .pumpLost
        pumpRun := false
        mark := t.mark.map fun _ => (t.totalMoved / (t.interval * 1000) + 1) * (t.interval * 1000)
        gapRequest := t.gapRequest && !t.pendingAbort, pendingAbort := false }) s.transfers
      notices := (s.notices.raise .transfer).raise .station }
    else s.pulsesLost c)) := by
  have third := inputMissed_lostPump found inside free law many kind served undamaged
  obtain ⟨number, -⟩ := find?_key (key := Transfer.number) served
  split
  · next flight =>
    have after : t.pumpLost = _ := if_pos flight
    rewrite [after] at third
    rewrite [← number]
    refine posts_third_miss granted found one inside (third.trans (if_pos flight)) ?_ rfl rfl
    simp only [Txn.raise, Txn.withdraw, Txn.modContext, State.resultsTaken, Txn.on, Txn.start, State.modLink, State.take,
      State.raise, State.pulsesLost]
  · next rest =>
    refine posts_third_miss granted found one inside (third.trans (if_neg rest)) ?_ rfl rfl
    simp only [Txn.raise, Txn.withdraw, Txn.modContext, State.resultsTaken, Txn.on, Txn.start, State.modLink, State.take,
      State.raise, State.pulsesLost]

end

end

/-! ## Values of a good INPUT -/

section
variable {x : Txn} {k : Nat} (free : x.st.errorFree = true) (law : x.st.recordLaw = true)
include free law

namespace Txn

theorem writeInput_engine {d : Int} {alarm : Bool} {e : Engine} (found : x.st.engine? k = some e) :
    x.writeInput k (.engine d alarm) = if e.header.damaged then x else (x.on fun s => { s with
      engines := update (·.number == k) (fun _ => { e with delivered := some d, alarm := alarm }) s.engines }).raiseIf
      (alarm && !e.alarm) .station := by
  obtain ⟨-, -, once, -⟩ := (State.recordLaw_iff _).mp law
  obtain ⟨number, mem⟩ := find?_key (key := Engine.number) found
  obtain ⟨-, -, engines, -⟩ := x.st.errorFree_iff.mp free
  have sound : x.st.sound .engines k = !e.header.damaged := by simp [State.sound, State.header?, found]
  rewrite [Txn.writeInput, Txn.read_errorFree x free, sound]
  cases undamaged : e.header.damaged with
  | true => rfl
  | false =>
    have written : update (·.number == k) (fun r => Engine.renew { r with delivered := some d, alarm := alarm } [13, 14])
        x.st.engines = update (·.number == k) (fun _ => { e with delivered := some d, alarm := alarm }) x.st.engines :=
      update_congr (key := Engine.number) fun r hr same => by
        rewrite [eq_of_nodup_key once hr mem (same.trans number.symm)]
        exact Engine.renew_clean _ _ (Header.bad_eq_nil (engines e mem) undamaged)
    simp only [Bool.not_false, found, Bool.false_eq_true, if_false]
    rewrite [Txn.modEngine, Txn.on, written]
    rfl

theorem writeInput_rudder {f : Int} {r : Rudder} (found : x.st.rudder? k = some r) :
    x.writeInput k (.rudder f) = if r.header.damaged then x else x.on fun s => { s with
      rudders := update (·.channel == k) (fun _ => { r with feedback := some f }) s.rudders } := by
  obtain ⟨-, -, -, once, -⟩ := (State.recordLaw_iff _).mp law
  obtain ⟨channel, mem⟩ := find?_key (key := Rudder.channel) found
  obtain ⟨-, -, -, rudders, -⟩ := x.st.errorFree_iff.mp free
  have sound : x.st.sound .rudders k = !r.header.damaged := by simp [State.sound, State.header?, found]
  rewrite [Txn.writeInput, sound]
  cases undamaged : r.header.damaged with
  | true => rfl
  | false =>
    have written : update (·.channel == k) (fun d => Rudder.renew { d with feedback := some f } [12]) x.st.rudders =
        update (·.channel == k) (fun _ => { r with feedback := some f }) x.st.rudders :=
      update_congr (key := Rudder.channel) fun d hd same => by
        rewrite [eq_of_nodup_key once hd mem (same.trans channel.symm)]
        exact Rudder.renew_clean _ _ (Header.bad_eq_nil (rudders r mem) undamaged)
    simp only [Bool.not_false, if_true, Bool.false_eq_true, if_false]
    rewrite [Txn.modRudder, Txn.on, written]
    rfl

theorem writeInput_gauge {l : Nat} {t : Tank} (found : x.st.tank? k = some t) :
    x.writeInput k (.gauge l) = if t.header.damaged then x else x.on fun s => { s with
      tanks := update (·.number == k) (fun _ => { t with gauged := some l }) s.tanks } := by
  obtain ⟨-, -, -, -, once, -⟩ := (State.recordLaw_iff _).mp law
  obtain ⟨number, mem⟩ := find?_key (key := Tank.number) found
  obtain ⟨-, -, -, -, tanks, -⟩ := x.st.errorFree_iff.mp free
  have sound : x.st.sound .tanks k = !t.header.damaged := by simp [State.sound, State.header?, found]
  rewrite [Txn.writeInput, sound]
  cases undamaged : t.header.damaged with
  | true => rfl
  | false =>
    have written : update (·.number == k) (fun d => Tank.renew { d with gauged := some l } [15]) x.st.tanks =
        update (·.number == k) (fun _ => { t with gauged := some l }) x.st.tanks :=
      update_congr (key := Tank.number) fun d hd same => by
        rewrite [eq_of_nodup_key once hd mem (same.trans number.symm)]
        exact Tank.renew_clean _ _ (Header.bad_eq_nil (tanks t mem) undamaged)
    simp only [Bool.not_false, if_true, Bool.false_eq_true, if_false]
    rewrite [Txn.modTank, Txn.on, written]
    rfl

end Txn

end

section
variable {s : State} {c : Context} {values : InputValues} (granted : s.granted .machinery = true)
  (found : s.context? c.address = some c)
  (one : s.link.results = [{ address := c.address, held := c.state, outcome := .input values, stale := false }])
include granted found one

/-- R102, R107: the machinery posting of an INPUT, with the misses cleared. -/
theorem posts_input {t : State} (work : (s.resultsTaken.modContext c.address fun d =>
      { d with misses := 0 }).writeInput c.key values = Txn.start { t with arbiter := s.arbiter.grant .machinery })
    (hb : t.barges = s.barges) (hp : t.policy = s.policy) : exec .machineryPosting s = .next (s.ended .machinery { t with
      readings := joinReadings t.readings (values.reading c.address) }) := by
  have applied : s.resultsTaken.applyResult
      { address := c.address, held := c.state, outcome := .input values, stale := false } =
      (Txn.start { t with arbiter := s.arbiter.grant .machinery }, values.reading c.address) := by
    have here : s.resultsTaken.st.context? c.address = some c := found
    rewrite [Txn.applyResult, here]
    refine (if_pos ⟨rfl, rfl⟩).trans ?_
    rw [Txn.applyOutcome, work]
  refine (exec_machineryPosting granted one applied ?_ ?_ hb hp).trans ?_ <;> rfl

/-- R107: an INPUT without a reading. -/
theorem posts_values {t : State} (work : (s.resultsTaken.modContext c.address fun d =>
      { d with misses := 0 }).writeInput c.key values = Txn.start { t with arbiter := s.arbiter.grant .machinery })
    (hb : t.barges = s.barges) (hp : t.policy = s.policy) (none : values.reading c.address = []) :
    exec .machineryPosting s = .next (s.ended .machinery t) := by
  have posted := posts_input granted found one work hb hp
  rewrite [none] at posted
  have same : joinReadings t.readings [] = t.readings := by simp [joinReadings]
  rwa [same] at posted

/-- R107: the state after a good INPUT, before its values are written. -/
def State.missesCleared (s : State) (c : Context) : State := { s with
  link := { s.link with results := [], contexts := update (·.address == c.address) (fun d =>
    { d with misses := 0 }) s.link.contexts } }

omit granted found one in
theorem State.resultsTaken_keeps (free : s.errorFree = true) (law : s.recordLaw = true) :
    (s.resultsTaken.modContext c.address fun d => { d with misses := 0 }).st.errorFree = true ∧
      (s.resultsTaken.modContext c.address fun d => { d with misses := 0 }).st.recordLaw = true :=
  ⟨(State.errorFree_congr rfl rfl rfl rfl rfl rfl).trans free, (State.recordLaw_congr rfl rfl rfl rfl rfl rfl).trans law⟩

/-- R107, R154: an INPUT with a reading. -/
theorem posts_reading {r : Reading} (work : ∀ x : Txn, x.writeInput c.key values = x)
    (reads : values.reading c.address = [r]) : exec .machineryPosting s = .next (s.ended .machinery { s with
      link := { s.link with results := [], contexts := update (·.address == c.address) (fun d =>
        { d with misses := 0 }) s.link.contexts }
      readings := if s.readings.length < 12 then s.readings ++ [r] else s.readings }) := by
  have posted := posts_input (t := s.missesCleared c) granted found one (work _) rfl rfl
  have joined : joinReadings s.readings [r] = if s.readings.length < 12 then s.readings ++ [r] else s.readings := by
    unfold joinReadings
    have places : Config.readingPlaces = 12 := rfl
    rewrite [places]
    split
    · next room => rw [List.take_of_length_le (by simp; omega)]
    · next full => simp [Nat.sub_eq_zero_of_le (Nat.le_of_not_lt full)]
  rewrite [reads] at posted
  rewrite [← joined]
  exact posted

end

section
variable {s : State} {c : Context}

theorem posts_engine_values {d : Int} {alarm : Bool} {e : Engine} (granted : s.granted .machinery = true) (found : s.context? c.address = some c)
    (one : s.link.results =
      [{ address := c.address, held := c.state, outcome := .input (.engine d alarm), stale := false }])
    (free : s.errorFree = true) (law : s.recordLaw = true) (served : s.engine? c.key = some e) :
    exec .machineryPosting s = .next (s.ended .machinery (if e.header.damaged then s.missesCleared c
      else { s.missesCleared c with
        engines := update (·.number == c.key) (fun _ => { e with delivered := some d, alarm := alarm }) s.engines
        notices := if alarm && !e.alarm then s.notices.raise .station else s.notices })) := by
  obtain ⟨free', law'⟩ := State.resultsTaken_keeps (c := c) free law
  have work := Txn.writeInput_engine (d := d) (alarm := alarm) free' law' served
  split
  · next damaged => refine posts_values granted found one (work.trans (if_pos damaged)) ?_ ?_ ?_ <;> rfl
  · next undamaged =>
    have written := work.trans ((if_neg undamaged).trans (Txn.raiseIf_spec _ _ _))
    refine posts_values granted found one written ?_ ?_ ?_ <;> rfl

theorem posts_rudder_values {f : Int} {r : Rudder} (granted : s.granted .machinery = true) (found : s.context? c.address = some c)
    (one : s.link.results =
      [{ address := c.address, held := c.state, outcome := .input (.rudder f), stale := false }])
    (free : s.errorFree = true) (law : s.recordLaw = true) (served : s.rudder? c.key = some r) :
    exec .machineryPosting s = .next (s.ended .machinery (if r.header.damaged then s.missesCleared c
      else { s.missesCleared c with
        rudders := update (·.channel == c.key) (fun _ => { r with feedback := some f }) s.rudders })) := by
  obtain ⟨free', law'⟩ := State.resultsTaken_keeps (c := c) free law
  have work := Txn.writeInput_rudder (f := f) free' law' served
  split
  · next damaged => refine posts_values granted found one (work.trans (if_pos damaged)) ?_ ?_ ?_ <;> rfl
  · next undamaged =>
    have written := work.trans (if_neg undamaged)
    refine posts_values granted found one written ?_ ?_ ?_ <;> rfl

theorem posts_gauge_values {l : Nat} {t : Tank} (granted : s.granted .machinery = true) (found : s.context? c.address = some c)
    (one : s.link.results =
      [{ address := c.address, held := c.state, outcome := .input (.gauge l), stale := false }])
    (free : s.errorFree = true) (law : s.recordLaw = true) (served : s.tank? c.key = some t) :
    exec .machineryPosting s = .next (s.ended .machinery (if t.header.damaged then s.missesCleared c
      else { s.missesCleared c with
        tanks := update (·.number == c.key) (fun _ => { t with gauged := some l }) s.tanks })) := by
  obtain ⟨free', law'⟩ := State.resultsTaken_keeps (c := c) free law
  have work := Txn.writeInput_gauge (l := l) free' law' served
  split
  · next damaged => refine posts_values granted found one (work.trans (if_pos damaged)) ?_ ?_ ?_ <;> rfl
  · next undamaged =>
    have written := work.trans (if_neg undamaged)
    refine posts_values granted found one written ?_ ?_ ?_ <;> rfl

end

/-- Settles O46: each outcome makes its writes and no more. -/
theorem postingAppliesAResult : Obligations.PostingAppliesAResult := by
  constructor
  · intro s c outcome granted free law alone found one posted contexts station mirrored lost unmetered code
    have same : ∀ d ∈ s.link.contexts, d.address = c.address → d = c := fun d hd h =>
      eq_of_nodup_key alone hd (find?_key (key := Context.address) found).2 h
    have applied : s.resultsTaken.applyResult { address := c.address, held := c.state, outcome, stale := false } =
        s.resultsTaken.applyOutcome c outcome := by
      have here : s.resultsTaken.st.context? c.address = some c := found
      rewrite [Txn.applyResult, here]
      exact if_pos ⟨rfl, rfl⟩
    have post {y : Txn} (t : State) (work : s.resultsTaken.applyOutcome c outcome = (y, []))
        (state : y = Txn.start { t with arbiter := s.arbiter.grant .machinery }) (hb : t.barges = s.barges)
        (hp : t.policy = s.policy) : posted t := exec_posts_nothing granted one (applied.trans work) state hb hp
    have moves (new : ContextState) (outside : c.state ≠ .exchange) (other : c.state ≠ new) :
        s.resultsTaken.enterContext c.address new = Txn.start { mirrored new.mirrored
          (contexts fun d => { d with state := new }) with arbiter := s.arbiter.grant .machinery } := by
      rewrite [Txn.enterContext_mirrors found outside other, Txn.mirror_eq]
      rfl
    refine ⟨fun before ok => ?_, fun before fault => ?_, fun kind channels state reply => ?_, fun missed => ⟨?_, ?_, ?_, ?_⟩,
      fun values state input => ?_⟩
    · subst ok
      have outside : c.state ≠ .exchange := by rcases before with h | h <;> rewrite [h] <;> exact ContextState.noConfusion
      have other : c.state ≠ .configure := by rcases before with h | h <;> rewrite [h] <;> exact ContextState.noConfusion
      exact post _ (congrArg (·, []) (moves .configure outside other)) rfl rfl rfl
    · subst fault
      have outside : c.state ≠ .exchange := by rcases before with h | h <;> rewrite [h] <;> exact ContextState.noConfusion
      have other : c.state ≠ .rejected := by rcases before with h | h <;> rewrite [h] <;> exact ContextState.noConfusion
      refine post _ (congrArg (fun y : Txn => (y.raise .station, [])) (moves .rejected outside other)) rfl rfl rfl
    · subst reply
      have outside : c.state ≠ .exchange := by rewrite [state]; exact ContextState.noConfusion
      have number : c.kind.code = code := by cases h : c.kind <;> simp [code, h, StationKind.code]
      refine ⟨fun right channel => ?_, fun wrong => ?_⟩
      · have admitted : s.resultsTaken.applyOutcome c (.configuration kind channels) =
            (s.resultsTaken.contextAdmitted c, []) := by
          rw [Txn.applyOutcome, if_pos ⟨right.trans number.symm, channel⟩]
        refine post _ admitted ?_ rfl rfl
        rewrite [Txn.contextAdmitted, moves .exchange outside outside]
        refine (Txn.modContext_modContext ((Txn.start (s.take .machinery)).on fun t => { mirrored .running
          { s.link with results := [] } with arbiter := s.arbiter.grant .machinery }) c.address
          (f := fun d => { d with state := .exchange }) (fun _ => rfl) _)
      · have refused : s.resultsTaken.applyOutcome c (.configuration kind channels) =
            (s.resultsTaken.contextRejected c, []) := by
          rw [Txn.applyOutcome, if_neg (by rewrite [number]; omega)]
        have other : c.state ≠ .rejected := by rewrite [state]; exact ContextState.noConfusion
        exact post _ refused (congrArg (fun y : Txn => y.raise .station) (moves .rejected outside other)) rfl rfl
    · intro before
      subst missed
      have outside : c.state ≠ .exchange := by rcases before with h | h <;> rewrite [h] <;> exact ContextState.noConfusion
      have other : c.state ≠ .offline := by rcases before with h | h <;> rewrite [h] <;> exact ContextState.noConfusion
      have work : s.resultsTaken.applyOutcome c .miss = (s.resultsTaken.enterContext c.address .offline, []) := by
        rw [Txn.applyOutcome, if_neg outside, Txn.contextMissed, if_neg other]
      exact post _ work (moves .offline outside other) rfl rfl
    · intro before
      subst missed
      have work : s.resultsTaken.applyOutcome c .miss = (s.resultsTaken, []) := by
        rw [Txn.applyOutcome, if_neg (by rewrite [before]; exact ContextState.noConfusion), Txn.contextMissed, if_pos before]
      exact post _ work rfl rfl rfl
    · intro inside few
      subst missed
      have work : s.resultsTaken.applyOutcome c .miss = (s.resultsTaken.modContext c.address fun d =>
          { d with misses := d.misses + 1 }, []) := by
        rw [Txn.applyOutcome, if_pos inside, Txn.inputMissed, if_pos few]
      refine post _ work ?_ rfl rfl
      have table : update (·.address == c.address) (fun d : Context => { d with misses := d.misses + 1 })
          s.link.contexts = update (·.address == c.address) (fun d => { d with misses := c.misses + 1 })
          s.link.contexts := update_congr (key := Context.address) fun d hd h => by rw [same d hd h]
      exact congrArg (fun l => Txn.start { s with
        arbiter := s.arbiter.grant .machinery, link := { s.link with results := [], contexts := l } }) table
    · intro inside many
      subst missed
      refine ⟨fun kind => ?_, fun kind => ?_, fun kind => ?_, fun kind => ?_, fun tr kind served undamaged => ?_⟩
      · exact posts_lost_engine granted found one inside many kind
      · exact posts_lost_rudder granted found one inside many kind
      · exact posts_lost_gauge granted found one inside many kind
      · exact posts_lost_meter granted found one inside many kind
      · exact posts_lost_pump granted found one inside free law many kind served undamaged
    · subst input
      intro fine join
      refine ⟨fun d alarm e kind is served => ?_, fun f r kind is served => ?_, fun l t kind is served => ?_,
        fun n t kind is => ?_, fun n t running kind is => ?_⟩ <;> subst is
      · exact posts_engine_values granted found one free law served
      · exact posts_rudder_values granted found one free law served
      · exact posts_gauge_values granted found one free law served
      · exact posts_reading granted found one (fun _ => rfl) rfl
      · exact posts_reading granted found one (fun _ => rfl) rfl
  · intro s r granted one stale
    refine exec_posts_nothing granted one (y := s.resultsTaken) ?_ rfl rfl rfl
    have here : s.resultsTaken.st.context? r.address = s.context? r.address := rfl
    rewrite [Txn.applyResult, here]
    rcases stale with stale | gone | ⟨c, found, moved⟩
    · cases s.context? r.address with
      | none => rfl
      | some c => exact if_neg fun h => by simp [stale] at h
    · rw [gone]
    · rewrite [found]
      exact if_neg fun h => moved h.1

/-! The conversion of one reading, over a store without errors (R152, R154 to R157, R170 to R172). -/

/-! ## The reading and its context -/

namespace State

/-- R154: the conversion at its grant, with the readings taken. -/
def readingsTaken (s : State) : Txn := (Txn.start (s.take .fuel)).on fun s => { s with readings := [] }

/-- R155, R156: the state after a reading of a context, with a residual, before anything is posted. -/
def readBy (s : State) (r : Reading) (last : Option Int) (residual : Nat) : State := { s with
  readings := []
  link := { s.link with contexts := update (·.address == r.address) (fun d =>
    { d with baseline := some r.count, lastTemperature := last, residual := residual }) s.link.contexts } }

/-- R155, R156: the transaction after a reading of a context, before anything is posted. -/
def baselined (s : State) (r : Reading) (last : Option Int) : Txn :=
  s.readingsTaken.modContext r.address fun d => { d with baseline := some r.count, lastTemperature := last }

end State

section
variable {s : State} {r : Reading} {c : Context} {last : Option Int}

namespace State

theorem baselined_residual (n : Nat) : (s.baselined r last).modContext r.address (fun d => { d with residual := n }) =
    Txn.start { s.readBy r last n with arbiter := s.arbiter.grant .fuel } := by
  rewrite [State.baselined, Txn.modContext_modContext _ _ (by intro _; rfl)]
  rfl

theorem baselined_kept (alone : (s.link.contexts.map (·.address)).Nodup) (found : s.context? r.address = some c) :
    s.baselined r last = Txn.start { s.readBy r last c.residual with arbiter := s.arbiter.grant .fuel } := by
  obtain ⟨address, mem⟩ := find?_key (key := Context.address) found
  have table : update (·.address == r.address) (fun d : Context =>
        { d with baseline := some r.count, lastTemperature := last }) s.link.contexts =
      update (·.address == r.address) (fun d =>
        { d with baseline := some r.count, lastTemperature := last, residual := c.residual }) s.link.contexts :=
    update_congr (key := Context.address) fun d hd same => by
      rw [eq_of_nodup_key alone hd mem (same.trans address.symm)]
  rewrite [State.readBy, ← table]
  rfl

end State

theorem exec_fuelConversion {t : State} (granted : s.granted .fuel = true) (one : s.readings = [r])
    (work : s.readingsTaken.convert r = Txn.start { t with arbiter := s.arbiter.grant .fuel })
    (hb : t.barges = s.barges) (hp : t.policy = s.policy) :
    exec .fuelConversion s = .next (s.ended .fuel t) := by
  have e : exec .fuelConversion s = .next (s.transact .fuel Txn.convertAll) := rfl
  have all : Txn.convertAll (Txn.start (s.take .fuel)) = s.readingsTaken.convert r := by
    have readings : (Txn.start (s.take .fuel)).st.readings = [r] := one
    rewrite [Txn.convertAll, readings]
    rfl
  rewrite [e, State.transact_quiet s .fuel _ granted _ (all.trans work) rfl rfl hb hp]
  rfl

end

theorem pulseDifference_eq {count baseline : Nat} (hc : count < 65536) :
    pulseDifference count baseline = if baseline ≤ count then count - baseline else count + 65536 - baseline := by
  unfold pulseDifference
  split
  · rw [Nat.sub_add_comm ‹_›, Nat.add_mod_right, Nat.mod_eq_of_lt ((Nat.sub_le _ _).trans_lt hc)]
  · exact Nat.mod_eq_of_lt (by omega)

theorem clamped_temperature (t : Int) : max (-200) (min t 800) = if t < -200 then -200 else if 800 < t then 800 else t := by
  split
  · omega
  · split <;> omega

section
variable {s : State} {r : Reading} {c : Context} (alone : (s.link.contexts.map (·.address)).Nodup)
  (found : s.context? r.address = some c)
include alone found

namespace State

theorem baselined_eq : (s.readingsTaken.modContext r.address fun d => { d with
      baseline := some r.count, lastTemperature := lastTemperatureAfter r.temperature d.lastTemperature }) =
    s.baselined r (lastTemperatureAfter r.temperature c.lastTemperature) := by
  obtain ⟨address, mem⟩ := find?_key (key := Context.address) found
  have table : update (·.address == r.address) (fun d : Context => { d with
        baseline := some r.count, lastTemperature := lastTemperatureAfter r.temperature d.lastTemperature })
        s.link.contexts = update (·.address == r.address) (fun d => { d with
          baseline := some r.count, lastTemperature := lastTemperatureAfter r.temperature c.lastTemperature })
        s.link.contexts := update_congr (key := Context.address) fun d hd same => by
      rw [eq_of_nodup_key alone hd mem (same.trans address.symm)]
  exact congrArg (fun l => s.readingsTaken.on fun s => { s with link := { s.link with contexts := l } }) table

/-- R155: a reading that finds no baseline. -/
theorem convert_first (fresh : c.baseline = none) : s.readingsTaken.convert r =
    s.baselined r (lastTemperatureAfter r.temperature c.lastTemperature) := by
  have here : s.readingsTaken.st.context? r.address = some c := found
  rewrite [Txn.convert, here]
  dsimp only
  rewrite [fresh]
  exact State.baselined_eq alone found

/-- R155, R156: a reading that finds a baseline. -/
theorem convert_counted {b : Nat} (old : c.baseline = some b) {volume : Int} (hv : volume = convertedVolume
      (pulseDifference r.count b) c.parameters.meterFactor s.policy.expansion
      (conversionTemperature r.temperature c.lastTemperature) c.residual) {y : Txn} {ok : Bool}
    (posts : (s.baselined r (lastTemperatureAfter r.temperature c.lastTemperature)).postConversion c
      (postedAmount volume) (pulseDifference r.count b) r.running = (y, ok)) : s.readingsTaken.convert r =
    if ok then y.modContext r.address fun d => { d with residual := newResidual volume } else y := by
  have here : s.readingsTaken.st.context? r.address = some c := found
  subst hv
  rewrite [Txn.convert, here]
  dsimp only
  rewrite [old, State.baselined_eq alone found]
  dsimp only
  have same : s.readingsTaken.st.policy.expansion = s.policy.expansion := rfl
  rw [same, posts]

end State

end

/-! ## Engines written (R157) -/

namespace Txn

/-- The transaction with `e` in the place of the engine of its number. -/
def putEngine (x : Txn) (e : Engine) : Txn :=
  x.on fun s => { s with engines := update (·.number == e.number) (fun _ => e) s.engines }

/-- What a transaction finds under an engine's number: this engine, alone. -/
structure HasEngine (x : Txn) (e : Engine) : Prop where
  found : x.st.engine? e.number = some e
  once : (x.st.engines.map (·.number)).Nodup
  clean : e.header.bad = []

end Txn

section
variable {x : Txn} {e u : Engine}

namespace Txn

theorem HasEngine.put (h : x.HasEngine e) (hn : u.number = e.number) (clean : u.header.bad = []) :
    (x.putEngine u).HasEngine u where
  found := find?_put (key := Engine.number) (k := u.number) (b := e) (hn ▸ h.found) rfl
  once := by
    have same : (x.putEngine u).st.engines.map (·.number) = x.st.engines.map (·.number) :=
      map_update_key (key := Engine.number) x.st.engines rfl
    rewrite [same]
    exact h.once
  clean := clean

theorem putEngine_put (hn : u.number = e.number) : (x.putEngine e).putEngine u = x.putEngine u := by
  have twice := update_put (key := Engine.number) (k := e.number) rfl (fun _ => u) x.st.engines
  simp only [Txn.putEngine, Txn.on, hn, twice]

theorem HasEngine.modEngine (h : x.HasEngine e) {f : Engine → Engine} (hn : (f e).number = e.number)
    (hh : (f e).header = e.header) (ws : List Nat) : x.modEngine e.number ws f = x.putEngine (f e) := by
  have written : update (·.number == e.number) (fun r => (f r).renew ws) x.st.engines =
      update (·.number == e.number) (fun _ => f e) x.st.engines :=
    update_congr (key := Engine.number) fun r hr same => by
      obtain ⟨-, mem⟩ := find?_key h.found
      rewrite [eq_of_nodup_key h.once hr mem same]
      exact Engine.renew_clean _ _ (hh ▸ h.clean)
  rewrite [Txn.modEngine, Txn.putEngine, hn, Txn.on, written]
  rfl

theorem putEngine_errorFree (free : x.st.errorFree = true) (clean : e.header.bad = []) :
    (x.putEngine e).st.errorFree = true := by
  obtain ⟨h1, h2, h3, h4⟩ := x.st.errorFree_iff.mp free
  have engines := forall_mem_update (p := fun u : Engine => u.header.errorFree = true) (f := fun _ => e)
    (q := (·.number == e.number)) (fun _ _ _ _ => by simp [Header.errorFree, clean]) h3
  exact (State.errorFree_iff _).mpr ⟨h1, h2, engines, h4⟩

end Txn

end

theorem Txn.hasEngine_of_law {x : Txn} {e : Engine} (free : x.st.errorFree = true) (law : x.st.recordLaw = true)
    (found : x.st.engine? e.number = some e) (undamaged : e.header.damaged = false) : x.HasEngine e where
  found := found
  once := by
    obtain ⟨-, -, once, -⟩ := (State.recordLaw_iff _).mp law
    exact once
  clean := by
    obtain ⟨-, -, engines, -⟩ := x.st.errorFree_iff.mp free
    exact Header.bad_eq_nil (engines e (find?_key found).2) undamaged

/-! ## Debits and credits (R152, R153) -/

/-- A record written under another key leaves the record of a key. -/
theorem find?_update_of_ne {α : Type} {key : α → Nat} {k k' : Nat} {a : α} (h : key a = k) (other : k ≠ k') (l : List α) :
    (update (key · == k) (fun _ => a) l).find? (key · == k') = l.find? (key · == k') := by
  have same : update (key · == k) (fun _ => a) l = update (key · == k) (fun b => if key b = k then a else b) l :=
    update_congr fun b _ hb => by simp [hb]
  rewrite [same, find?_update _ _ _ _ fun b => by by_cases hb : key b = k <;> simp [hb, h]]
  cases found : l.find? (key · == k') with
  | none => rfl
  | some b =>
    obtain ⟨hk, -⟩ := find?_key found
    simp [hk, other.symm]

section
variable {x : Txn} {t u : Tank}

namespace Txn

theorem HasTank.put_other (h : x.HasTank t) (other : u.number ≠ t.number) : (x.putTank u).HasTank t where
  found := by
    have kept := find?_update_of_ne (key := Tank.number) (k := u.number) (k' := t.number) (a := u) rfl other x.st.tanks
    exact kept.trans h.found
  once := by
    have same : (x.putTank u).st.tanks.map (·.number) = x.st.tanks.map (·.number) :=
      map_update_key (key := Tank.number) x.st.tanks rfl
    rewrite [same]
    exact h.once
  clean := h.clean

theorem putTank_errorFree (free : x.st.errorFree = true) (clean : t.header.bad = []) :
    (x.putTank t).st.errorFree = true := by
  obtain ⟨h1, h2, h3, h4, h5, h6⟩ := x.st.errorFree_iff.mp free
  have tanks := forall_mem_update (p := fun u : Tank => u.header.errorFree = true) (f := fun _ => t)
    (q := (·.number == t.number)) (fun _ _ _ _ => by simp [Header.errorFree, clean]) h5
  exact (State.errorFree_iff _).mpr ⟨h1, h2, h3, h4, tanks, h6⟩

namespace HasTank

/-- R152, R153: a debit of an undamaged tank. -/
theorem debit (h : x.HasTank t) {amount : Nat} (much : amount ≠ 0) (draw : Bool) :
    x.debit t.number amount draw = ((x.putTank (t.debited amount draw).evaluated).on fun s => { s with
      notices := s.notices.afterDebit t (t.debited amount draw).evaluated amount }) := by
  have written := h.written (f := fun t => t.debited amount draw) rfl rfl rfl
    (if draw then wide 6 ++ wide 11 ++ wide 13 else wide 6 ++ wide 10 ++ wide 13)
  rewrite [Txn.debit, if_neg much, h.found]
  dsimp only
  rewrite [written, Txn.raiseIf_spec, Txn.raiseIf_spec]
  have runsDry (a b : NoticeUnit) : (if (decide (t.content < amount) && decide (0 < t.content)) = true then a else b) =
      if 0 < t.content ∧ t.content < amount then a else b := if_congr (by simp [and_comm]) rfl rfl
  simp only [runsDry]
  rfl

/-- R152, R153: a credit of an undamaged tank. -/
theorem credit (h : x.HasTank t) {amount : Nat} (much : amount ≠ 0) :
    x.credit t.number amount =
      let filled : Tank := { t with content := t.content + amount, transferredIn := t.transferredIn + amount }
      (x.putTank filled.evaluated).raiseIf (filled.isLow && !t.low) .fuel := by
  rewrite [Txn.credit, if_neg much]
  exact h.written (f := fun t => { t with
    content := t.content + amount, transferredIn := t.transferredIn + amount }) rfl rfl rfl (wide 6 ++ wide 9)

end HasTank

end Txn

end

theorem Tank.debited_draw (t : Tank) (amount : Nat) : (t.debited amount true).evaluated = t.afterDraw amount := by
  have left : t.content - min amount t.content = t.content - amount := by rw [min_comm, tsub_min]
  have short : amount - min amount t.content = amount - t.content := tsub_min
  simp [Tank.debited, Tank.evaluated, Tank.isLow, Tank.afterDraw, left, short]

/-! ## A meter's draw (R157) -/

section
variable {x : Txn} {e : Engine} (free : x.st.errorFree = true) (has : x.HasEngine e)
  (undamaged : e.header.damaged = false)
include free has undamaged

namespace Txn

theorem postMeter_nothing (d : Nat) : x.postMeter e.number 0 d = (x, true) := by
  rewrite [Txn.postMeter, Txn.read_of_sound free (State.sound_of_engine? has.found undamaged)]
  rfl

theorem postMeter_draws {amount d : Nat} {t : Tank} (much : amount ≠ 0) (supply : e.supply = some t.number)
    (tank : x.st.tank? t.number = some t) (law : x.st.recordLaw = true) : x.postMeter e.number amount d =
      (if t.header.damaged then
        x.putEngine { e with consumed := e.consumed + amount, undebited := e.undebited + amount }
      else ((x.putEngine { e with consumed := e.consumed + amount }).putTank (t.afterDraw amount)).on fun s => { s with
        notices := s.notices.afterDebit t (t.afterDraw amount) amount }, true) := by
  let used : Engine := { e with consumed := e.consumed + amount }
  have hasUsed : (x.putEngine used).HasEngine used := has.put rfl has.clean
  have freeUsed : (x.putEngine used).st.errorFree = true := Txn.putEngine_errorFree free has.clean
  have supplied : ((x.putEngine used).st.engine? e.number).bind (·.supply) = some t.number := by
    have found : (x.putEngine used).st.engine? e.number = some used := hasUsed.found
    rewrite [found]
    exact supply
  have sound : (x.putEngine used).st.sound .tanks t.number = !t.header.damaged := by
    have found : (x.putEngine used).st.tank? t.number = some t := tank
    simp [State.sound, State.header?, found]
  rewrite [Txn.postMeter, Txn.read_of_sound free (State.sound_of_engine? has.found undamaged)]
  dsimp only
  rewrite [if_neg much, has.modEngine (f := fun e => { e with consumed := e.consumed + amount }) rfl rfl, supplied]
  dsimp only
  rewrite [Txn.drawFor, Txn.read_errorFree _ freeUsed, sound]
  cases damaged : t.header.damaged with
  | true =>
    have running : (x.putEngine used).st.sound .engines e.number = true :=
      State.sound_of_engine? hasUsed.found undamaged
    simp only [Bool.not_true]
    rewrite [Txn.read_of_sound freeUsed running]
    refine congrArg (·, true) ?_
    refine (hasUsed.modEngine (f := fun e => { e with undebited := e.undebited + amount }) rfl rfl _).trans ?_
    exact Txn.putEngine_put rfl
  | false =>
    have before : x.HasTank t := Txn.hasTank_of_law free law tank damaged
    have hasTank : (x.putEngine used).HasTank t := ⟨before.found, before.once, before.clean⟩
    have debited := hasTank.debit much true
    rewrite [Tank.debited_draw] at debited
    exact congrArg (·, true) debited

end Txn

end

/-! A pump's reading: the fuel that it moves, and the transfer that it stops (R170 to R172). -/

/-! ## The fuel moved (R170) -/

theorem Txn.HasTransfer.putTransfer_self {x : Txn} {t : Transfer} (h : x.HasTransfer t) : x.putTransfer t = x := by
  have stands := put_self (key := Transfer.number) h.once h.found
  rw [Txn.putTransfer, Txn.on, stands]

namespace Tank

/-- R152: the source of a transfer after `amount` ml have been moved out of it. -/
def movedOut (t : Tank) (amount : Nat) : Tank :=
  { t.afterDraw amount with drawn := t.drawn, transferredOut := t.transferredOut + amount }

/-- R152: the destination of a transfer after `amount` ml have been moved into it. -/
def movedIn (t : Tank) (amount : Nat) : Tank :=
  { t with
    content := t.content + amount, transferredIn := t.transferredIn + amount
    low := decide (t.content + amount < t.lowMark * 1000) }

theorem debited_out (t : Tank) (amount : Nat) : (t.debited amount false).evaluated = t.movedOut amount := by
  have left : t.content - min amount t.content = t.content - amount := by rw [min_comm, tsub_min]
  have short : amount - min amount t.content = amount - t.content := tsub_min
  simp [Tank.debited, Tank.evaluated, Tank.isLow, Tank.afterDraw, Tank.movedOut, left, short]

/-- R170: the source of a transfer after a posting; `carries` says that an amount is moved. -/
def gives (t : Tank) (amount : Nat) (carries : Bool) : Tank := if carries then t.movedOut amount else t

/-- R170: the destination of a transfer after a posting. -/
def takes (t : Tank) (amount : Nat) (carries : Bool) : Tank := if carries then t.movedIn amount else t

theorem gives_number (t : Tank) (amount : Nat) (carries : Bool) : (t.gives amount carries).number = t.number := by
  cases carries <;> rfl
theorem gives_header (t : Tank) (amount : Nat) (carries : Bool) : (t.gives amount carries).header = t.header := by
  cases carries <;> rfl
theorem gives_lowMark (t : Tank) (amount : Nat) (carries : Bool) : (t.gives amount carries).lowMark = t.lowMark := by
  cases carries <;> rfl
theorem takes_number (t : Tank) (amount : Nat) (carries : Bool) : (t.takes amount carries).number = t.number := by
  cases carries <;> rfl
theorem takes_header (t : Tank) (amount : Nat) (carries : Bool) : (t.takes amount carries).header = t.header := by
  cases carries <;> rfl
theorem takes_capacity (t : Tank) (amount : Nat) (carries : Bool) :
    (t.takes amount carries).capacity = t.capacity := by cases carries <;> rfl

end Tank

/-- R170: what becomes of the tanks and of the notices. -/
def State.fuelMoved (s : State) (source destination : Tank) (amount : Nat) (carries : Bool) : State :=
  let gives : Tank := source.gives amount carries
  let takes : Tank := destination.takes amount carries
  let first := if carries then s.notices.afterDebit source gives amount else s.notices
  { s with
    tanks := update (·.number == destination.number) (fun _ => takes)
      (update (·.number == source.number) (fun _ => gives) s.tanks)
    notices := if takes.low && !destination.low then first.raise .fuel else first }

section
variable {x : Txn} {t : Transfer} {source destination : Tank}

theorem State.fuelMoved_nothing {s : State} (once : (s.tanks.map (·.number)).Nodup)
    (hs : s.tank? source.number = some source) (hd : s.tank? destination.number = some destination) (amount : Nat) :
    s.fuelMoved source destination amount false = s := by
  have givesSelf := put_self (key := Tank.number) once hs
  have takesSelf := put_self (key := Tank.number) once hd
  simp only [State.fuelMoved, Tank.gives, Tank.takes, Bool.false_eq_true, if_false, givesSelf, takesSelf, Bool.and_not_self]

theorem Txn.moveFuel_eq (free : x.st.errorFree = true) (once : (x.st.tanks.map (·.number)).Nodup) (has : x.HasTransfer t)
    (hs : x.st.tank? t.source = some source) (hd : x.st.tank? t.destination = some destination)
    (apart : source.number ≠ destination.number) (amount : Nat) {intact : Bool}
    (whole : intact = (!source.header.damaged && !destination.header.damaged)) : x.moveFuel t.number amount =
      (x.putTransfer { t with heldVolume := if intact then t.heldVolume else t.heldVolume + amount }).on fun s =>
        s.fuelMoved source destination amount (intact && amount != 0) := by
  obtain ⟨sn, smem⟩ := find?_key (key := Tank.number) hs
  obtain ⟨dn, dmem⟩ := find?_key (key := Tank.number) hd
  have hs' : x.st.tank? source.number = some source := sn.symm ▸ hs
  have hd' : x.st.tank? destination.number = some destination := dn.symm ▸ hd
  have nothing := State.fuelMoved_nothing (s := x.st) once hs' hd' amount
  obtain ⟨-, -, -, -, tanks, -⟩ := x.st.errorFree_iff.mp free
  have soundSource : x.st.sound .tanks t.source = !source.header.damaged := by simp [State.sound, State.header?, hs]
  have soundDestination : x.st.sound .tanks t.destination = !destination.header.damaged := by
    simp [State.sound, State.header?, hd]
  by_cases none : amount = 0
  · subst none
    have held : { t with heldVolume := if intact then t.heldVolume else t.heldVolume + 0 } = t := by simp
    have still : (intact && (0 : Nat) != 0) = false := by simp
    rewrite [held, still, has.putTransfer_self, Txn.moveFuel, has.found]
    dsimp only
    rw [if_pos rfl, Txn.on, nothing]
  · rewrite [Txn.moveFuel, has.found]
    dsimp only
    rewrite [if_neg none, Txn.read_errorFree x free, soundSource]
    dsimp only
    rewrite [Txn.read_errorFree x free, soundDestination]
    dsimp only
    have both : (!source.header.damaged && !destination.header.damaged && x.st.tanksSound t) = intact := by
      rewrite [whole, State.tanksSound, soundSource, soundDestination]
      exact Bool.and_self _
    rewrite [both]
    cases intact with
    | false =>
      have idle : (false && amount != 0) = false := rfl
      simp only [Bool.false_eq_true, if_false, idle]
      refine (has.modTransfer (f := fun t => { t with heldVolume := t.heldVolume + amount }) rfl rfl _).trans ?_
      exact congrArg (fun s => (x.putTransfer { t with heldVolume := t.heldVolume + amount }).on fun u => { u with
        tanks := s.tanks, notices := s.notices }) nothing.symm
    | true =>
      obtain ⟨us, ud⟩ : source.header.damaged = false ∧ destination.header.damaged = false := by simpa using whole
      have carries : (true && amount != 0) = true := by simp [none]
      have hasSource : x.HasTank source := ⟨hs', once, Header.bad_eq_nil (tanks source smem) us⟩
      have hasDestination : x.HasTank destination := ⟨hd', once, Header.bad_eq_nil (tanks destination dmem) ud⟩
      have given := hasSource.debit none false
      rewrite [Tank.debited_out] at given
      have left : ((x.putTank (source.movedOut amount)).on fun s => { s with
          notices := s.notices.afterDebit source (source.movedOut amount) amount }).HasTank destination :=
        have put := hasDestination.put_other (u := source.movedOut amount) apart
        ⟨put.found, put.once, put.clean⟩
      have taken := left.credit none
      simp only [if_true, carries]
      rewrite [has.putTransfer_self, ← sn, ← dn, given, taken, Txn.raiseIf_spec]
      rfl

end

section
variable {s : State} {source destination : Tank} (hs : s.tank? source.number = some source)
  (hd : s.tank? destination.number = some destination) (apart : source.number ≠ destination.number) (amount : Nat)
  (carries : Bool)
include hs hd apart

omit hd in
theorem State.fuelMoved_source : (s.fuelMoved source destination amount carries).tank? source.number =
    some (source.gives amount carries) := by
  have kept := find?_update_of_ne (key := Tank.number) (Tank.takes_number destination amount carries) apart.symm
    (update (·.number == source.number) (fun _ => source.gives amount carries) s.tanks)
  exact kept.trans (find?_put (key := Tank.number) hs (Tank.gives_number source amount carries))

omit hs in
theorem State.fuelMoved_destination : (s.fuelMoved source destination amount carries).tank? destination.number =
    some (destination.takes amount carries) := by
  have kept := find?_update_of_ne (key := Tank.number) (Tank.gives_number source amount carries) apart s.tanks
  exact find?_put (key := Tank.number) (kept.trans hd) (Tank.takes_number destination amount carries)

omit apart in
theorem State.fuelMoved_errorFree (free : s.errorFree = true) :
    (s.fuelMoved source destination amount carries).errorFree = true := by
  obtain ⟨h1, h2, h3, h4, h5, h6⟩ := s.errorFree_iff.mp free
  have given := h5 source (find?_key (key := Tank.number) hs).2
  have taken := h5 destination (find?_key (key := Tank.number) hd).2
  have first := forall_mem_update (p := fun u : Tank => u.header.errorFree = true) (q := (·.number == source.number))
    (f := fun _ => source.gives amount carries) (fun _ _ _ _ => by rewrite [Tank.gives_header]; exact given) h5
  have second := forall_mem_update (p := fun u : Tank => u.header.errorFree = true)
    (q := (·.number == destination.number)) (f := fun _ => destination.takes amount carries)
    (fun _ _ _ _ => by rewrite [Tank.takes_header]; exact taken) first
  exact (State.errorFree_iff _).mpr ⟨h1, h2, h3, h4, second, h6⟩

end

/-! ## The stop tests (R171) -/

namespace Transfer

/-- R171: the stop cause that the first test which holds gives. -/
def stopCause (t : Transfer) (intact : Bool) (content lowMark filled capacity margin : Nat) : Option StopCause :=
  let left : Nat := t.batchVolume * 1000 - t.batchMoved
  if !intact then some .tankDamaged
  else if t.full then some .batchEnd
  else if t.interval ≠ 0 ∧ ∃ m ∈ t.mark, m ≤ t.totalMoved then some .checkpoint
  else if (content : Int) - (lowMark * 1000 : Nat) < left then some .sourceLow
  else if ((capacity : Int) - margin) * 1000 < (filled : Int) + left then some .destFull
  else none

theorem atCheckpoint_iff (t : Transfer) :
    t.atCheckpoint = true ↔ t.interval ≠ 0 ∧ ∃ m ∈ t.mark, m ≤ t.totalMoved := by
  unfold Transfer.atCheckpoint
  cases t.mark <;> simp

end Transfer

theorem State.stopTest_eq {s : State} {t : Transfer} {source destination : Tank} {intact : Bool}
    (hs : s.tank? t.source = some source) (hd : s.tank? t.destination = some destination)
    (whole : intact = (!source.header.damaged && !destination.header.damaged)) :
    s.stopTest t = t.stopCause intact source.content source.lowMark destination.content destination.capacity
      s.policy.overfillMargin := by
  have sound : s.tanksSound t = intact := by simp [State.tanksSound, State.sound, State.header?, hs, hd, whole]
  have low : s.sourceTooLow t t.remaining = true ↔
      (source.content : Int) - (source.lowMark * 1000 : Nat) < (t.batchVolume * 1000 - t.batchMoved : Nat) := by
    rewrite [State.sourceTooLow, hs]
    exact decide_eq_true_iff
  have high : s.destinationTooFull t t.remaining = true ↔ ((destination.capacity : Int) - s.policy.overfillMargin) * 1000 <
      (destination.content : Int) + (t.batchVolume * 1000 - t.batchMoved : Nat) := by
    rewrite [State.destinationTooFull, hd]
    exact decide_eq_true_iff
  simp only [State.stopTest, sound, low, high, Transfer.stopCause, Transfer.atCheckpoint_iff]

theorem Txn.HasTransfer.stopTests {x : Txn} {t : Transfer} (h : x.HasTransfer t) (free : x.st.errorFree = true)
    (running : t.state = .running) : x.stopTests t.number = match x.st.stopTest t with
      | none => x
      | some c => (x.putTransfer (t.enter (.stopping c))).raise .transfer := by
  have stands : x.readTanks t = x := by simp only [Txn.readTanks, Txn.read_errorFree x free]
  rewrite [Txn.stopTests, h.found]
  dsimp only
  rewrite [stands, h.found]
  dsimp only
  rewrite [if_pos running]
  cases x.st.stopTest t with
  | none => rfl
  | some c => exact h.enterTransfer (by rewrite [running]; exact TransferState.noConfusion)

/-! ## The posting of a pump's reading (R170) -/

/-- R170: a transfer with `amount` ml counted to its batch and its total, and held where a tank is damaged. -/
def Transfer.counted (t : Transfer) (amount : Nat) (intact : Bool) : Transfer := { t with
  batchMoved := t.batchMoved + amount, totalMoved := t.totalMoved + amount
  heldVolume := if intact then t.heldVolume else t.heldVolume + amount }

namespace Txn

/-- R170: the transaction after `amount` ml are counted and moved. -/
def pumped (x : Txn) (t : Transfer) (source destination : Tank) (amount : Nat) (intact : Bool) : Txn :=
  (x.putTransfer (t.counted amount intact)).on fun s => s.fuelMoved source destination amount (intact && amount != 0)

theorem postPump_idle {x : Txn} {k : Nat} {t : Transfer} (free : x.st.errorFree = true)
    (found : x.st.transfer? k = some t) (still : t.header.damaged = true ∨ t.state.inFlight = false) (amount d : Nat)
    (running : Bool) : x.postPump k amount d running = (x.unpostedPulses d, false) := by
  have sound : x.st.sound .transfers k = !t.header.damaged := by simp [State.sound, State.header?, found]
  rewrite [Txn.postPump, Txn.read_errorFree x free, sound]
  cases damaged : t.header.damaged with
  | true => rfl
  | false =>
    have rest : t.state.inFlight = false := still.resolve_left (by simp [damaged])
    simp only [Bool.not_false, found, rest, Bool.false_eq_true, if_false]

end Txn

section
variable {x : Txn} {t : Transfer} {source destination : Tank} (free : x.st.errorFree = true)
  (law : x.st.recordLaw = true) (has : x.HasTransfer t) (hs : x.st.tank? t.source = some source)
  (hd : x.st.tank? t.destination = some destination) (apart : source.number ≠ destination.number) (amount : Nat)
  {intact : Bool} (whole : intact = (!source.header.damaged && !destination.header.damaged))

include has in
theorem Txn.pumped_has : (x.pumped t source destination amount intact).HasTransfer (t.counted amount intact) :=
  have put := has.put (u := t.counted amount intact) rfl has.clean
  ⟨put.found, put.once, put.clean⟩

include free has hs hd in
theorem Txn.pumped_errorFree : (x.pumped t source destination amount intact).st.errorFree = true := by
  have counted : (x.putTransfer (t.counted amount intact)).st.errorFree = true := Txn.putTransfer_errorFree free has.clean
  obtain ⟨sn, -⟩ := find?_key (key := Tank.number) hs
  obtain ⟨dn, -⟩ := find?_key (key := Tank.number) hd
  exact State.fuelMoved_errorFree (s := (x.putTransfer (t.counted amount intact)).st) (sn.symm ▸ hs) (dn.symm ▸ hd)
    amount _ counted

include free law has hs hd apart whole

theorem Txn.postPump_flight (undamaged : t.header.damaged = false) (flight : t.state.inFlight = true) (d : Nat)
    (running : Bool) : x.postPump t.number amount d running =
      (if t.state = .running then (x.pumped t source destination amount intact).stopTests t.number
      else (x.pumped t source destination amount intact).takeRunning t.number running, true) := by
  have sound : x.st.sound .transfers t.number = true := by simp [State.sound, State.header?, has.found, undamaged]
  obtain ⟨-, -, -, -, once, -⟩ := (State.recordLaw_iff _).mp law
  let figured : Transfer := { t with batchMoved := t.batchMoved + amount, totalMoved := t.totalMoved + amount }
  have hasFigured : (x.putTransfer figured).HasTransfer figured := has.put rfl has.clean
  have freeFigured : (x.putTransfer figured).st.errorFree = true := Txn.putTransfer_errorFree free has.clean
  have moved : (x.putTransfer figured).moveFuel t.number amount = x.pumped t source destination amount intact := by
    refine (Txn.moveFuel_eq freeFigured once hasFigured hs hd apart amount whole).trans ?_
    have put := Txn.putTransfer_put (x := x) (t := figured) (u := t.counted amount intact) rfl
    exact congrArg (·.on fun s => s.fuelMoved source destination amount (intact && amount != 0)) put
  rewrite [Txn.postPump, Txn.read_of_sound free sound]
  dsimp only
  rewrite [has.found]
  dsimp only
  rewrite [if_pos flight, Txn.read_of_sound free sound]
  dsimp only
  rw [has.modTransfer (f := fun t => { t with
    batchMoved := t.batchMoved + amount, totalMoved := t.totalMoved + amount }) rfl rfl, moved]

omit free law has whole in
theorem Txn.pumped_tanks : (x.pumped t source destination amount intact).st.tank? t.source =
      some (source.gives amount (intact && amount != 0)) ∧
    (x.pumped t source destination amount intact).st.tank? t.destination =
      some (destination.takes amount (intact && amount != 0)) := by
  obtain ⟨sn, -⟩ := find?_key (key := Tank.number) hs
  obtain ⟨dn, -⟩ := find?_key (key := Tank.number) hd
  have hs' : (x.putTransfer (t.counted amount intact)).st.tank? source.number = some source := sn.symm ▸ hs
  have hd' : (x.putTransfer (t.counted amount intact)).st.tank? destination.number = some destination := dn.symm ▸ hd
  have given := State.fuelMoved_source hs' apart amount (intact && amount != 0)
  have taken := State.fuelMoved_destination hd' apart amount (intact && amount != 0)
  rewrite [sn] at given
  rewrite [dn] at taken
  exact ⟨given, taken⟩

omit free law has in
theorem Txn.pumped_tanksSound :
    (x.pumped t source destination amount intact).st.tanksSound (t.counted amount intact) = intact := by
  obtain ⟨given, taken⟩ := Txn.pumped_tanks (t := t) (intact := intact) hs hd apart amount
  have same : (t.counted amount intact).source = t.source ∧ (t.counted amount intact).destination = t.destination :=
    ⟨rfl, rfl⟩
  simp only [State.tanksSound, State.sound, State.header?, same.1, same.2, given, taken, Option.map_some,
    Tank.gives_header, Tank.takes_header, ← whole]

omit free law has in
theorem Txn.pumped_stopTest : (x.pumped t source destination amount intact).st.stopTest (t.counted amount intact) =
    (t.counted amount intact).stopCause intact (source.gives amount (intact && amount != 0)).content source.lowMark
      (destination.takes amount (intact && amount != 0)).content destination.capacity x.st.policy.overfillMargin := by
  obtain ⟨given, taken⟩ := Txn.pumped_tanks (t := t) (intact := intact) hs hd apart amount
  have tests := State.stopTest_eq (t := t.counted amount intact) (intact := intact) given taken (by
    rw [Tank.gives_header, Tank.takes_header, whole])
  rewrite [Tank.gives_lowMark, Tank.takes_capacity] at tests
  exact tests

end

/-! ## The end of STOPPING (R172) -/

namespace Txn

/-- The transaction ends with `u` in the place of the transfer of its number, and with notices raised. -/
abbrev Leaves (x y : Txn) (u : Transfer) : Prop :=
  ∃ n, y = (x.putTransfer u).on fun s => { s with notices := n }

theorem HasTransfer.enters {x : Txn} {t u : Transfer} (h : x.HasTransfer t) (hn : u.number = t.number)
    (clean : u.header.bad = []) {new : TransferState} (moves : u.state ≠ new) :
    x.Leaves ((x.putTransfer u).enterTransfer t.number new) (u.enter new) := by
  have entered := (h.put hn clean).enterTransfer moves
  rewrite [Txn.putTransfer_put (Transfer.enter_number _ _), hn] at entered
  exact ⟨x.st.notices.raise .transfer, entered⟩

end Txn

theorem State.batchOutcome_ne_stopping (s : State) (t : Transfer) (volume : Nat) (cause : StopCause) :
    TransferState.stopping cause ≠ s.batchOutcome t volume := by
  unfold State.batchOutcome
  repeat' split
  all_goals exact TransferState.noConfusion

namespace Transfer

/-- R168: a transfer at the end of a batch. -/
def batchEnded (t : Transfer) : Transfer :=
  { t with batchesDone := saturate t.batchesDone 1, batchMoved := 0 }

/-- R168: what the end of a batch leaves of a transfer. -/
structure BatchEnded (t u : Transfer) : Prop where
  number : u.number = t.number
  kept : u.totalMoved = t.totalMoved ∧ u.heldVolume = t.heldVolume ∧ u.mark = t.mark
  done : u.batchesDone = min 65535 (t.batchesDone + 1) ∧ u.batchMoved = 0
  complete : t.mode = .single ∨ t.mode = .counted ∧ some u.batchesDone = t.batchCount → u.state = .ended .complete
  gap : t.mode = .opened → t.gapRequest = true → u.state = .held .gapRequest ∧ u.gapRequest = false

end Transfer

theorem Txn.HasTransfer.endOfBatch {x : Txn} {t m : Transfer} (h : x.HasTransfer t) (hn : m.number = t.number)
    (clean : m.header.bad = []) (free : x.st.errorFree = true) {cause : StopCause} (stopping : m.state = .stopping cause) :
    ∃ u, m.BatchEnded u ∧ x.Leaves ((x.putTransfer m).endOfBatch t.number) u := by
  have hasEnded : (x.putTransfer m.batchEnded).HasTransfer m.batchEnded := h.put hn clean
  have freeEnded : (x.putTransfer m.batchEnded).st.errorFree = true := Txn.putTransfer_errorFree free clean
  have written : (x.putTransfer m).modTransfer t.number [10, 11]
      (fun t => { t with batchesDone := saturate t.batchesDone 1, batchMoved := 0 }) = x.putTransfer m.batchEnded := by
    have once := (h.put hn clean).modTransfer (f := Transfer.batchEnded) rfl rfl [10, 11]
    rewrite [Txn.putTransfer_put (t := m) (u := m.batchEnded) rfl, hn] at once
    exact once
  have found : (x.putTransfer m.batchEnded).st.transfer? t.number = some m.batchEnded := hn ▸ hasEnded.found
  have moves {new : TransferState} (other : ∀ c, .stopping c ≠ new) : m.batchEnded.state ≠ new := by
    have state : m.batchEnded.state = .stopping cause := stopping
    rewrite [state]
    exact other cause
  rewrite [Txn.endOfBatch, written, found]
  dsimp only
  by_cases complete : m.batchEnded.mode = .single ∨
      (m.batchEnded.mode = .counted ∧ some m.batchEnded.batchesDone = m.batchEnded.batchCount)
  · rewrite [if_pos complete]
    refine ⟨m.batchEnded.enter (.ended .complete), ⟨rfl, ⟨rfl, rfl, rfl⟩, ⟨rfl, rfl⟩, fun _ => rfl, fun opened => ?_⟩,
      h.enters (u := m.batchEnded) (new := .ended .complete) hn clean (moves fun _ => TransferState.noConfusion)⟩
    have mode : m.batchEnded.mode = .opened := opened
    rewrite [mode] at complete
    simp at complete
  · rewrite [if_neg complete]
    by_cases request : m.batchEnded.gapRequest = true
    · rewrite [if_pos request]
      let released : Transfer := { m.batchEnded with gapRequest := false }
      have withdrawn := hasEnded.modTransfer (f := fun t => { t with gapRequest := false }) rfl rfl [17]
      rewrite [Txn.putTransfer_put (t := m.batchEnded) (u := released) rfl] at withdrawn
      have entered := h.enters (u := released) hn clean (new := .held .gapRequest)
        (moves fun _ => TransferState.noConfusion)
      have number : m.batchEnded.number = t.number := hn
      rewrite [number] at withdrawn
      rewrite [withdrawn]
      exact ⟨released.enter (.held .gapRequest), ⟨rfl, ⟨rfl, rfl, rfl⟩, ⟨rfl, rfl⟩, fun done => absurd done complete,
        fun _ _ => ⟨rfl, rfl⟩⟩, entered⟩
    · rewrite [if_neg request]
      let outcome := (x.putTransfer m.batchEnded).st.batchOutcome m.batchEnded (m.batchEnded.batchVolume * 1000)
      have checked := hasEnded.batchCheck freeEnded (volume := m.batchEnded.batchVolume * 1000) rfl (new := outcome) rfl
        (moves fun c => State.batchOutcome_ne_stopping _ _ _ c)
      have fresh : (if outcome = .running ∧ (m.batchEnded.batchMoved == 0 || m.batchEnded.full) = true
          then { m.batchEnded with batchMoved := 0 } else m.batchEnded) = m.batchEnded := ite_self _
      have number : m.batchEnded.number = t.number := hn
      rewrite [fresh, Txn.putTransfer_put (Transfer.enter_number _ _), number] at checked
      exact ⟨m.batchEnded.enter outcome, ⟨rfl, ⟨rfl, rfl, rfl⟩, ⟨rfl, rfl⟩, fun done => absurd done complete,
        fun _ requested => absurd requested request⟩, _, checked⟩

/-- R172: what the end of STOPPING leaves of a transfer. -/
structure Transfer.StoppingEnded (t u : Transfer) (intact : Bool) (cause : StopCause) : Prop where
  number : u.number = t.number
  kept : u.totalMoved = t.totalMoved ∧ u.heldVolume = t.heldVolume
  mark : u.mark = t.mark.map fun _ => (t.totalMoved / (t.interval * 1000) + 1) * (t.interval * 1000)
  ends : if t.pendingAbort then u.state = .ended .aborted
    else if !intact then u.state = .held .tankDamaged ∧ u.batchMoved = t.batchMoved
    else if cause = .checkpoint then u.state = .held .checkpoint ∧ u.batchMoved = t.batchMoved
    else if t.full then
      u.batchesDone = min 65535 (t.batchesDone + 1) ∧ u.batchMoved = 0 ∧
        (t.mode = .single ∨ t.mode = .counted ∧ some u.batchesDone = t.batchCount → u.state = .ended .complete) ∧
        (t.mode = .opened → t.gapRequest = true → u.state = .held .gapRequest ∧ u.gapRequest = false)
    else (cause = .sourceLow → u.state = .held .sourceLow) ∧ (cause = .destFull → u.state = .held .destFull)

section
variable {x : Txn} {t : Transfer} {cause : StopCause} (h : x.HasTransfer t) (free : x.st.errorFree = true)
  (stopping : t.state = .stopping cause) {intact : Bool} (whole : x.st.tanksSound t = intact)
include h stopping

theorem Txn.HasTransfer.entersFrom {new : TransferState} (other : ∀ c, TransferState.stopping c ≠ new) :
    x.Leaves ((x.putTransfer t.moveMark).enterTransfer t.number new) (t.moveMark.enter new) :=
  h.enters (u := t.moveMark) rfl h.clean (by
    have state : t.moveMark.state = .stopping cause := stopping
    rewrite [state]
    exact other cause)

include free whole

theorem Txn.HasTransfer.endOfStopping :
    ∃ u, t.StoppingEnded u intact cause ∧ x.Leaves (x.endOfStopping t.number) u := by
  have marked : (x.putTransfer t.moveMark).HasTransfer t.moveMark := h.put rfl h.clean
  have found : (x.putTransfer t.moveMark).st.transfer? t.number = some t.moveMark := marked.found
  have sound : (x.putTransfer t.moveMark).st.tanksSound t.moveMark = intact := whole
  have state : t.moveMark.state = .stopping cause := stopping
  have full : t.moveMark.full = t.full := rfl
  have pending : t.moveMark.pendingAbort = t.pendingAbort := rfl
  rewrite [Txn.endOfStopping, h.moveMark]
  simp only [found, sound, state, full, pending]
  cases abort : t.pendingAbort with
  | true =>
    exact ⟨t.moveMark.enter (.ended .aborted), ⟨rfl, ⟨rfl, rfl⟩, rfl, by rewrite [abort]; rfl⟩,
      h.entersFrom stopping fun _ => TransferState.noConfusion⟩
  | false =>
    rewrite [if_neg Bool.false_ne_true]
    have entered {new : TransferState} (other : ∀ c, TransferState.stopping c ≠ new) := h.entersFrom stopping other
    cases sound : intact with
    | false =>
      exact ⟨t.moveMark.enter (.held .tankDamaged), ⟨rfl, ⟨rfl, rfl⟩, rfl, by rewrite [abort]; exact ⟨rfl, rfl⟩⟩,
        entered fun _ => TransferState.noConfusion⟩
    | true =>
      rewrite [if_neg (by decide)]
      by_cases checkpoint : cause = .checkpoint
      · subst checkpoint
        exact ⟨t.moveMark.enter (.held .checkpoint), ⟨rfl, ⟨rfl, rfl⟩, rfl, by rewrite [abort]; exact ⟨rfl, rfl⟩⟩,
          entered fun _ => TransferState.noConfusion⟩
      · rewrite [if_neg fun same => checkpoint (TransferState.stopping.inj same)]
        have batch := h.endOfBatch (m := t.moveMark) rfl h.clean free state
        cases filled : t.full with
        | true =>
          obtain ⟨u, done, left⟩ := batch
          refine ⟨u, ⟨done.number, ⟨done.kept.1, done.kept.2.1⟩, done.kept.2.2, ?_⟩, left⟩
          rewrite [abort]
          simp only [Bool.false_eq_true, if_false, Bool.not_true, checkpoint, filled, if_true]
          exact ⟨done.done.1, done.done.2, done.complete, done.gap⟩
        | false =>
          rewrite [if_neg Bool.false_ne_true]
          have part {u : Transfer} (low : cause = .sourceLow → u.state = .held .sourceLow)
              (high : cause = .destFull → u.state = .held .destFull) (hn : u.number = t.number)
              (kept : u.totalMoved = t.totalMoved ∧ u.heldVolume = t.heldVolume)
              (mark : u.mark = t.moveMark.mark) : t.StoppingEnded u true cause :=
            ⟨hn, kept, mark, by simp only [abort, Bool.false_eq_true, if_false, Bool.not_true, checkpoint, filled]
                                exact ⟨low, high⟩⟩
          cases cause with
          | sourceLow =>
            exact ⟨t.moveMark.enter (.held .sourceLow), part (fun _ => rfl) StopCause.noConfusion rfl ⟨rfl, rfl⟩ rfl,
              entered fun _ => TransferState.noConfusion⟩
          | destFull =>
            exact ⟨t.moveMark.enter (.held .destFull), part StopCause.noConfusion (fun _ => rfl) rfl ⟨rfl, rfl⟩ rfl,
              entered fun _ => TransferState.noConfusion⟩
          | tankDamaged =>
            exact ⟨t.moveMark.enter (.held .tankDamaged), part StopCause.noConfusion StopCause.noConfusion rfl
              ⟨rfl, rfl⟩ rfl, entered fun _ => TransferState.noConfusion⟩
          | aborted =>
            exact ⟨t.moveMark.enter (.ended .aborted), part StopCause.noConfusion StopCause.noConfusion rfl
              ⟨rfl, rfl⟩ rfl, entered fun _ => TransferState.noConfusion⟩
          | batchEnd =>
            obtain ⟨u, done, left⟩ := batch
            exact ⟨u, part StopCause.noConfusion StopCause.noConfusion done.number ⟨done.kept.1, done.kept.2.1⟩
              done.kept.2.2, left⟩
          | checkpoint => exact absurd rfl checkpoint

omit h free stopping whole in
theorem Txn.HasTransfer.leaves_put {y : Txn} {q u : Transfer} (hq : q.number = t.number) (hu : u.number = t.number)
    (left : (x.putTransfer q).Leaves y u) : x.Leaves y u := by
  obtain ⟨n, rfl⟩ := left
  rewrite [Txn.putTransfer_put (hu.trans hq.symm)]
  exact ⟨n, rfl⟩

theorem Txn.HasTransfer.takeRunning (running : Bool) :
    (running = true ∨ t.quiet = 0 →
      x.takeRunning t.number running = x.putTransfer { t with quiet := if running then 0 else 1 }) ∧
    (running = false → 1 ≤ t.quiet →
      ∃ u, t.StoppingEnded u intact cause ∧ x.Leaves (x.takeRunning t.number running) u) := by
  let heard : Transfer := { t with quiet := if running then 0 else t.quiet + 1 }
  have hasHeard : (x.putTransfer heard).HasTransfer heard := h.put rfl h.clean
  have found : (x.putTransfer heard).st.transfer? t.number = some heard := hasHeard.found
  have taken : x.takeRunning t.number running =
      if 2 ≤ heard.quiet then (x.putTransfer heard).endOfStopping t.number else x.putTransfer heard := by
    rewrite [Txn.takeRunning, h.modTransfer (f := fun t => { t with quiet := if running then 0 else t.quiet + 1 }) rfl rfl]
    simp only [found, heard]
  rewrite [taken]
  refine ⟨fun early => ?_, fun silent late => ?_⟩
  · have quiet : heard.quiet = if running then 0 else 1 := by
      rcases early with rfl | none
      · rfl
      · simp [heard, none]
    have few : ¬ 2 ≤ heard.quiet := by rewrite [quiet]; split <;> omega
    have same : heard = { t with quiet := if running then 0 else 1 } := by rw [← quiet]
    rw [if_neg few, same]
  · subst silent
    have many : 2 ≤ heard.quiet := Nat.succ_le_succ late
    obtain ⟨u, ended, left⟩ := hasHeard.endOfStopping (Txn.putTransfer_errorFree free h.clean) (cause := cause) stopping
      (intact := intact) whole
    rewrite [if_pos many]
    exact ⟨u, ⟨ended.number, ended.kept, ended.mark, ended.ends⟩, Txn.HasTransfer.leaves_put (q := heard) rfl ended.number left⟩

end

/-! What a converted reading posts, for each kind of context (R157, R170). -/

theorem Txn.on_notices_self (x : Txn) : (x.on fun s => { s with notices := x.st.notices }) = x := rfl

/-- R154 to R156: the one reading is granted and converted to `amount` ml, `d` pulses and a residual `n`; the residual
was `m` before. -/
structure State.Converts (s : State) (r : Reading) (c : Context) (last : Option Int) (amount d n m : Nat) : Prop where
  granted : s.granted .fuel = true
  one : s.readings = [r]
  free : s.errorFree = true
  law : s.recordLaw = true
  kept : s.baselined r last = Txn.start { s.readBy r last m with arbiter := s.arbiter.grant .fuel }
  counted : ∀ (y : Txn) (ok : Bool), (s.baselined r last).postConversion c amount d r.running = (y, ok) →
    s.readingsTaken.convert r = if ok then y.modContext r.address fun k => { k with residual := n } else y

section
variable {s : State} {r : Reading} {c : Context} {last : Option Int} {amount d n m : Nat}
  (h : s.Converts r c last amount d n m)
include h

namespace State.Converts

theorem errorFree : (s.baselined r last).st.errorFree = true :=
  (State.errorFree_congr rfl rfl rfl rfl rfl rfl).trans h.free

theorem recordLaw : (s.baselined r last).st.recordLaw = true :=
  (State.recordLaw_congr rfl rfl rfl rfl rfl rfl).trans h.law

/-- R156: a reading that is not posted keeps the residual. -/
theorem unposted {y : Txn} {t : State}
    (posts : (s.baselined r last).postConversion c amount d r.running = (y, false))
    (state : y = Txn.start { t with arbiter := s.arbiter.grant .fuel }) (hb : t.barges = s.barges)
    (hp : t.policy = s.policy) : exec .fuelConversion s = .next (s.ended .fuel t) :=
  exec_fuelConversion h.granted h.one ((h.counted y false posts).trans state) hb hp

/-- R156: the new residual joins what the posting has left of the other tables. -/
theorem posted {y : Txn} {t : State} {f : Txn → Txn}
    (posts : (s.baselined r last).postConversion c amount d r.running = (y, true)) (made : y = f (s.baselined r last))
    (moves : ∀ x : Txn, (f x).modContext r.address (fun k => { k with residual := n }) =
      f (x.modContext r.address fun k => { k with residual := n }))
    (state : f (Txn.start { s.readBy r last n with arbiter := s.arbiter.grant .fuel }) =
      Txn.start { t with arbiter := s.arbiter.grant .fuel }) (hb : t.barges = s.barges)
    (hp : t.policy = s.policy) : exec .fuelConversion s = .next (s.ended .fuel t) := by
  have work := h.counted y true posts
  rewrite [if_pos rfl, made, moves, State.baselined_residual, state] at work
  exact exec_fuelConversion h.granted h.one work hb hp

end State.Converts

/-! ## A meter's reading -/

section
variable {e : Engine} (kind : c.kind = .meter) (served : s.engine? c.key = some e)
include kind served

theorem State.Converts.meter_unposted (damaged : e.header.damaged = true) : exec .fuelConversion s =
    .next (s.ended .fuel { s.readBy r last m with status := { s.status with
      unpostedReadings := min 65535 (s.status.unpostedReadings + 1)
      unpostedPulses := min 65535 (s.status.unpostedPulses + d) } }) := by
  have sound : (s.baselined r last).st.sound .engines c.key = false := by
    have found : (s.baselined r last).st.engine? c.key = some e := served
    simp [State.sound, State.header?, found, damaged]
  have posts : (s.baselined r last).postConversion c amount d r.running =
      ((s.baselined r last).unpostedReading d, false) := by
    rewrite [Txn.postConversion, kind]
    dsimp only
    rw [Txn.postMeter, Txn.read_unsound _ _ _ _ sound]
  refine h.unposted posts ?_ ?_ ?_
  · rewrite [h.kept]
    rfl
  · rfl
  · rfl

section
variable (undamaged : e.header.damaged = false)
include undamaged

omit kind in
theorem State.Converts.hasEngine : (s.baselined r last).HasEngine e ∧ e.number = c.key := by
  obtain ⟨number, -⟩ := find?_key (key := Engine.number) served
  exact ⟨Txn.hasEngine_of_law h.errorFree h.recordLaw (by rewrite [number]; exact served) undamaged, number⟩

namespace State.Converts

theorem meter_nothing (none : amount = 0) :
    exec .fuelConversion s = .next (s.ended .fuel (s.readBy r last n)) := by
  obtain ⟨has, number⟩ := h.hasEngine served undamaged
  have posts : (s.baselined r last).postConversion c amount d r.running = (s.baselined r last, true) := by
    rewrite [Txn.postConversion, kind, none, ← number]
    exact Txn.postMeter_nothing h.errorFree has undamaged d
  refine h.posted (f := id) posts rfl (fun _ => rfl) ?_ ?_ ?_ <;> rfl

theorem meter_draws {k : Tank} (much : 0 < amount) (supply : e.supply = some k.number)
    (tank : s.tank? k.number = some k) : exec .fuelConversion s = .next (s.ended .fuel
      (if k.header.damaged then { s.readBy r last n with
        engines := update (·.number == e.number) (fun _ =>
          { e with consumed := e.consumed + amount, undebited := e.undebited + amount }) s.engines }
      else { s.readBy r last n with
        engines := update (·.number == e.number) (fun _ => { e with consumed := e.consumed + amount }) s.engines
        tanks := update (·.number == k.number) (fun _ => k.afterDraw amount) s.tanks
        notices := s.notices.afterDebit k (k.afterDraw amount) amount })) := by
  obtain ⟨has, number⟩ := h.hasEngine served undamaged
  have toMeter : (s.baselined r last).postConversion c amount d r.running =
      (s.baselined r last).postMeter e.number amount d := by
    rw [Txn.postConversion, kind, ← number]
  have posts := toMeter.trans
    (Txn.postMeter_draws h.errorFree has undamaged (d := d) (Nat.ne_of_gt much) supply tank h.recordLaw)
  split
  · next damaged =>
    rewrite [if_pos damaged] at posts
    refine h.posted (f := (·.putEngine { e with
      consumed := e.consumed + amount, undebited := e.undebited + amount })) posts rfl (fun _ => rfl) ?_ ?_ ?_ <;> rfl
  · next sound =>
    rewrite [if_neg sound] at posts
    refine h.posted (f := fun x => ((x.putEngine { e with consumed := e.consumed + amount }).putTank
      (k.afterDraw amount)).on fun s => { s with notices := s.notices.afterDebit k (k.afterDraw amount) amount })
      posts rfl (fun _ => rfl) ?_ ?_ ?_ <;> rfl

end State.Converts

end

end

/-! ## A pump's reading -/

section
variable {t : Transfer} (kind : c.kind = .pump) (served : s.transfer? c.key = some t)
include kind served

theorem State.Converts.pump_unposted (still : t.header.damaged = true ∨ t.state.inFlight = false) :
    exec .fuelConversion s = .next (s.ended .fuel { s.readBy r last m with status := { s.status with
      unpostedPulses := min 65535 (s.status.unpostedPulses + d) } }) := by
  have posts : (s.baselined r last).postConversion c amount d r.running =
      ((s.baselined r last).unpostedPulses d, false) := by
    rewrite [Txn.postConversion, kind]
    exact Txn.postPump_idle h.errorFree served still amount d r.running
  refine h.unposted posts ?_ ?_ ?_
  · rewrite [h.kept]
    rfl
  · rfl
  · rfl

section
variable {source destination : Tank} (undamaged : t.header.damaged = false) (hs : s.tank? t.source = some source)
  (hd : s.tank? t.destination = some destination) (apart : source.number ≠ destination.number) {intact : Bool}
  (whole : intact = (!source.header.damaged && !destination.header.damaged))
include undamaged hs hd apart whole

namespace State.Converts

theorem pump_posts (flight : t.state.inFlight = true) :
    (s.baselined r last).HasTransfer t ∧ t.number = c.key ∧
    (s.baselined r last).postConversion c amount d r.running =
      (if t.state = .running then ((s.baselined r last).pumped t source destination amount intact).stopTests t.number
      else ((s.baselined r last).pumped t source destination amount intact).takeRunning t.number r.running, true) := by
  obtain ⟨number, -⟩ := find?_key (key := Transfer.number) served
  have has : (s.baselined r last).HasTransfer t :=
    Txn.hasTransfer_of_law h.errorFree h.recordLaw (by rewrite [number]; exact served) undamaged
  refine ⟨has, number, ?_⟩
  rewrite [Txn.postConversion, kind, ← number]
  exact Txn.postPump_flight h.errorFree h.recordLaw has hs hd apart amount whole undamaged flight d r.running

theorem pump_running (running : t.state = .running) :
    let carries : Bool := intact && amount != 0
    let counted := t.counted amount intact
    let stop := counted.stopCause intact (source.gives amount carries).content source.lowMark
      (destination.takes amount carries).content destination.capacity s.policy.overfillMargin
    let moved := (s.readBy r last n).fuelMoved source destination amount carries
    exec .fuelConversion s = .next (s.ended .fuel { moved with
      transfers := update (·.number == t.number) (fun _ => match stop with
        | none => counted
        | some cause => { counted with state := .stopping cause, pumpRun := false, quiet := 0 }) s.transfers
      notices := if stop.isSome then moved.notices.raise .transfer else moved.notices }) := by
  intro carries counted stop moved
  obtain ⟨has, number, posts⟩ := h.pump_posts kind served undamaged hs hd apart whole (by rewrite [running]; rfl)
  have hasCounted : ((s.baselined r last).pumped t source destination amount intact).HasTransfer counted :=
    Txn.pumped_has has amount
  have freeCounted := Txn.pumped_errorFree (intact := intact) h.errorFree has hs hd amount
  have tests : ((s.baselined r last).pumped t source destination amount intact).st.stopTest counted = stop :=
    Txn.pumped_stopTest hs hd apart amount whole
  have stops := hasCounted.stopTests freeCounted running
  rewrite [tests] at stops
  have same : counted.number = t.number := rfl
  rewrite [same] at stops
  rewrite [if_pos running, stops] at posts
  cases cause : stop with
  | none =>
    rewrite [cause] at posts
    refine h.posted (f := (·.pumped t source destination amount intact)) posts rfl (fun _ => rfl) ?_ ?_ ?_ <;> rfl
  | some cause' =>
    let stopped : Transfer := { counted with state := .stopping cause', pumpRun := false, quiet := 0 }
    have entered : counted.enter (.stopping cause') = stopped := by
      have state : counted.state = .running := running
      simp [Transfer.enter, stopped, state, TransferState.stopCause?, TransferState.endReason?]
    have put := Txn.putTransfer_put (x := s.baselined r last) (t := counted) (u := stopped) rfl
    rewrite [cause] at posts
    dsimp only at posts
    rewrite [entered] at posts
    refine h.posted (f := fun x => (((x.putTransfer stopped).on fun s =>
      s.fuelMoved source destination amount (intact && amount != 0)).raise .transfer)) posts ?_ (fun _ => rfl) ?_ ?_ ?_
    · exact congrArg (fun x : Txn => ((x.on fun s =>
        s.fuelMoved source destination amount (intact && amount != 0)).raise .transfer)) put
    · rfl
    · rfl
    · rfl

end State.Converts

omit kind undamaged hs hd apart whole in
/-- R172: a reading of a pump that is stopping, with the transfer that it leaves. -/
theorem State.Converts.pump_leaves {y : Txn} {u : Transfer} {notices : NoticeUnit} (hu : u.number = t.number)
    (posts : (s.baselined r last).postConversion c amount d r.running = (y, true))
    (left : y = (((s.baselined r last).pumped t source destination amount intact).putTransfer u).on fun s =>
      { s with notices := notices }) :
    ∃ after, exec .fuelConversion s = .next after ∧ after.transfer? c.key = some u ∧
      after.tanks = (s.fuelMoved source destination amount (intact && amount != 0)).tanks := by
  let moved := (s.readBy r last n).fuelMoved source destination amount (intact && amount != 0)
  let t' : State := { moved with
    transfers := update (·.number == u.number) (fun _ => u) s.transfers, notices := notices }
  have put := Txn.putTransfer_put (x := s.baselined r last) (t := t.counted amount intact) (u := u) hu
  have runs : exec .fuelConversion s = .next (s.ended .fuel t') := by
    refine h.posted (f := fun x => (((x.putTransfer u).on fun s =>
      s.fuelMoved source destination amount (intact && amount != 0)).on fun s => { s with notices := notices })) posts ?_
      (fun _ => rfl) ?_ ?_ ?_
    · exact left.trans (congrArg (fun x : Txn => ((x.on fun s =>
        s.fuelMoved source destination amount (intact && amount != 0)).on fun s => { s with notices := notices })) put)
    · rfl
    · rfl
    · rfl
  obtain ⟨number, -⟩ := find?_key (key := Transfer.number) served
  refine ⟨_, runs, ?_, ?_⟩
  · have found : t'.transfer? c.key = some u := by
      have stored := find?_put (key := Transfer.number) (k := u.number) (a := u)
        (by rewrite [hu, number]; exact served) rfl
      rewrite [hu, number] at stored
      simpa [State.transfer?, t', hu, number] using stored
    simpa [State.ended, State.transfer?] using found
  · simp [State.ended, t', moved]
    rfl

theorem State.Converts.pump_stopping {cause : StopCause} (stopping : t.state = .stopping cause) :
    ∃ after u, exec .fuelConversion s = .next after ∧ after.transfer? c.key = some u ∧
      after.tanks = (s.fuelMoved source destination amount (intact && amount != 0)).tanks ∧
      (r.running = true ∨ t.quiet = 0 →
        u = { t.counted amount intact with quiet := if r.running then 0 else 1 }) ∧
      (r.running = false → 1 ≤ t.quiet → (t.counted amount intact).StoppingEnded u intact cause) ∧
      u.totalMoved = t.totalMoved + amount ∧ u.heldVolume = (t.counted amount intact).heldVolume := by
  obtain ⟨has, number, posts⟩ := h.pump_posts kind served undamaged hs hd apart whole (by rewrite [stopping]; rfl)
  have hasCounted : ((s.baselined r last).pumped t source destination amount intact).HasTransfer
      (t.counted amount intact) := Txn.pumped_has has amount
  have freeCounted := Txn.pumped_errorFree (intact := intact) h.errorFree has hs hd amount
  have sound := Txn.pumped_tanksSound (x := s.baselined r last) (t := t) hs hd apart amount whole
  obtain ⟨early, late⟩ := hasCounted.takeRunning freeCounted (cause := cause) stopping sound r.running
  rewrite [if_neg (by rewrite [stopping]; exact TransferState.noConfusion)] at posts
  by_cases soon : r.running = true ∨ t.quiet = 0
  · let heard : Transfer := { t.counted amount intact with quiet := if r.running then 0 else 1 }
    have self := Txn.on_notices_self (((s.baselined r last).pumped t source destination amount intact).putTransfer heard)
    obtain ⟨after, runs, found, tanks⟩ := h.pump_leaves (u := heard) served rfl posts ((early soon).trans self.symm)
    exact ⟨after, _, runs, found, tanks, fun _ => rfl, fun silent many => by
      rcases soon with heard | none
      · rewrite [silent] at heard
        exact absurd heard Bool.false_ne_true
      · omega, rfl, rfl⟩
  · obtain ⟨heard, some⟩ := not_or.mp soon
    obtain ⟨u, ended, notices, left⟩ := late (by simpa using heard) (Nat.pos_of_ne_zero some)
    obtain ⟨after, runs, found, tanks⟩ := h.pump_leaves served ended.number posts left
    exact ⟨after, u, runs, found, tanks, fun again => absurd again soon, fun _ _ => ended, ended.kept.1, ended.kept.2⟩

end

end

end

/-- Settles O47: a reading sets a baseline, or its conversion is posted to the block of its kind. -/
theorem conversionDrawsFromTheSupplyTank : Obligations.ConversionDrawsFromTheSupplyTank := by
  intro s r c factor granted free law one found params alone hr range expansion last t read base posting
  have hlast : lastTemperatureAfter r.temperature c.lastTemperature = last := by
    cases h : r.temperature with
    | none => simp [last, h, lastTemperatureAfter]
    | some t => simp [last, h, lastTemperatureAfter, clamped_temperature]
  have ht : conversionTemperature r.temperature c.lastTemperature = t := by
    cases h : r.temperature with
    | none => 
      simp only [t, last, h, conversionTemperature]
      cases c.lastTemperature <;> rfl
    | some _ => simp [t, last, h, conversionTemperature, clamped_temperature]
  have kept : s.baselined r last = Txn.start { base c.residual with arbiter := s.arbiter.grant .fuel } :=
    State.baselined_kept alone found
  refine ⟨fun fresh => ?_, fun b old hb => ?_⟩
  · have first := State.convert_first alone found fresh
    rewrite [hlast, kept] at first
    exact exec_fuelConversion granted one first rfl rfl
  · intro d v volume posted residual
    have hd : pulseDifference r.count b = d := pulseDifference_eq hr
    have hv : volume = convertedVolume (pulseDifference r.count b) c.parameters.meterFactor s.policy.expansion
        (conversionTemperature r.temperature c.lastTemperature) c.residual := by
      rewrite [hd, ht, params]
      rfl
    have h : s.Converts r c last posted d residual c.residual :=
      ⟨granted, one, free, law, kept, fun y ok posts => by
        have counted := State.convert_counted alone found old hv (y := y) (ok := ok)
        rewrite [hlast, hd] at counted
        exact counted posts⟩
    refine ⟨fun e kind served => ?_, fun tr kind served => ⟨fun still => ?_, ?_⟩⟩
    · intro put
      refine ⟨fun damaged => h.meter_unposted kind served damaged, fun undamaged none =>
        h.meter_nothing kind served undamaged none, fun tk undamaged much supply tank => ?_⟩
      have draws := h.meter_draws kind served undamaged much supply tank
      exact ⟨fun sound => by rewrite [if_neg (by rewrite [sound]; decide)] at draws; exact draws, fun damaged => by
        rewrite [if_pos damaged] at draws; exact draws⟩
    · exact h.pump_unposted kind served still
    · intro source destination undamaged hs hd apart intact full moved carries gives takes tanks first second
      refine ⟨fun running => ?_, fun cause stopping => ?_⟩
      · intro left stop
        exact h.pump_running kind served undamaged hs hd apart (intact := intact) rfl running
      · obtain ⟨after, u, runs, found, same, early, late, total, held⟩ :=
          h.pump_stopping kind served undamaged hs hd apart (intact := intact) rfl stopping
        exact ⟨after, u, runs, found, same, total, held, early, fun silent many =>
          ⟨(late silent many).mark, (late silent many).ends⟩⟩

/-! LOOK and LOOK NEXT: the items of a record field by field, and the walk of a table. -/

/-! ## The fields of a record (R4, R28, section 12.1) -/

theorem present_nil : present [] = [] := rfl

theorem present_cons (f : Nat) (o : Option Int) (fields : List (Nat × Option Int)) :
    present ((f, o) :: fields) = itemOf f o ++ present fields := by
  cases o <;> rfl

theorem present_append (a b : List (Nat × Option Int)) : present (a ++ b) = present a ++ present b :=
  List.filterMap_append ..

theorem itemOf_count (f n : Nat) : itemOf f (count n) = fieldNat f n := rfl

theorem itemOf_figure (f : Nat) (o : Option Nat) : itemOf f (figure o) = fieldOpt f o := rfl

theorem itemOf_yesNo (f : Nat) (b : Bool) : itemOf f (yesNo b) = fieldFlag f b := by cases b <;> rfl

theorem itemOf_some (f : Nat) (v : Int) : itemOf f (some v) = [item f v] := rfl

theorem itemOf_none (f : Nat) : itemOf f none = [] := rfl

theorem memberCode_eq (m : Member) : memberCode m = m.code := by cases m <;> rfl

theorem unitCode_eq (u : UnitState) : unitCode u = some u.code := by cases u <;> rfl

theorem codeFrom_couplingKind (k : CouplingKind) : codeFrom 1 [.face, .long, .breast] k = some k.code := by
  cases k <;> rfl

theorem codeFrom_tendOrder (o : TendOrder) : codeFrom 0 [.none, .make, .release] o = some o.code := by
  cases o <;> rfl

theorem codeFrom_couplingState (u : CouplingState) :
    codeFrom 0 [.unlashed, .settling, .made, .slack, .strained, .overload, .lost, .releasing] u = some u.code := by
  cases u <;> rfl

theorem codeFrom_direction (d : Direction) : codeFrom 0 [.none, .ahead, .astern] d = some d.code := by cases d <;> rfl

theorem codeFrom_rudderKind (k : RudderKind) : codeFrom 1 [.steering, .flanking] k = some k.code := by cases k <;> rfl

theorem codeFrom_tankKind (k : TankKind) : codeFrom 1 [.storage, .day] k = some k.code := by cases k <;> rfl

theorem codeFrom_transferMode (m : TransferMode) : codeFrom 1 [.single, .counted, .opened] m = some m.code := by
  cases m <;> rfl

theorem codeFrom_stopCause (c : StopCause) :
    codeFrom 1 [.batchEnd, .checkpoint, .sourceLow, .destFull, .tankDamaged, .aborted] c = some c.code := by
  cases c <;> rfl

theorem codeFrom_heldReason (r : HeldReason) :
    codeFrom 1 [.gapRequest, .checkpoint, .sourceLow, .destFull, .pumpLost, .tankDamaged] r = some r.code := by
  cases r <;> rfl

theorem codeFrom_endReason (r : EndReason) : codeFrom 1 [.complete, .aborted] r = some r.code := by cases r <;> rfl

theorem codeFrom_phase (p : Phase) : codeFrom 0 [.whole, .breaking, .split, .remaking] p = some p.code := by
  cases p <;> rfl

theorem codeFrom_stationKind (k : StationKind) :
    codeFrom 1 [.engine, .rudder, .meter, .pump, .gauge] k = some (k.code : Int) := by cases k <;> rfl

theorem codeFrom_contextState (c : ContextState) :
    codeFrom 0 [.offline, .parameterize, .configure, .exchange, .rejected] c = some c.code := by cases c <;> rfl

/-! ## The records (R39, R73, R112, R134, R148, R165) -/

theorem itemOf_seated (o : Option Bool) : itemOf 13 (o.map flagInt) = itemOf 13 (o.bind yesNo) := by
  cases o with
  | none => rfl
  | some b => cases b <;> rfl

theorem couplingItems_eq_shown (c : Coupling) : couplingItems c = c.shown := by
  have declared : [item 10 (flagInt c.declaredMade)] = itemOf 10 (yesNo c.declaredMade) := by
    cases c.declaredMade <;> rfl
  cases tended : c.tending <;>
    simp [couplingItems, Coupling.shown, tended, declared, itemOf_seated, present_cons, present_nil, itemOf_count,
      itemOf_figure, itemOf_yesNo, itemOf_some, itemOf_none, codeFrom_couplingKind, codeFrom_tendOrder,
      codeFrom_couplingState, memberCode_eq, Tending.code] <;>
    rfl

theorem engineItems_eq_shown (e : Engine) : engineItems e = e.shown := by
  by_cases bow : e.number = 5 <;>
    simp [engineItems, Engine.shown, bow, present_cons, present_nil, itemOf_count, itemOf_figure, itemOf_yesNo,
      itemOf_some, itemOf_none, unitCode_eq, codeFrom_direction]

theorem rudderItems_eq_shown (r : Rudder) : rudderItems r = r.shown := by
  simp [rudderItems, Rudder.shown, present_cons, present_nil, itemOf_count, itemOf_yesNo, itemOf_some, unitCode_eq,
    codeFrom_rudderKind]

theorem tankItems_eq_shown (t : Tank) : tankItems t = t.shown := by
  simp [tankItems, Tank.shown, present_cons, present_nil, itemOf_count, itemOf_figure, itemOf_yesNo, itemOf_some,
    codeFrom_tankKind]

theorem transferItems_eq_shown (t : Transfer) : transferItems t = t.shown := by
  have aborting : (if t.pendingAbort then [item 18 EndReason.aborted.code] else []) =
      itemOf 18 (if t.pendingAbort then some 2 else none) := by
    cases t.pendingAbort <;> rfl
  unfold transferItems Transfer.shown
  rewrite [aborting]
  cases t.state <;>
    simp only [TransferState.heldReason?, TransferState.endReason?, TransferState.stopCause?, TransferState.code,
      present_append, present_cons, present_nil, itemOf_count, itemOf_figure, itemOf_yesNo, itemOf_some, itemOf_none,
      codeFrom_transferMode, codeFrom_stopCause, codeFrom_heldReason, codeFrom_endReason, List.append_assoc,
      List.nil_append, List.append_nil, Option.map_some, Option.map_none] <;>
    rfl

theorem findIdx?_key {α : Type} (key : α → Nat) : ∀ (l : List α) (k : Nat),
    l.findIdx? (key · == k) = if k ∈ l.map key then some ((l.map key).idxOf k) else none
  | [], _ => rfl
  | a :: l, k => by
    by_cases h : key a = k
    · simp [List.findIdx?_cons, h]
    · have rest := findIdx?_key key l k
      by_cases listed : k ∈ l.map key
      · rewrite [if_pos listed] at rest
        rewrite [List.findIdx?_cons, if_neg (by simpa using h), rest, if_pos (by simp [listed]), List.map_cons,
          List.idxOf_cons_ne _ h]
        rfl
      · rewrite [if_neg listed] at rest
        rewrite [List.findIdx?_cons, if_neg (by simpa using h), rest, if_neg (by simp [listed, Ne.symm h])]
        rfl

namespace State

theorem bargeItems_eq_shown {s : State} {b : Barge} (enrolled : b ∈ s.barges) : s.bargeItems b = s.bargeShown b := by
  have place : s.place? b.hull = some ((s.barges.map (·.hull)).idxOf b.hull + 1) := by
    rewrite [State.place?, findIdx?_key, if_pos (List.mem_map_of_mem enrolled)]
    rfl
  simp [State.bargeItems, State.bargeShown, State.string?, State.rank?, State.stringAt, State.rankAt, place,
    present_cons, present_nil, itemOf_count, itemOf_figure, itemOf_yesNo]

theorem recordItems_eq_shown (s : State) (t : Tbl) (k : Nat) : s.recordItems t k = s.shown t k := by
  cases t
  case barges =>
    rewrite [State.recordItems, State.shown]
    cases found : s.barge? k with
    | none => rfl
    | some b => simp [State.bargeItems_eq_shown (List.mem_of_find?_eq_some found)]
  case couplings => simp [State.recordItems, State.shown, funext couplingItems_eq_shown]
  case engines => simp [State.recordItems, State.shown, funext engineItems_eq_shown]
  case rudders => simp [State.recordItems, State.shown, funext rudderItems_eq_shown]
  case tanks => simp [State.recordItems, State.shown, funext tankItems_eq_shown]
  case transfers => simp [State.recordItems, State.shown, funext transferItems_eq_shown]

end State

/-! ## The records outside the store's tables (R6, R179, R8, R55, R97) -/

theorem policyItems_eq_shown (p : Policy) : policyItems p = p.shown := by
  unfold policyItems Policy.shown
  simp only [present_cons, present_nil, itemOf_count, List.append_nil, List.append_assoc]

theorem lockageItems_eq_shown (l : Lockage) : lockageItems l = l.shown := by
  unfold lockageItems Lockage.shown
  have cut : itemOf 5 (match l.boatCut with | .none => some 0 | .cut k => count k | .conflict => some 15) =
      [item 5 l.boatCut.code] := by
    cases l.boatCut <;> rfl
  simp only [present_cons, present_nil, itemOf_count, itemOf_figure, itemOf_some, codeFrom_phase,
    List.append_nil, List.append_assoc, ← cut] <;>
  rfl

theorem statusItems_eq_shown (u : TowStatus) : statusItems u = u.shown := by
  unfold statusItems TowStatus.shown
  simp only [present_cons, present_nil, itemOf_count, itemOf_yesNo, List.append_nil, List.append_assoc]

theorem slotValue_some (c : Slot) : slotValue (some c) = (match c.command with
    | .heave t => 1 * 16777216 + t * 256
    | .ease t => 2 * 16777216 + t * 256
    | .payOut => 3 * 16777216
    | .hold => 4 * 16777216
    | .stop => 5 * 16777216 : Nat) + (c.failures : Int) := by
  cases command : c.command <;> simp [slotValue, command, WinchCommand.code, WinchCommand.target]

theorem State.nodeItems_eq_shown (s : State) (n : Node) : s.nodeItems n = s.nodeShown n := by
  have kind : [item 2 (s.nodeKindCode n)] =
      itemOf 2 (if n.bow then some 3 else if s.bound n.address = some .boat then some 2 else some 1) := by
    unfold State.nodeKindCode
    split
    · rfl
    · split <;> rfl
  have standing : [item 4 (if n.missing then 2 else 1)] = itemOf 4 (if n.missing then some 2 else some 1) := by
    cases n.missing <;> rfl
  have slots (p : Option Slot × Nat) : ({ field := 6 + p.2, value := slotValue p.1, width := some 4 } : ResponseItem) =
      { field := 6 + p.2, width := some 4, value := match p.1 with
        | none => 0
        | some c => (match c.command with
          | .heave t => 1 * 16777216 + t * 256
          | .ease t => 2 * 16777216 + t * 256
          | .payOut => 3 * 16777216
          | .hold => 4 * 16777216
          | .stop => 5 * 16777216 : Nat) + (c.failures : Int) } := by
    obtain ⟨command, i⟩ := p
    cases command with
    | none => rfl
    | some c => rw [slotValue_some c]
  rewrite [State.nodeItems, State.nodeShown, kind, standing, funext slots, funext memberCode_eq]
  simp only [present_cons, present_nil, itemOf_count, List.append_nil, List.append_assoc] <;>
  rfl

theorem contextItems_eq_shown (c : Context) : contextItems c = c.shown := by
  unfold contextItems Context.shown
  cases c.kind <;>
    simp only [present_cons, present_nil, itemOf_count, itemOf_figure, itemOf_some, itemOf_none, codeFrom_stationKind,
      codeFrom_contextState, reduceCtorEq, or_true, or_false, if_true, if_false, List.append_nil,
      List.append_assoc] <;>
    rfl

/-! ## LOOK (R28) -/

theorem Request.admits_storeTable {n : Nat} {t : Tbl} (h : storeTable n = some t) :
    (n = 1 ∧ t = .barges) ∨ (n = 3 ∧ t = .couplings) ∨ (n = 4 ∧ t = .engines) ∨ (n = 5 ∧ t = .rudders) ∨
      (n = 6 ∧ t = .tanks) ∨ (n = 7 ∧ t = .transfers) := by
  unfold storeTable at h
  split at h <;> cases h <;> simp

theorem natOf_cast (n : Nat) : natOf n = some n := by simp [natOf]

namespace State

theorem opened_header? (s : State) (t : Tbl) (k : Nat) : s.opened.st.header? t k = s.header? t k := by
  cases t <;> rfl

theorem take_shown (s : State) (r : Requester) (t : Tbl) (k : Nat) : (s.take r).shown t k = s.shown t k := by
  cases t <;> rfl

theorem opened_read {s : State} (free : s.errorFree = true) (t : Tbl) (k : Nat) (ws : List Nat) :
    s.opened.read t k ws = (s.opened, s.sound t k) := by
  rw [Txn.read_errorFree s.opened free, State.sound, State.sound, s.opened_header? t k]

end State

section
variable {s : State} {q : Request} {table : Byte} {k : Nat}

/-- LOOK of a record by its key, once its table is known. -/
theorem requestLook_storeTable (hq : q.carries 0x01 table [⟨1, k⟩]) {t : Tbl} (ht : storeTable table.toNat = some t)
    (x : Txn) : requestLook q x = lookRecord x t k := by
  have admitted : (decide (1 ≤ table.toNat) && decide (table.toNat ≤ 12)) = true := by
    rcases Request.admits_storeTable ht with ⟨h, -⟩ | ⟨h, -⟩ | ⟨h, -⟩ | ⟨h, -⟩ | ⟨h, -⟩ | ⟨h, -⟩ <;> simp [h]
  have alone : keyAlone table.toNat [⟨1, k⟩] = true := by
    rcases Request.admits_storeTable ht with ⟨h, -⟩ | ⟨h, -⟩ | ⟨h, -⟩ | ⟨h, -⟩ | ⟨h, -⟩ | ⟨h, -⟩ <;> rewrite [h] <;> rfl
  have parsed := Request.parse_of_carries hq (admits := fun t => decide (1 ≤ t) && decide (t ≤ 12)) admitted rfl
  obtain ⟨-, rfl, -⟩ := hq
  simp only [requestLook, parsed, alone, if_true, ht]
  rfl

theorem lookRecord_opened (free : s.errorFree = true) (t : Tbl) (k : Nat) :
    lookRecord s.opened t (k : Nat) = match s.header? t k with
      | none => refuse s.opened .noRecord
      | some h => if h.damaged then refuse s.opened .damaged else answer s.opened (s.shown t k) := by
  rewrite [lookRecord, natOf_cast]
  dsimp only
  rewrite [s.opened_header? t k, State.opened_read free, State.sound]
  cases s.header? t k with
  | none => rfl
  | some h =>
    cases damaged : h.damaged
    · simp [damaged, State.recordItems_eq_shown, State.take_shown]
    · simp [damaged]

end

/-- R28: LOOK of a record of a store table. -/
theorem look_storeTable {s : State} {q : Request} {qs : List Request} {table : Byte} {t : Tbl} {k : Nat}
    (hs : s.serves q qs) (hq : q.carries 0x01 table [⟨1, k⟩]) (ht : storeTable table.toNat = some t)
    (free : s.errorFree = true) :
    (∀ h, s.header? t k = some h → h.damaged = false →
      exec .look s = .next (s.answered q qs .done (s.shown t k) s)) ∧
    (∀ h, s.header? t k = some h → h.damaged = true → exec .look s = .next (s.answered q qs .damaged [] s)) ∧
    (s.header? t k = none → exec .look s = .next (s.answered q qs .noRecord [] s)) := by
  have body := (requestLook_storeTable hq ht s.opened).trans (lookRecord_opened free t k)
  refine ⟨fun h found sound => ?_, fun h found damaged => ?_, fun missing => ?_⟩
  · refine exec_quiet (c := .look) rfl rfl hs hq.1 ?_ rfl rfl
    rewrite [body, found]
    exact if_neg (by simp [sound])
  · refine exec_refused (c := .look) rfl rfl hs hq.1 ?_
    rewrite [body, found]
    exact if_pos damaged
  · refine exec_refused (c := .look) rfl rfl hs hq.1 ?_
    rw [body, missing]

/-! ## LOOK of the other tables -/

section
variable {s : State} {q : Request} {qs : List Request}

/-- A request for a table that is not in the store, which leaves the state as it was. -/
theorem look_answered {items : List ResponseItem} (hs : s.serves q qs) (hc : q.code = 0x01)
    (body : requestLook q s.opened = answer s.opened items) :
    exec .look s = .next (s.answered q qs .done items s) :=
  exec_quiet (c := .look) rfl rfl hs hc body rfl rfl

theorem lookNext_answered {items : List ResponseItem} (hs : s.serves q qs) (hc : q.code = 0x02)
    (body : requestLookNext q s.opened = answer s.opened items) :
    exec .lookNext s = .next (s.answered q qs .done items s) :=
  exec_quiet (c := .lookNext) rfl rfl hs hc body rfl rfl

theorem requestLook_keyless {table : Byte} (hq : q.carries 0x01 table [])
    (ht : table.toNat = 2 ∨ table.toNat = 8 ∨ table.toNat = 9 ∨ table.toNat = 10) (x : Txn) :
    requestLook q x = answer x (
      if table.toNat = 2 then x.st.stringItems else if table.toNat = 8 then policyItems x.st.policy
      else if table.toNat = 9 then lockageItems x.st.lockage else statusItems x.st.status) := by
  have parsed := Request.parse_of_carries hq (admits := fun t => decide (1 ≤ t) && decide (t ≤ 12))
    (by rcases ht with h | h | h | h <;> rewrite [h] <;> rfl) rfl
  obtain ⟨-, rfl, -⟩ := hq
  simp only [requestLook, parsed]
  rcases ht with h | h | h | h <;> rewrite [h] <;> rfl

theorem look_node {k : Nat} (hs : s.serves q qs) (hq : q.carries 0x01 11 [⟨1, k⟩]) :
    exec .look s = .next (match s.node? k with
      | some n => s.answered q qs .done (s.nodeShown n) s
      | none => s.answered q qs .noRecord [] s) := by
  have body : requestLook q s.opened = match (natOf (k : Int)).bind s.node? with
      | some n => answer s.opened (s.nodeItems n)
      | none => refuse s.opened .noRecord := by
    have parsed := Request.parse_of_carries hq (admits := fun t => decide (1 ≤ t) && decide (t ≤ 12)) rfl rfl
    obtain ⟨-, table, -⟩ := hq
    simp only [requestLook, parsed, table]
    rfl
  rewrite [natOf_cast, Option.bind_some] at body
  cases found : s.node? k with
  | none =>
    rewrite [found] at body
    exact exec_refused (c := .look) rfl rfl hs hq.1 body
  | some n =>
    rewrite [found] at body
    exact look_answered hs hq.1 (body.trans (congrArg (answer s.opened) (State.nodeItems_eq_shown s n)))

theorem look_context {k : Nat} (hs : s.serves q qs) (hq : q.carries 0x01 12 [⟨1, k⟩]) :
    exec .look s = .next (match s.context? k with
      | some c => s.answered q qs .done (c.shown) s
      | none => s.answered q qs .noRecord [] s) := by
  have body : requestLook q s.opened = match (natOf (k : Int)).bind s.context? with
      | some c => answer s.opened (contextItems c)
      | none => refuse s.opened .noRecord := by
    have parsed := Request.parse_of_carries hq (admits := fun t => decide (1 ≤ t) && decide (t ≤ 12)) rfl rfl
    obtain ⟨-, table, -⟩ := hq
    simp only [requestLook, parsed, table]
    rfl
  rewrite [natOf_cast, Option.bind_some] at body
  cases found : s.context? k with
  | none =>
    rewrite [found] at body
    exact exec_refused (c := .look) rfl rfl hs hq.1 body
  | some c =>
    rewrite [found] at body
    exact look_answered hs hq.1 (body.trans (congrArg (answer s.opened) (contextItems_eq_shown c)))

theorem within_cast (v last : Nat) : within (v : Int) 0 (last : Int) = decide (v ≤ last) := by
  simp [within]

theorem lookNext_node {k : Nat} (hs : s.serves q qs) (hq : q.carries 0x02 11 [⟨1, k⟩]) :
    exec .lookNext s = .next (if 126 < k then s.answered q qs (.badField 1) [] s
      else match s.tow.nodes.find? (fun n => decide (k < n.address)) with
        | some n => s.answered q qs .done (s.nodeShown n) s
        | none => s.answered q qs .noRecord [] s) := by
  have body : requestLookNext q s.opened = if within (k : Int) 0 (126 : Nat) then
      (match s.tow.nodes.find? fun n => decide ((k : Int) < n.address) with
        | some n => answer s.opened (s.nodeItems n)
        | none => refuse s.opened .noRecord)
      else refuse s.opened (.badField 1) := by
    have parsed := Request.parse_of_carries hq (admits := fun t => t == 1 || t == 3 || t == 4 || t == 5 || t == 6 ||
      t == 7 || t == 11 || t == 12) rfl rfl
    obtain ⟨-, table, -⟩ := hq
    simp only [requestLookNext, parsed, table]
    rfl
  simp only [within_cast, decide_eq_true_eq, Int.ofNat_lt] at body
  by_cases h : 126 < k
  · rewrite [if_neg (by omega)] at body
    rewrite [if_pos h]
    exact exec_refused (c := .lookNext) rfl rfl hs hq.1 body
  · rewrite [if_pos (by omega)] at body
    rewrite [if_neg h]
    cases found : s.tow.nodes.find? (fun n => decide (k < n.address)) with
    | none =>
      rewrite [found] at body
      exact exec_refused (c := .lookNext) rfl rfl hs hq.1 body
    | some n =>
      rewrite [found] at body
      exact lookNext_answered hs hq.1 (body.trans (congrArg (answer s.opened) (State.nodeItems_eq_shown s n)))

theorem lookNext_context {k : Nat} (hs : s.serves q qs) (hq : q.carries 0x02 12 [⟨1, k⟩]) :
    exec .lookNext s = .next (if 31 < k then s.answered q qs (.badField 1) [] s
      else match s.link.contexts.find? (fun c => decide (k < c.address)) with
        | some c => s.answered q qs .done (c.shown) s
        | none => s.answered q qs .noRecord [] s) := by
  have body : requestLookNext q s.opened = if within (k : Int) 0 (31 : Nat) then
      (match s.link.contexts.find? fun c => decide ((k : Int) < c.address) with
        | some c => answer s.opened (contextItems c)
        | none => refuse s.opened .noRecord)
      else refuse s.opened (.badField 1) := by
    have parsed := Request.parse_of_carries hq (admits := fun t => t == 1 || t == 3 || t == 4 || t == 5 || t == 6 ||
      t == 7 || t == 11 || t == 12) rfl rfl
    obtain ⟨-, table, -⟩ := hq
    simp only [requestLookNext, parsed, table]
    rfl
  simp only [within_cast, decide_eq_true_eq, Int.ofNat_lt] at body
  by_cases h : 31 < k
  · rewrite [if_neg (by omega)] at body
    rewrite [if_pos h]
    exact exec_refused (c := .lookNext) rfl rfl hs hq.1 body
  · rewrite [if_pos (by omega)] at body
    rewrite [if_neg h]
    cases found : s.link.contexts.find? (fun c => decide (k < c.address)) with
    | none =>
      rewrite [found] at body
      exact exec_refused (c := .lookNext) rfl rfl hs hq.1 body
    | some c =>
      rewrite [found] at body
      exact lookNext_answered hs hq.1 (body.trans (congrArg (answer s.opened) (contextItems_eq_shown c)))

/-! ## LOOK NEXT of the store's tables (R29) -/

theorem requestLookNext_storeTable {table : Byte} {v : Nat} (hq : q.carries 0x02 table [⟨1, v⟩]) {t : Tbl}
    (ht : storeTable table.toNat = some t) (x : Txn) :
    requestLookNext q x = if v ≤ greatestKey table.toNat then lookNextRecord x t v else refuse x (.badField 1) := by
  have admitted : (table.toNat == 1 || table.toNat == 3 || table.toNat == 4 || table.toNat == 5 || table.toNat == 6 ||
      table.toNat == 7 || table.toNat == 11 || table.toNat == 12) = true := by
    rcases Request.admits_storeTable ht with ⟨h, -⟩ | ⟨h, -⟩ | ⟨h, -⟩ | ⟨h, -⟩ | ⟨h, -⟩ | ⟨h, -⟩ <;> simp [h]
  have alone : keyAlone table.toNat [⟨1, v⟩] = true := by
    rcases Request.admits_storeTable ht with ⟨h, -⟩ | ⟨h, -⟩ | ⟨h, -⟩ | ⟨h, -⟩ | ⟨h, -⟩ | ⟨h, -⟩ <;> rewrite [h] <;> rfl
  have parsed := Request.parse_of_carries hq (admits := fun t => t == 1 || t == 3 || t == 4 || t == 5 || t == 6 ||
      t == 7 || t == 11 || t == 12) admitted rfl
  have value : (valueOf [(⟨1, v⟩ : Item)] 1).getD 0 = (v : Int) := rfl
  obtain ⟨-, rfl, -⟩ := hq
  simp only [requestLookNext, parsed, alone, if_true, ht, value, within_cast, decide_eq_true_eq, Int.toNat_natCast]

namespace State

/-- R29: what a walk that finds `follows` behind the key given answers. -/
def walkAnswers (s : State) (q : Request) (qs : List Request) (t : Tbl) (follows : Option Nat) : Prop :=
  (follows = none → exec .lookNext s = .next (s.answered q qs .noRecord [] s)) ∧
  ∀ k, follows = some k →
    (s.sound t k = true → exec .lookNext s = .next (s.answered q qs .done (s.shown t k) s)) ∧
    ∀ h, s.header? t k = some h → h.damaged = true → exec .lookNext s = .next (s.answered q qs .damaged [item 1 k] s)

theorem opened_following (s : State) (t : Tbl) (v : Nat) : s.opened.st.following t v = s.following t v := by
  cases t <;> rfl

theorem walkAnswers_following {table : Byte} {t : Tbl} {v : Nat} (hs : s.serves q qs)
    (hq : q.carries 0x02 table [⟨1, v⟩]) (ht : storeTable table.toNat = some t) (free : s.errorFree = true)
    (le : v ≤ greatestKey table.toNat) : s.walkAnswers q qs t (s.following t v) := by
  have body : requestLookNext q s.opened = match s.following t v with
      | none => refuse s.opened .noRecord
      | some k => if s.sound t k then answer s.opened (s.shown t k) else (s.opened, .damaged, [item 1 k]) := by
    rewrite [requestLookNext_storeTable hq ht, if_pos le, lookNextRecord, s.opened_following t v]
    cases s.following t v with
    | none => rfl
    | some k =>
      dsimp only
      rewrite [State.opened_read free]
      cases s.sound t k
      · rfl
      · simp [State.recordItems_eq_shown, State.take_shown]
  refine ⟨fun nothing => ?_, fun k found => ⟨fun sound => ?_, fun h header damaged => ?_⟩⟩
  · rewrite [nothing] at body
    exact exec_refused (c := .lookNext) rfl rfl hs hq.1 body
  · rewrite [found] at body
    exact lookNext_answered hs hq.1 (body.trans (if_pos sound))
  · have unsound : ¬s.sound t k = true := by simp [State.sound, header, damaged]
    rewrite [found] at body
    exact exec_quiet (c := .lookNext) rfl rfl hs hq.1 (body.trans (if_neg unsound)) rfl rfl

theorem following_zero (s : State) : s.following .barges 0 = (s.barges.map (·.hull)).head? := rfl

theorem following_unlisted {v : Nat} (positive : 1 ≤ v) (unlisted : v ∉ s.barges.map (·.hull)) :
    s.following .barges v = none := by
  have keys : s.keys .barges = s.barges.map (·.hull) := rfl
  rw [State.following, if_pos rfl, if_neg (by omega), keys, List.findIdx?_map,
    show ((· == v) ∘ fun b : Barge => b.hull) = (·.hull == v) from rfl, findIdx?_key, if_neg unlisted]

theorem following_listed {v : Nat} (positive : 1 ≤ v) {before after : List Nat}
    (split : s.barges.map (·.hull) = before ++ v :: after) (first : v ∉ before) :
    s.following .barges v = after.head? := by
  have keys : s.keys .barges = s.barges.map (·.hull) := rfl
  have place : (before ++ v :: after).idxOf v = before.length := by
    rw [List.idxOf_append_of_notMem first, List.idxOf_cons_self, Nat.add_zero]
  rewrite [State.following, if_pos rfl, if_neg (by omega), keys, List.findIdx?_map,
    show ((· == v) ∘ fun b : Barge => b.hull) = (·.hull == v) from rfl, findIdx?_key, if_pos (by simp [split])]
  have next : (before ++ v :: after)[before.length + 1]? = after.head? := by
    rw [List.getElem?_append_right (by omega), Nat.add_sub_cancel_left, List.getElem?_cons_succ,
      List.head?_eq_getElem?]
  simp [split, place, next]

end State

end

/-- Settles O12: each table's LOOK and LOOK NEXT. -/
theorem lookReturnsTheRecord : Obligations.LookReturnsTheRecord := by
  refine ⟨fun s q qs table t k hs hq ht free => look_storeTable hs hq ht free,
    fun s q qs hs => ⟨fun hq => ?_, fun hq => ?_, fun hq => ?_, fun hq => ?_, fun k => ⟨look_node hs, look_context hs,
      lookNext_node hs, lookNext_context hs⟩⟩, fun s q qs table t v hs hq ht free => ?_⟩
  · exact look_answered hs hq.1 (requestLook_keyless hq (.inl rfl) _)
  · refine look_answered hs hq.1 ((requestLook_keyless hq (.inr (.inl rfl)) _).trans ?_)
    rewrite [← policyItems_eq_shown]
    rfl
  · refine look_answered hs hq.1 ((requestLook_keyless hq (.inr (.inr (.inl rfl))) _).trans ?_)
    rewrite [← lockageItems_eq_shown]
    rfl
  · refine look_answered hs hq.1 ((requestLook_keyless hq (.inr (.inr (.inr rfl))) _).trans ?_)
    rewrite [← statusItems_eq_shown]
    rfl
  · have walks (le : v ≤ greatestKey table.toNat) : s.walkAnswers q qs t (s.following t v) :=
      State.walkAnswers_following hs hq ht free le
    have bargeKeys (h : t = .barges) : greatestKey table.toNat = 65535 := by
      rcases Request.admits_storeTable ht with ⟨h, -⟩ | ⟨-, rfl⟩ | ⟨-, rfl⟩ | ⟨-, rfl⟩ | ⟨-, rfl⟩ | ⟨-, rfl⟩
      · rewrite [h]
        rfl
      all_goals cases h
    refine ⟨fun beyond => ?_, fun le other => ?_, fun barges zero => ?_, fun barges positive last => ?_⟩
    · refine exec_refused (c := .lookNext) rfl rfl hs hq.1 ?_
      rw [requestLookNext_storeTable hq ht, if_neg (by omega)]
    · have next := walks le
      rewrite [State.following, if_neg other] at next
      exact next
    · subst zero
      have next := walks (Nat.zero_le _)
      rewrite [barges, State.following_zero] at next
      rewrite [barges]
      exact next
    · have next := walks (by rewrite [bargeKeys barges]; exact last)
      rewrite [barges] at next ⊢
      refine ⟨fun unlisted => ?_, fun before after split first => ?_⟩
      · rewrite [State.following_unlisted positive unlisted] at next
        exact next
      · rewrite [State.following_listed positive split first] at next
        exact next

/-! The loss of nodes over a store without errors: what each drop brings, and the emptying of the list. -/

/-! ## A coupling that loses its node (R89, R92) -/

namespace Coupling

theorem nodeLost_number (c : Coupling) : c.nodeLost.number = c.number := by
  unfold Coupling.nodeLost
  repeat' split
  all_goals rfl

theorem nodeLost_tending (c : Coupling) : c.nodeLost.tending = c.tending := by
  unfold Coupling.nodeLost
  repeat' split
  all_goals rfl

theorem nodeLost_damaged (c : Coupling) : c.nodeLost.header.damaged = c.header.damaged := by
  unfold Coupling.nodeLost
  repeat' split
  all_goals rfl

theorem nodeLost_tendedBy (c : Coupling) (m : Member) : c.nodeLost.tendedBy m = c.tendedBy m := by
  rw [Coupling.tendedBy, Coupling.tendedBy, c.nodeLost_tending]

theorem nodeLost_errorFree {c : Coupling} (free : c.header.errorFree = true) :
    c.nodeLost.header.errorFree = true := by
  unfold Coupling.nodeLost
  repeat' split
  all_goals first
    | exact free
    | exact errorFree_of_renewed free

/-- R68: a second loss finds nothing more to lose. -/
theorem nodeLost_nodeLost (c : Coupling) : c.nodeLost.nodeLost = c.nodeLost := by
  unfold Coupling.nodeLost
  by_cases damaged : c.header.damaged = true
  · by_cases seen : c.dropSeen = true
    · simp [damaged, seen]
    · simp [damaged, seen, Coupling.renew, Header.renew]
  · by_cases idle : c.state = .unlashed ∨ c.state = .lost
    · simp [damaged, idle]
    · simp [damaged, idle]

theorem nodeLost_of_unlashed {c : Coupling} (h : c.presents = .unlashed) :
    c.nodeLost = { c with tension := none, seated := none } := by
  unfold Coupling.presents at h
  split at h
  · cases h
  · rw [Coupling.nodeLost, if_neg ‹_›, if_pos (.inl h)]

theorem nodeLost_presents {c : Coupling} (h : c.presents = .unlashed) : c.nodeLost.presents = .unlashed := by
  rewrite [Coupling.nodeLost_of_unlashed h]
  exact h

theorem nodeLost_outside {c : Coupling} (h : c.presents.inMadeGroup = false) :
    c.nodeLost.presents.inMadeGroup = false := by
  unfold Coupling.presents at h ⊢
  rewrite [c.nodeLost_damaged]
  split at h
  · simp_all
  · rename_i undamaged
    rewrite [if_neg undamaged, Coupling.nodeLost, if_neg undamaged]
    split
    · exact h
    · rfl

end Coupling

theorem State.sound_of_mem_couplings {s : State} (once : (s.couplings.map (·.number)).Nodup) {c : Coupling}
    (hc : c ∈ s.couplings) : s.sound .couplings c.number = !c.header.damaged :=
  State.sound_coupling (find?_eq_some_of_nodup (key := Coupling.number) once hc)

/-- R89, R92: what the loss of its node does to a coupling; COUPLING is not raised of an unlashed one. -/
theorem Txn.loseCoupling_free {x : Txn} (free : x.st.errorFree = true) (once : (x.st.couplings.map (·.number)).Nodup)
    (k : Nat) : ∃ b : Bool,
      x.loseCoupling k = (x.on fun s => { s with
        couplings := update (·.number == k) Coupling.nodeLost s.couplings }).raiseIf b .coupling ∧
      ((∀ c ∈ x.st.couplings, c.number = k → c.presents = .unlashed) → b = false) := by
  have clean := (x.st.errorFree_iff.mp free).2.1
  rewrite [Txn.loseCoupling, Txn.read_errorFree x free]
  cases found : x.st.coupling? k with
  | none =>
    have unsound : x.st.sound .couplings k = false := by simp [State.sound, State.header?, found]
    have stands : update (·.number == k) Coupling.nodeLost x.st.couplings = x.st.couplings :=
      update_eq_self (key := Coupling.number) fun c hc hk => absurd hk (by simpa using List.find?_eq_none.mp found c hc)
    refine ⟨false, ?_, fun _ => rfl⟩
    rewrite [unsound]
    dsimp only
    rewrite [Txn.dropDamaged, found]
    simp only [Txn.raiseIf, Txn.on, stands, Bool.false_eq_true, if_false]
  | some c =>
    obtain ⟨hk, mem⟩ := find?_key (key := Coupling.number) found
    have only {d : Coupling} (hd : d ∈ x.st.couplings) (same : d.number = k) : d = c :=
      eq_of_nodup_key once hd mem (same.trans hk.symm)
    have write {ws : List Nat} {g : Coupling → Coupling} (h : (g c).renew ws = c.nodeLost) :
        x.modCoupling k ws g = x.on fun s => { s with
          couplings := update (·.number == k) Coupling.nodeLost s.couplings } := by
      refine congrArg (fun l => x.on fun s => { s with couplings := l }) (update_congr (key := Coupling.number) ?_)
      intro d hd same
      rewrite [only hd same]
      exact h
    rewrite [State.sound_coupling found]
    cases damaged : c.header.damaged with
    | true =>
      have presents : c.presents ≠ .unlashed := by simp [Coupling.presents, damaged]
      simp only [Bool.not_true, Txn.dropDamaged, found]
      by_cases seen : c.dropSeen = true
      · have stands : update (·.number == k) Coupling.nodeLost x.st.couplings = x.st.couplings :=
          update_eq_self (key := Coupling.number) fun d hd same => by
            rw [only hd same, Coupling.nodeLost, if_pos damaged, if_pos seen]
        refine ⟨false, ?_, fun _ => rfl⟩
        rewrite [if_pos seen]
        simp only [Txn.raiseIf, Txn.on, stands, Bool.false_eq_true, if_false]
      · refine ⟨true, ?_, fun h => absurd (h c mem hk) presents⟩
        rewrite [if_neg seen, write (by rw [Coupling.nodeLost, if_pos damaged, if_neg seen])]
        rfl
    | false =>
      have bad := Header.bad_eq_nil (clean c mem) damaged
      have undamaged : ¬c.header.damaged = true := by simp [damaged]
      simp only [Bool.not_false, found]
      by_cases idle : c.state = .unlashed ∨ c.state = .lost
      · refine ⟨false, ?_, fun _ => rfl⟩
        rewrite [if_pos idle, write (by
          rewrite [Coupling.nodeLost, if_neg undamaged, if_pos idle]; exact Coupling.renew_clean _ _ bad)]
        rfl
      · refine ⟨true, ?_, fun h => ?_⟩
        · rewrite [if_neg idle, write (by
            rewrite [Coupling.nodeLost, if_neg undamaged, if_neg idle]; exact Coupling.renew_clean _ _ bad)]
          rfl
        · exact absurd (h c mem hk) fun presents => idle (.inl (by simpa [Coupling.presents, damaged] using presents))

/-! ## Raises (R35) -/

namespace NoticeUnit

/-- R35: a notice unit after `n` raises of a cause. -/
def raised (u : NoticeUnit) (c : Cause) (n : Nat) : NoticeUnit :=
  (List.replicate n c).foldl NoticeUnit.raise u

theorem raised_zero (u : NoticeUnit) (c : Cause) : u.raised c 0 = u := rfl

theorem raised_succ (u : NoticeUnit) (c : Cause) (n : Nat) : u.raised c (n + 1) = (u.raise c).raised c n := rfl

theorem raise_get (u : NoticeUnit) {c d : Cause} (other : d ≠ c) : (u.raise c).get d = u.get d := by
  cases c <;> cases d <;> first | rfl | exact absurd rfl other

theorem raised_get (c d : Cause) (other : d ≠ c) : ∀ (n : Nat) (u : NoticeUnit),
    (u.raised c n).get d = u.get d
  | 0, _ => rfl
  | n + 1, u => by rw [NoticeUnit.raised_succ, NoticeUnit.raised_get c d other n, u.raise_get other]

end NoticeUnit

/-! ## A member that loses its node (R89) -/

/-- The transaction with couplings and notices as given. -/
def Txn.withCouplings (x : Txn) (l : List Coupling) (u : NoticeUnit) : Txn :=
  x.on fun s => { s with couplings := l, notices := u }

theorem State.errorFree_couplings {s : State} (free : s.errorFree = true) {l : List Coupling} (u : NoticeUnit)
    (clean : ∀ c ∈ l, c.header.errorFree = true) : ({ s with couplings := l, notices := u } : State).errorFree = true := by
  obtain ⟨h1, -, h3⟩ := s.errorFree_iff.mp free
  exact (State.errorFree_iff _).mpr ⟨h1, clean, h3⟩

theorem Txn.forKeys_loseCoupling : ∀ (keys : List Nat) {x : Txn}, x.st.errorFree = true →
    (x.st.couplings.map (·.number)).Nodup → ∃ n : Nat,
      x.forKeys keys (fun k y => y.loseCoupling k) = x.withCouplings
        (x.st.couplings.map fun c => if c.number ∈ keys then c.nodeLost else c) (x.st.notices.raised .coupling n) ∧
      ((∀ c ∈ x.st.couplings, c.number ∈ keys → c.presents = .unlashed) → n = 0)
  | [], x, _, _ => ⟨0, by simp [Txn.forKeys, Txn.withCouplings, Txn.on, NoticeUnit.raised_zero], fun _ => rfl⟩
  | k :: keys, x, free, once => by
    obtain ⟨b, first, quiet⟩ := Txn.loseCoupling_free free once k
    let y := x.withCouplings (update (·.number == k) Coupling.nodeLost x.st.couplings)
      (x.st.notices.raised .coupling b.toNat)
    have here : x.loseCoupling k = y := by
      rewrite [first]
      cases b <;> rfl
    have clean : ∀ c ∈ update (·.number == k) Coupling.nodeLost x.st.couplings, c.header.errorFree = true :=
      forall_mem_update (p := fun c : Coupling => c.header.errorFree = true)
        (fun c _ _ h => Coupling.nodeLost_errorFree h) (x.st.errorFree_iff.mp free).2.1
    have unique : (y.st.couplings.map (·.number)).Nodup := by
      rewrite [show y.st.couplings = update (·.number == k) Coupling.nodeLost x.st.couplings from rfl,
        map_update _ _ _ _ Coupling.nodeLost_number]
      exact once
    obtain ⟨n, rest, quietRest⟩ := Txn.forKeys_loseCoupling keys (x := y)
      (State.errorFree_couplings free _ clean) unique
    have couplings : (y.st.couplings.map fun c => if c.number ∈ keys then c.nodeLost else c) =
        x.st.couplings.map fun c => if c.number ∈ k :: keys then c.nodeLost else c := by
      refine (List.map_map ..).trans (List.map_congr_left fun c _ => ?_)
      by_cases hk : c.number = k
      · by_cases more : k ∈ keys
        · simp [hk, more, Coupling.nodeLost_number, Coupling.nodeLost_nodeLost]
        · simp [hk, more, Coupling.nodeLost_number]
      · simp [hk]
    have notices : y.st.notices.raised .coupling n = x.st.notices.raised .coupling (b.toNat + n) := by
      rewrite [NoticeUnit.raised, NoticeUnit.raised, List.replicate_add, List.foldl_append]
      rfl
    refine ⟨b.toNat + n, ?_, fun unlashed => ?_⟩
    · rewrite [Txn.forKeys, List.foldl_cons, here]
      refine rest.trans ?_
      rewrite [couplings, notices]
      rfl
    · have none := quiet fun c hc hk => unlashed c hc (by simp [hk])
      subst none
      refine (Nat.zero_add n).trans (quietRest fun d hd listed => ?_)
      obtain ⟨c, hc, rfl⟩ := (mem_update _ _ _ _).mp hd
      split at listed
      · rewrite [if_pos ‹_›]
        exact Coupling.nodeLost_presents (unlashed c hc (by simp_all))
      · rewrite [if_neg ‹_›]
        exact unlashed c hc (by simp_all)

theorem State.mem_tended {s : State} (once : (s.couplings.map (·.number)).Nodup) {m : Member} {c : Coupling}
    (hc : c ∈ s.couplings) : c.number ∈ s.tended m ↔ c.tendedBy m = true := by
  constructor
  · intro h
    obtain ⟨d, hd, same⟩ := List.mem_map.mp h
    obtain ⟨mem, tended⟩ := List.mem_filter.mp hd
    rwa [← eq_of_nodup_key once mem hc same]
  · exact fun h => List.mem_map_of_mem (List.mem_filter.mpr ⟨hc, h⟩)

theorem Txn.loseMember_free {x : Txn} (free : x.st.errorFree = true) (once : (x.st.couplings.map (·.number)).Nodup)
    (m : Member) : ∃ n : Nat,
      x.loseMember m = (x.withCouplings (x.st.couplings.map fun c => if c.tendedBy m then c.nodeLost else c)
        (x.st.notices.raised .coupling n)).touch ∧
      ((∀ c ∈ x.st.couplings, c.tendedBy m = true → c.presents = .unlashed) → n = 0) := by
  obtain ⟨n, made, quiet⟩ := Txn.forKeys_loseCoupling (x.st.tended m) free once
  refine ⟨n, ?_, fun unlashed => quiet fun c hc h => unlashed c hc ((State.mem_tended once hc).mp h)⟩
  rewrite [Txn.loseMember, made]
  congr 2
  exact List.map_congr_left fun c hc => by simp only [State.mem_tended once hc]

/-! ## Engine 5 at a node that is dropped (R144, R145) -/

namespace Engine

/-- R144, R145: an engine that a drop leaves as it was, or takes OFFLINE. -/
structure Dropped (off : Prop) (e f : Engine) : Prop where
  number : f.number = e.number
  bowBarge : f.bowBarge = e.bowBarge
  damaged : f.header.damaged = e.header.damaged
  clean : e.header.errorFree = true → f.header.errorFree = true
  stays : e.state = .offline → f.state = .offline
  goes : off → e.number = 5 → f.state = .offline

namespace Dropped

theorem refl (e : Engine) : e.Dropped False e := ⟨rfl, rfl, rfl, id, id, False.elim⟩

theorem trans {p q : Prop} {e f g : Engine} (h : e.Dropped p f) (k : f.Dropped q g) :
    e.Dropped (p ∨ q) g where
  number := k.number.trans h.number
  bowBarge := k.bowBarge.trans h.bowBarge
  damaged := k.damaged.trans h.damaged
  clean := k.clean ∘ h.clean
  stays := k.stays ∘ h.stays
  goes or five := or.elim (fun p => k.stays (h.goes p five)) fun q => k.goes q (h.number.trans five)

end Dropped

theorem dropped_stopped (e : Engine) : e.Dropped True (e.stopped .offline) :=
  ⟨rfl, rfl, rfl, errorFree_of_renewed, fun _ => rfl, fun _ _ => rfl⟩

theorem dropped_inState (e : Engine) : e.Dropped True (e.inState .offline) :=
  ⟨rfl, rfl, rfl, errorFree_of_renewed, fun _ => rfl, fun _ _ => rfl⟩

theorem Dropped.of_ne {e f : Engine} (h : e.Dropped False f) (other : e.number ≠ 5) (p : Prop) : e.Dropped p f :=
  { h with goes := fun _ five => absurd five other }

end Engine

/-- R144, R145: engine 5 goes OFFLINE, and leaves RUNNING. -/
theorem Txn.setBow_offline (x : Txn) : ∃ l : List Engine, x.setBow .offline = x.on (fun s => { s with engines := l }) ∧
    List.Forall₂ (Engine.Dropped True) x.st.engines l := by
  unfold Txn.setBow
  cases found : x.st.engine? 5 with
  | none =>
    refine ⟨x.st.engines, rfl, List.forall₂_same.mpr fun e he => (Engine.Dropped.refl e).of_ne ?_ True⟩
    simpa using List.find?_eq_none.mp found e he
  | some e =>
    dsimp only
    split
    · refine ⟨update (·.number == 5) (·.stopped .offline) x.st.engines, ?_, ?_⟩
      · refine congrArg (fun l => x.on fun s => { s with engines := l }) ?_
        refine (update_update _ _ _ _ (by intro _; rfl)).trans ?_
        exact update_congr (key := Engine.number) fun f _ _ => f.stopped_offline
      · rewrite [update, List.forall₂_map_right_iff, List.forall₂_same]
        intro f _
        split
        · exact f.dropped_stopped
        · exact (Engine.Dropped.refl f).of_ne (by simp_all) True
    · refine ⟨update (·.number == 5) (·.inState .offline) x.st.engines, rfl, ?_⟩
      rewrite [update, List.forall₂_map_right_iff, List.forall₂_same]
      intro f _
      split
      · exact f.dropped_inState
      · exact (Engine.Dropped.refl f).of_ne (by simp_all) True

/-! The drop of a node and the emptying of the list, over a store without errors. -/

/-! ## One node (R68) -/

namespace State

/-- R68, R89: the coupling loses its node with the node at address `a`. -/
def loses (s : State) (a : Nat) (c : Coupling) : Bool := (s.bound a).any c.tendedBy

/-- R144: the node at address `a` is bound to engine 5's bow barge. -/
def atBow (s : State) (a : Nat) : Bool :=
  match s.bowBarge?, s.bound a with
  | some h, some m => m == .barge h
  | _, _ => false

end State

namespace Txn

/-- R68, R70: what the drop of the nodes at the addresses leaves of a transaction. -/
structure Drops (x : Txn) (addresses : List Nat) (y : Txn) : Prop where
  same : ∃ (engines : List Engine) (notices : NoticeUnit) (nodes : List Node), y.st = { x.st with
    couplings := x.st.couplings.map fun c => if addresses.any (x.st.loses · c) then c.nodeLost else c
    engines := engines, notices := notices, tow := { x.st.tow with nodes := nodes } }
  commands : y.commands = x.commands
  engines : List.Forall₂ (Engine.Dropped (addresses.any x.st.atBow = true)) x.st.engines y.st.engines
  station : y.st.notices.station = x.st.notices.station
  coupling : (∀ c ∈ x.st.couplings, addresses.any (x.st.loses · c) = true → c.presents = .unlashed) →
    y.st.notices.coupling = x.st.notices.coupling
  count : y.st.notices.node.count % 256 = (x.st.notices.node.count + addresses.length) % 256
  pending : addresses ≠ [] → y.st.notices.node.pending = true
  still : x.st.notices.node.pending = true → y.st.notices.node.pending = true

theorem Drops.refl (x : Txn) : x.Drops [] x where
  same := ⟨x.st.engines, x.st.notices, x.st.tow.nodes, by simp⟩
  commands := rfl
  engines := List.forall₂_same.mpr fun e _ => { Engine.Dropped.refl e with goes := by simp }
  station := rfl
  coupling _ := rfl
  count := rfl
  pending h := absurd rfl h
  still := id

end Txn

theorem exists_of_mem_forall₂ {α : Type} {R : α → α → Prop} {l m : List α} (h : List.Forall₂ R l m) {b : α}
    (hb : b ∈ m) : ∃ a ∈ l, R a b := by
  induction h with
  | nil => cases hb
  | cons hab _ ih =>
    rcases List.mem_cons.mp hb with rfl | hb
    · exact ⟨_, List.mem_cons_self .., hab⟩
    · obtain ⟨a, ha, rel⟩ := ih hb
      exact ⟨a, List.mem_cons_of_mem _ ha, rel⟩

theorem bowBarge_of_forall₂ {l m : List Engine} (h : List.Forall₂ (fun e f => f.number = e.number ∧
    f.bowBarge = e.bowBarge) l m) :
    (m.find? (·.number == 5)).bind (·.bowBarge) = (l.find? (·.number == 5)).bind (·.bowBarge) := by
  induction h with
  | nil => rfl
  | cons hab _ ih =>
    obtain ⟨number, bow⟩ := hab
    rewrite [List.find?_cons, List.find?_cons, number]
    split
    · simpa using bow
    · exact ih

section
variable {x y z : Txn} {as bs : List Nat}

namespace Txn.Drops

theorem barges (h : x.Drops as y) : y.st.barges = x.st.barges := by
  obtain ⟨_, _, _, e⟩ := h.same
  rw [e]

theorem policy (h : x.Drops as y) : y.st.policy = x.st.policy := by
  obtain ⟨_, _, _, e⟩ := h.same
  rw [e]

theorem couplings (h : x.Drops as y) : y.st.couplings =
    x.st.couplings.map fun c => if as.any (x.st.loses · c) then c.nodeLost else c := by
  obtain ⟨_, _, _, e⟩ := h.same
  rw [e]

theorem bound (h : x.Drops as y) : y.st.bound = x.st.bound := State.bound_congr _ _ h.barges h.policy

theorem loses (h : x.Drops as y) : y.st.loses = x.st.loses := by
  funext a c
  rw [State.loses, State.loses, h.bound]

theorem bowBarge (h : x.Drops as y) : y.st.bowBarge? = x.st.bowBarge? :=
  bowBarge_of_forall₂ (h.engines.imp fun _ _ d => ⟨d.number, d.bowBarge⟩)

theorem atBow (h : x.Drops as y) : y.st.atBow = x.st.atBow := by
  funext a
  rw [State.atBow, State.atBow, h.bound, h.bowBarge]

end Txn.Drops

theorem State.loses_nodeLost (s : State) (a : Nat) (c : Coupling) : s.loses a c.nodeLost = s.loses a c := by
  simp only [State.loses, funext c.nodeLost_tendedBy]

namespace Txn.Drops

theorem errorFree (h : x.Drops as y) (free : x.st.errorFree = true) : y.st.errorFree = true := by
  obtain ⟨h1, h2, h3, h4⟩ := x.st.errorFree_iff.mp free
  have engines : ∀ f ∈ y.st.engines, f.header.errorFree = true := fun f hf => by
    obtain ⟨e, he, dropped⟩ := exists_of_mem_forall₂ h.engines hf
    exact dropped.clean (h3 e he)
  have couplings : ∀ c ∈ y.st.couplings, c.header.errorFree = true := by
    rewrite [h.couplings]
    intro c hc
    obtain ⟨d, hd, rfl⟩ := List.mem_map.mp hc
    split
    · exact Coupling.nodeLost_errorFree (h2 d hd)
    · exact h2 d hd
  obtain ⟨_, _, _, e⟩ := h.same
  rewrite [State.errorFree_iff]
  refine ⟨?_, couplings, engines, ?_⟩
  · rewrite [e]; exact h1
  · rewrite [e]; exact h4

theorem numbers (h : x.Drops as y) : y.st.couplings.map (·.number) = x.st.couplings.map (·.number) := by
  rewrite [h.couplings, List.map_map]
  refine List.map_congr_left fun c _ => ?_
  dsimp only [Function.comp]
  split
  · exact c.nodeLost_number
  · rfl

theorem trans (h : x.Drops as y) (k : y.Drops bs z) : x.Drops (as ++ bs) z where
  same := by
    obtain ⟨e1, n1, l1, first⟩ := h.same
    obtain ⟨e2, n2, l2, second⟩ := k.same
    refine ⟨e2, n2, l2, ?_⟩
    have couplings : (y.st.couplings.map fun c => if bs.any (y.st.loses · c) then c.nodeLost else c) =
        x.st.couplings.map fun c => if (as ++ bs).any (x.st.loses · c) then c.nodeLost else c := by
      rewrite [h.couplings, List.map_map, h.loses]
      refine List.map_congr_left fun c _ => ?_
      dsimp only [Function.comp]
      rewrite [List.any_append]
      by_cases before : as.any (x.st.loses · c) = true
      · simp only [before, if_true, State.loses_nodeLost, Coupling.nodeLost_nodeLost, Bool.true_or, ite_self]
      · simp only [Bool.not_eq_true] at before
        simp only [before, Bool.false_eq_true, if_false, Bool.false_or]
    rw [second, couplings, first]
  commands := k.commands.trans h.commands
  engines := by
    refine forall₂_comp (fun e f g hef hfg => ?_) h.engines k.engines
    rewrite [h.atBow] at hfg
    refine { hef.trans hfg with goes := fun all => (hef.trans hfg).goes ?_ }
    rewrite [List.any_append, Bool.or_eq_true] at all
    exact all
  station := k.station.trans h.station
  coupling unlashed := by
    have first := h.coupling fun c hc lost => unlashed c hc (by rw [List.any_append, lost, Bool.true_or])
    refine (k.coupling fun c hc lost => ?_).trans first
    rewrite [h.couplings] at hc
    obtain ⟨d, hd, rfl⟩ := List.mem_map.mp hc
    rewrite [h.loses] at lost
    split
    · exact Coupling.nodeLost_presents (unlashed d hd (by rw [List.any_append, ‹as.any _ = true›, Bool.true_or]))
    · rewrite [if_neg ‹_›] at lost
      exact unlashed d hd (by rw [List.any_append, lost, Bool.or_true])
  count := by
    rewrite [List.length_append, ← Nat.add_assoc]
    exact k.count.trans (Nat.ModEq.add_right _ h.count)
  pending some := by
    rcases as with _ | ⟨a, as⟩
    · exact k.pending (by simpa using some)
    · exact k.still (h.pending (by simp))
  still := k.still ∘ h.still

end Txn.Drops

namespace Txn

/-- R68, R89, R144: the drop of one node. -/
theorem dropNode_drops (free : x.st.errorFree = true) (once : (x.st.couplings.map (·.number)).Nodup) (a : Nat) :
    x.Drops [a] (x.dropNode a) := by
  let y := x.modTow fun t => { t with nodes := t.nodes.filter (·.address != a) }
  have freeY : y.st.errorFree = true := free
  -- the couplings
  obtain ⟨n, touched, made, quiet⟩ : ∃ (n : Nat) (touched : Bool),
      (match x.st.bound a with | some m => y.loseMember m | none => y) =
        { y.withCouplings (x.st.couplings.map fun c => if x.st.loses a c then c.nodeLost else c)
            (x.st.notices.raised .coupling n) with touched := touched } ∧
      ((∀ c ∈ x.st.couplings, x.st.loses a c = true → c.presents = .unlashed) → n = 0) := by
    cases member : x.st.bound a with
    | none =>
      refine ⟨0, x.touched, ?_, fun _ => rfl⟩
      simp only [State.loses, member, Option.any_none, Bool.false_eq_true, if_false, List.map_id', NoticeUnit.raised_zero]
      rfl
    | some m =>
      obtain ⟨n, made, quiet⟩ := Txn.loseMember_free freeY once m
      refine ⟨n, true, ?_, ?_⟩
      · simp only [State.loses, member, Option.any_some]
        exact made
      · simp only [State.loses, member, Option.any_some]
        exact quiet
  generalize hz : (match x.st.bound a with | some m => y.loseMember m | none => y) = z at made
  have freeZ : z.st.errorFree = true := by
    rewrite [made]
    refine State.errorFree_couplings freeY _ fun c hc => ?_
    obtain ⟨d, hd, rfl⟩ := List.mem_map.mp hc
    split
    · exact Coupling.nodeLost_errorFree ((x.st.errorFree_iff.mp free).2.1 d hd)
    · exact (x.st.errorFree_iff.mp free).2.1 d hd
  -- engine 5
  obtain ⟨l, bow, engines⟩ : ∃ l : List Engine, (if x.st.atBow a then z.enterBow .offline else z) =
      z.on (fun s => { s with engines := l }) ∧ List.Forall₂ (Engine.Dropped (x.st.atBow a = true)) x.st.engines l := by
    have same : z.st.engines = x.st.engines := by rewrite [made]; rfl
    cases at' : x.st.atBow a with
    | false => exact ⟨z.st.engines, rfl, by
        rewrite [same]
        exact List.forall₂_same.mpr fun e _ => { Engine.Dropped.refl e with goes := by simp }⟩
    | true =>
      obtain ⟨l, made, engines⟩ := z.setBow_offline
      refine ⟨l, ?_, ?_⟩
      · rw [if_pos rfl, Txn.enterBow, if_neg (by simp), Txn.readBow_errorFree z freeZ, made]
      · rewrite [same] at engines
        exact engines.imp fun _ _ d => { d with goes := fun _ => d.goes trivial }
  have dropped : x.dropNode a = (z.on fun s => { s with engines := l }).raise .node := by
    rewrite [← bow, ← hz]
    rfl
  have state : (x.dropNode a).st = { x.st with
      couplings := x.st.couplings.map fun c => if x.st.loses a c then c.nodeLost else c
      engines := l, notices := (x.st.notices.raised .coupling n).raise .node
      tow := { x.st.tow with nodes := x.st.tow.nodes.filter (·.address != a) } } := by
    rewrite [dropped, made]
    rfl
  have node : (x.dropNode a).st.notices.node =
      { x.st.notices.node with pending := true, count := (x.st.notices.node.count + 1) % 256 } := by
    have before : (x.st.notices.raised .coupling n).node = x.st.notices.node :=
      NoticeUnit.raised_get .coupling .node (by decide) n _
    rewrite [state]
    show (((x.st.notices.raised .coupling n).raise .node).node) = _
    rewrite [← before]
    rfl
  exact {
    same := ⟨l, _, _, by simpa using state⟩
    commands := by rewrite [dropped, made]; rfl
    engines := by
      rewrite [state]
      exact engines.imp fun _ _ d => { d with goes := fun some => d.goes (by simpa using some) }
    station := by
      rewrite [state]
      exact NoticeUnit.raised_get .coupling .station (by decide) n _
    coupling := fun unlashed => by
      have none := quiet fun c hc lost => unlashed c hc (by simpa using lost)
      rewrite [state, none]
      rfl
    count := by
      rewrite [node]
      exact Nat.mod_mod _ _
    pending := fun _ => by rw [node]
    still := fun _ => by rw [node] }

/-! ## The whole list (R70, R71) -/

theorem forKeys_dropNode : ∀ (addresses : List Nat) {x : Txn}, x.st.errorFree = true →
    (x.st.couplings.map (·.number)).Nodup → x.Drops addresses (x.forKeys addresses fun a y => y.dropNode a)
  | [], x, _, _ => Txn.Drops.refl x
  | a :: addresses, _, free, once => by
    have first := Txn.dropNode_drops free once a
    have rest := Txn.forKeys_dropNode addresses (first.errorFree free) (by rewrite [first.numbers]; exact once)
    exact first.trans rest

end Txn

namespace State

theorem any_loses (s : State) (c : Coupling) : (s.tow.nodes.map (·.address)).any (s.loses · c) =
    match c.tending with
    | .hand => false
    | .winch m _ => (s.nodeOf m).isSome := by
  cases tending : c.tending with
  | hand =>
    simp [State.loses, Coupling.tendedBy, tending, Option.any_eq_true]
  | winch m k =>
    rewrite [Bool.eq_iff_iff]
    simp only [List.any_map, List.any_eq_true, State.nodeOf, List.find?_isSome, Function.comp, State.loses,
      Option.any_eq_true, Coupling.tendedBy, tending, beq_iff_eq]
    simp only [eq_comm (a := m), exists_eq_right]

theorem any_atBow {s : State} {h : Nat} (bow : s.bowBarge? = some h) :
    (s.tow.nodes.map (·.address)).any s.atBow = (s.nodeOf (.barge h)).isSome := by
  rewrite [Bool.eq_iff_iff]
  simp only [List.any_map, List.any_eq_true, State.nodeOf, List.find?_isSome, Function.comp, State.atBow, bow, beq_iff_eq]
  refine exists_congr fun n => and_congr_right fun _ => ?_
  cases s.bound n.address <;> simp

end State

end

/-! ## The completion test (R183, R186) -/

theorem State.crossingRemaining_ne_zero {s t : State} (phase : s.lockage.phase = .remaking) (h : s.crossingRemaining ≠ 0)
    {f : Coupling → Coupling} (phaseT : t.lockage.phase = .remaking) (couplings : t.couplings = s.couplings.map f)
    (crossing : ∀ c ∈ s.couplings, t.crossing (f c) = s.crossing c)
    (outside : ∀ c ∈ s.couplings, c.presents.inMadeGroup = false → (f c).presents.inMadeGroup = false) :
    t.crossingRemaining ≠ 0 := by
  simp only [State.crossingRemaining, phase, phaseT, ne_eq, List.length_eq_zero_iff, List.filter_eq_nil_iff,
    not_forall, Decidable.not_not, Bool.and_eq_true, Bool.not_eq_true'] at h ⊢
  obtain ⟨c, hc, crosses, away⟩ := h
  exact ⟨f c, by rewrite [couplings]; exact List.mem_map_of_mem hc, by rewrite [crossing c hc]; exact crosses, outside c hc away⟩

/-- R183, R186: the completion test where no REMAKING ends: the lockage record and LOCKAGE are all it writes. -/
theorem Txn.lockageTest_free {x : Txn} (free : x.st.errorFree = true)
    (goes : x.st.lockage.phase = .remaking → x.st.crossingRemaining ≠ 0) (announce : Bool) :
    ∃ (l : Lockage) (n : Nat), x.lockageTest announce = (x.on fun s => { s with
      lockage := l, notices := s.notices.raised .lockage n }) ∧ l.breaks = x.st.lockage.breaks := by
  have boat (y : Txn) : ∃ (l : Lockage) (n : Nat), y.evaluateBoatCut = (y.on fun s => { s with
      lockage := l, notices := s.notices.raised .lockage n }) ∧ l.breaks = y.st.lockage.breaks := by
    unfold Txn.evaluateBoatCut
    split
    · exact ⟨y.st.lockage, 0, rfl, rfl⟩
    · dsimp only
      generalize (_ && _ : Bool) = b
      cases b
      · exact ⟨_, 0, rfl, rfl⟩
      · exact ⟨_, 1, rfl, rfl⟩
  have complete : ∃ (l : Lockage) (n : Nat), x.complete announce = (x.on fun s => { s with
      lockage := l, notices := s.notices.raised .lockage n }) ∧ l.breaks = x.st.lockage.breaks := by
    unfold Txn.complete
    dsimp only
    split
    · exact ⟨_, 0, rfl, rfl⟩
    · exact ⟨_, 0, rfl, rfl⟩
    · split
      · cases announce
        · exact ⟨_, 0, rfl, rfl⟩
        · exact ⟨_, 1, rfl, rfl⟩
      · exact ⟨_, 0, rfl, rfl⟩
    · rename_i phase
      rewrite [if_neg (goes phase)]
      exact ⟨_, 0, rfl, rfl⟩
  unfold Txn.lockageTest
  split
  · exact ⟨x.st.lockage, 0, rfl, rfl⟩
  · rewrite [Txn.readAll_errorFree x free]
    obtain ⟨l, n, made, breaks⟩ := complete
    obtain ⟨l2, n2, made2, breaks2⟩ := boat (x.complete announce)
    refine ⟨l2, n + n2, ?_, ?_⟩
    · rewrite [made2, made]
      simp only [Txn.on, NoticeUnit.raised, List.replicate_add, List.foldl_append]
    · rewrite [breaks2, made]
      exact breaks

/-! The policy record: its fields, the boat node address, and the change of line rate. -/

/-! ## The end of a transaction that keeps every binding -/

/-- The end of a transaction that touched no coupling, produced no command and keeps every listed node's binding. -/
theorem Txn.commit_bound {x : Txn} {before : State} (touched : x.touched = false) (commands : x.commands = [])
    (bound : ∀ n ∈ x.st.tow.nodes, before.bound n.address = x.st.bound n.address) : x.commit before = x.st := by
  simp [Txn.commit, touched, commands, x.settleBindings_same before bound, State.placeCommands]

section
variable {c : Instr} {code : Byte} {body : Request → Txn → Answer} {s : State} {q : Request} {qs : List Request}
  {r : Result} {items : List ResponseItem}

/-- R23: a request that touches no coupling, produces no winch command and keeps the listed nodes' bindings. -/
theorem exec_bound (hb : requestBodyOf c = some body) (hc : requestCodeOf c = some code) (hs : s.serves q qs)
    (hq : q.code = code) {after : State}
    (hy : body q s.opened = (({ s.opened with st := { after with arbiter := s.arbiter.grant .console } } : Txn), r, items))
    (bound : ∀ n ∈ after.tow.nodes, s.bound n.address = after.bound n.address) :
    exec c s = .next (s.answered q qs r items after) := by
  rewrite [exec_answer hb hc hs hq hy, Txn.commit_bound rfl rfl bound]
  rfl

end

/-! ## An AMEND of one policy field (R7) -/

section
variable {s : State} {q : Request} {qs : List Request} {f v : Nat}

theorem requestAmend_policy (hq : q.carries 0x04 8 [⟨f, v⟩]) (x : Txn) :
    requestAmend q x = amendPolicy [⟨f, v⟩] x := by
  have parsed := Request.parse_of_carries hq (admits := fun t => decide (1 ≤ t) && decide (t ≤ 12)) rfl rfl
  obtain ⟨-, table, -⟩ := hq
  simp only [requestAmend, parsed, table]
  rfl

theorem within_natCast (v lo hi : Nat) : within (v : Int) lo hi = decide (lo ≤ v ∧ v ≤ hi) := by
  simp [within]

/-- R6: stage 4 of a field with a range. -/
theorem policyRange_of_inRange {lo hi : Nat} (range : policyRange ⟨f, v⟩ = inRange ⟨f, v⟩ lo hi) :
    checkItems [⟨f, v⟩] policyRange = if lo ≤ v ∧ v ≤ hi then none else some (.badField f) := by
  rewrite [checkItems_singleton, range, inRange, within_natCast]
  by_cases h : lo ≤ v ∧ v ≤ hi
  · simp [refuseIf, h]
  · simp only [h, decide_false, Bool.not_false, if_false]
    rfl

theorem amendPolicy_refused {r : Result} (range : checkItems [⟨f, (v : Int)⟩] policyRange = some r) (x : Txn) :
    amendPolicy [⟨f, v⟩] x = refuse x r := by
  simp only [amendPolicy, range]

theorem readAll_nil (x : Txn) (t : Tbl) (ws : List Nat) : x.readAll t [] ws = x := rfl

/-- R7, R33: a field that moves neither the boat node address nor the line rate. -/
theorem amendPolicy_plain {is : List Item} {x : Txn} (range : checkItems is policyRange = none) {p : Policy}
    (given : givenPolicy is x.st.policy = p) (boat : p.boatNode = x.st.policy.boatNode)
    (rate : p.towLineRate = x.st.policy.towLineRate) :
    amendPolicy is x = (x.on fun s => { s with
      policy := p
      console := { s.console with silence :=
        if x.st.policy.consoleSilence ≠ 0 ∧ p.consoleSilence = 0 then none else s.console.silence } }, .done, []) := by
  have unlashed : x.anyLashed (fun _ => false || false) = (x, false) := by simp [Txn.anyLashed, readAll_nil]
  simp only [amendPolicy, range, given, unlashed, boat, rate, bne_self_eq_false, Bool.false_and, Bool.false_eq_true,
    if_false]
  split <;> rfl

theorem State.bound_of_policy {t : State} (barges : t.barges = s.barges) (boat : t.policy.boatNode = s.policy.boatNode) :
    s.bound = t.bound := by
  funext a
  simp only [State.bound, barges, boat]

/-- R6, R7: a field with a range that moves neither the boat node address nor the line rate. -/
theorem amend_policyField {lo hi : Nat} {p : Policy} (hs : s.serves q qs)
    (hq : q.carries 0x04 8 [⟨f, v⟩]) (range : policyRange ⟨f, v⟩ = inRange ⟨f, v⟩ lo hi)
    (given : givenPolicy [⟨f, v⟩] s.policy = p) (boat : p.boatNode = s.policy.boatNode)
    (rate : p.towLineRate = s.policy.towLineRate) :
    exec .amend s = .next (if lo ≤ v ∧ v ≤ hi then s.answered q qs .done [] { s with
        policy := p
        console := { s.console with silence :=
          if s.policy.consoleSilence ≠ 0 ∧ p.consoleSilence = 0 then none else s.console.silence } }
      else s.answered q qs (.badField f) [] s) := by
  have check := policyRange_of_inRange range
  by_cases h : lo ≤ v ∧ v ≤ hi
  · rewrite [if_pos h] at check ⊢
    refine exec_bound (c := .amend) rfl rfl hs hq.1 ?_ ?_
    · rewrite [requestAmend_policy hq, amendPolicy_plain (x := s.opened) check given boat rate]
      rfl
    · refine fun n _ => congrFun (State.bound_of_policy ?_ ?_) n.address
      · rfl
      · exact boat
  · rewrite [if_neg h] at check ⊢
    refine exec_refused (c := .amend) rfl rfl hs hq.1 ?_
    rw [requestAmend_policy hq, amendPolicy_refused check]

/-- R6: the ranges and the writes of the fields that meet no further condition. -/
theorem policyFields_spec (v : Nat) (p : Policy) : ∀ f ∈ policyFields,
    policyRange ⟨f.1, v⟩ = inRange ⟨f.1, v⟩ f.2.1 f.2.2.1 ∧ givenPolicy [⟨f.1, v⟩] p = f.2.2.2 p v ∧
      (f.2.2.2 p v).boatNode = p.boatNode ∧ (f.2.2.2 p v).towLineRate = p.towLineRate ∧
      (f.2.2.2 p v).consoleSilence = p.consoleSilence := by
  intro f hf
  simp only [policyFields, List.mem_cons, List.not_mem_nil, or_false] at hf
  rcases hf with rfl | rfl | rfl | rfl | rfl | rfl | rfl | rfl | rfl | rfl | rfl | rfl | rfl | rfl | rfl
  all_goals exact ⟨rfl, rfl, rfl, rfl, rfl⟩

theorem amend_policyFields (hs : s.serves q qs) {f : Nat × Nat × Nat × (Policy → Nat → Policy)} (hf : f ∈ policyFields)
    (hq : q.carries 0x04 8 [⟨f.1, v⟩]) : exec .amend s = .next (if f.2.1 ≤ v ∧ v ≤ f.2.2.1 then
      s.answered q qs .done [] { s with policy := f.2.2.2 s.policy v } else s.answered q qs (.badField f.1) [] s) := by
  obtain ⟨range, given, boat, rate, silence⟩ := policyFields_spec v s.policy f hf
  have running : (if s.policy.consoleSilence ≠ 0 ∧ s.policy.consoleSilence = 0 then none else s.console.silence) =
      s.console.silence := if_neg fun h => h.1 h.2
  rw [amend_policyField hs hq range given boat rate, silence, running]

/-- R33: a change of console silence to 0 stops the silence timer. -/
theorem amend_consoleSilence (hs : s.serves q qs) (hq : q.carries 0x04 8 [⟨16, v⟩]) :
    exec .amend s = .next (if v ≤ 60 then
        s.answered q qs .done [] { s with
          policy := { s.policy with consoleSilence := v }
          console := { s.console with
            silence := if v = 0 ∧ s.policy.consoleSilence ≠ 0 then none else s.console.silence } }
      else s.answered q qs (.badField 16) [] s) := by
  rewrite [amend_policyField (lo := 0) (hi := 60) (p := { s.policy with consoleSilence := v }) hs hq rfl rfl rfl rfl]
  simp only [Nat.zero_le, true_and, and_comm (a := v = 0)]

/-! ## The boat node address (R7, R47, R90) -/

theorem anyLashed_free {x : Txn} (free : x.st.errorFree = true) (pick : Coupling → Bool) :
    x.anyLashed pick = (x, x.st.couplings.any fun c => pick c && c.presents != .unlashed) := by
  rw [Txn.anyLashed, Txn.readAll_errorFree x free]

/-- R90: a coupling whose readings go with the node of a member. -/
def Coupling.unread (m : Member) (c : Coupling) : Coupling :=
  if c.tendedBy m then { c with tension := none, seated := none } else c

/-- R90: the couplings of a member with their readings absent. -/
theorem Txn.clearReadings_free {x : Txn} (free : x.st.errorFree = true) (once : (x.st.couplings.map (·.number)).Nodup)
    {m : Member} (undamaged : ∀ c ∈ x.st.couplings, c.tendedBy m = true → c.header.damaged = false) :
    x.clearReadings m = x.on fun s => { s with couplings := s.couplings.map (Coupling.unread m) } := by
  let g (c : Coupling) : Coupling := Coupling.renew { c with tension := none, seated := none } [12, 13]
  have fold : ∀ (keys : List Nat) (y : Txn),
      y.forKeys keys (fun k y => y.modCoupling k [12, 13] fun c => { c with tension := none, seated := none }) =
        y.on fun s => { s with couplings := keys.foldl (fun l k => update (·.number == k) g l) s.couplings } := by
    intro keys
    induction keys with
    | nil => exact fun y => rfl
    | cons k keys ih =>
      intro y
      rewrite [Txn.forKeys, List.foldl_cons]
      exact (ih _).trans rfl
  have numbers : (x.st.tended m).Nodup := once.sublist (List.filter_sublist.map _)
  rewrite [Txn.clearReadings, fold]
  refine congrArg (fun l => x.on fun s => { s with couplings := l }) ?_
  rewrite [foldl_update (key := Coupling.number) (g := g) (fun _ => rfl) _ _ numbers]
  refine List.map_congr_left fun c hc => ?_
  simp only [State.mem_tended once hc, Coupling.unread]
  split
  · exact Coupling.renew_clean _ _ (Header.bad_eq_nil ((x.st.errorFree_iff.mp free).2.1 c hc) (undamaged c hc ‹_›))
  · rfl

theorem undamaged_of_unlashed {c : Coupling} (h : c.presents = .unlashed) : c.header.damaged = false := by
  cases damaged : c.header.damaged with
  | false => rfl
  | true => simp [Coupling.presents, damaged] at h

theorem amendPolicy_boatNode (hq : q.carries 0x04 8 [⟨15, v⟩]) (le : v ≤ 126) (moved : v ≠ s.policy.boatNode)
    (free : s.errorFree = true) : requestAmend q s.opened =
      if v ≠ 0 ∧ ∃ b ∈ s.barges, b.node = some v then refuse s.opened .addressInUse
      else if ∃ c ∈ s.couplings, c.tendedBy .boat = true ∧ c.presents ≠ .unlashed then refuse s.opened .wrongState
      else ((s.opened.on fun s => { s with policy := { s.policy with boatNode := v } }).clearReadings .boat, .done, []) := by
  have check := policyRange_of_inRange (f := 15) (v := v) (lo := 0) (hi := 126) rfl
  rewrite [if_pos ⟨Nat.zero_le _, le⟩] at check
  have given : givenPolicy [⟨15, (v : Int)⟩] s.policy = { s.policy with boatNode := v } := rfl
  have taken : ((v != s.policy.boatNode && v != 0 && s.barges.any fun b => b.node == some v) = true) ↔
      (v ≠ 0 ∧ ∃ b ∈ s.barges, b.node = some v) := by
    simp [moved]
  have lashed : ((s.couplings.any fun c => (s.policy.towLineRate != s.policy.towLineRate && c.winchTended ||
      v != s.policy.boatNode && c.tendedBy .boat) && c.presents != .unlashed) = true) ↔
      ∃ c ∈ s.couplings, c.tendedBy .boat = true ∧ c.presents ≠ .unlashed := by
    simp [moved]
  have still : ¬(s.policy.consoleSilence ≠ 0 ∧ s.policy.consoleSilence = 0) := fun h => h.1 h.2
  rewrite [requestAmend_policy hq]
  simp only [amendPolicy, check]
  rewrite [show givenPolicy [⟨15, (v : Int)⟩] s.opened.st.policy = { s.policy with boatNode := v } from given]
  dsimp only
  rewrite [anyLashed_free (x := s.opened) free]
  dsimp only
  refine if_ctx_congr taken (fun _ => rfl) fun _ => if_ctx_congr lashed (fun _ => rfl) fun _ => ?_
  refine congrArg (fun y : Txn => (y, Result.done, [])) ?_
  refine (if_neg still).trans ((if_pos (by simpa using moved)).trans ?_)
  exact congrArg (fun y : Txn => (y.on fun s' => { s' with policy := { s.policy with boatNode := v } }).clearReadings .boat)
    (if_neg (by simp [Txn.start, State.take]))

/-- R7, R47, R90: a change of the boat node address. -/
theorem amend_boatNode (hs : s.serves q qs) (free : s.errorFree = true) (hq : q.carries 0x04 8 [⟨15, v⟩]) (le : v ≤ 126)
    (moved : v ≠ s.policy.boatNode) :
    (v ≠ 0 → (∃ b ∈ s.barges, b.node = some v) → exec .amend s = .next (s.answered q qs .addressInUse [] s)) ∧
    (v = 0 ∨ (∀ b ∈ s.barges, b.node ≠ some v) →
      ((∃ c ∈ s.couplings, c.tendedBy .boat = true ∧ c.presents ≠ .unlashed) →
        exec .amend s = .next (s.answered q qs .wrongState [] s)) ∧
      ((∀ c ∈ s.couplings, c.tendedBy .boat = true → c.presents = .unlashed) → s.recordLaw = true →
        (∀ n ∈ s.tow.nodes, n.address ≠ v ∧ n.address ≠ s.policy.boatNode) →
        exec .amend s = .next (s.answered q qs .done [] { s with
          policy := { s.policy with boatNode := v }
          couplings := s.couplings.map fun c =>
            if c.tendedBy .boat then { c with tension := none, seated := none } else c }))) := by
  have body := amendPolicy_boatNode hq le moved free
  refine ⟨fun some taken => ?_, fun free' => ⟨fun lashed => ?_, fun unlashed law unlisted => ?_⟩⟩
  · rewrite [if_pos ⟨some, taken⟩] at body
    exact exec_refused (c := .amend) rfl rfl hs hq.1 body
  all_goals
    have untaken : ¬(v ≠ 0 ∧ ∃ b ∈ s.barges, b.node = some v) := by
      rintro ⟨some, b, hb, same⟩
      exact free'.elim some fun none => none b hb same
    rewrite [if_neg untaken] at body
  · rewrite [if_pos lashed] at body
    exact exec_refused (c := .amend) rfl rfl hs hq.1 body
  · rewrite [if_neg (by rintro ⟨c, hc, tended, state⟩; exact state (unlashed c hc tended))] at body
    have once := (s.recordLaw_iff.mp law).2.1
    rewrite [Txn.clearReadings_free (x := s.opened.on fun s => { s with policy := { s.policy with boatNode := v } }) free once
      fun c hc tended => undamaged_of_unlashed (unlashed c hc tended)] at body
    refine exec_bound (c := .amend) rfl rfl hs hq.1 body fun n hn => ?_
    obtain ⟨other, old⟩ := unlisted n hn
    simp only [State.bound, other, old, and_false, if_false]

/-! ## The line rate (R71) -/

theorem policyRange_rate : checkItems [⟨14, (v : Int)⟩] policyRange =
    if v ∈ [1536, 768, 384, 192] then none else some (.badField 14) := by
  rewrite [checkItems_singleton, show policyRange ⟨14, (v : Int)⟩ = refuseIf (!((v : Int) == 1536 || (v : Int) == 768 ||
    (v : Int) == 384 || (v : Int) == 192)) (.badField 14) from rfl]
  by_cases h : v ∈ [1536, 768, 384, 192]
  · rewrite [if_pos h]
    simp only [List.mem_cons, List.not_mem_nil, or_false] at h
    rcases h with rfl | rfl | rfl | rfl <;> rfl
  · rewrite [if_neg h]
    simp only [List.mem_cons, List.not_mem_nil, or_false, not_or] at h
    obtain ⟨h1, h2, h3, h4⟩ := h
    have other : ((v : Int) == 1536 || (v : Int) == 768 || (v : Int) == 384 || (v : Int) == 192) = false := by
      simp only [Bool.or_eq_false_iff, beq_eq_false_iff_ne]
      exact ⟨⟨⟨by omega, by omega⟩, by omega⟩, by omega⟩
    rewrite [other]
    rfl

/-- R71: the transaction that changes the line rate. -/
def State.rateChanged (s : State) (v : Nat) : Txn :=
  (s.opened.changeRate v).on fun t => { t with policy := { s.policy with towLineRate := v } }

theorem amendPolicy_rate (hq : q.carries 0x04 8 [⟨14, v⟩]) (listed : v ∈ [1536, 768, 384, 192])
    (moved : v ≠ s.policy.towLineRate) (free : s.errorFree = true) : requestAmend q s.opened =
      if ∃ c ∈ s.couplings, c.winchTended = true ∧ c.presents ≠ .unlashed then refuse s.opened .wrongState
      else (s.rateChanged v, .done, []) := by
  have check := policyRange_rate (v := v)
  rewrite [if_pos listed] at check
  have lashed : ((s.couplings.any fun c => (v != s.policy.towLineRate && c.winchTended ||
      s.policy.boatNode != s.policy.boatNode && c.tendedBy .boat) && c.presents != .unlashed) = true) ↔
      ∃ c ∈ s.couplings, c.winchTended = true ∧ c.presents ≠ .unlashed := by
    simp [moved]
  have still : ¬(s.policy.consoleSilence ≠ 0 ∧ s.policy.consoleSilence = 0) := fun h => h.1 h.2
  rewrite [requestAmend_policy hq]
  simp only [amendPolicy, check]
  rewrite [show givenPolicy [⟨14, (v : Int)⟩] s.opened.st.policy = { s.policy with towLineRate := v } from rfl]
  dsimp only
  rewrite [anyLashed_free (x := s.opened) free]
  dsimp only
  refine (if_neg (by simp [Txn.start, State.take])).trans ?_
  refine if_ctx_congr lashed (fun _ => rfl) fun _ => ?_
  refine congrArg (fun y : Txn => (y, Result.done, [])) ?_
  refine (if_neg still).trans ((if_neg (by simp [Txn.start, State.take])).trans ?_)
  exact congrArg (fun y : Txn => y.on fun s' => { s' with policy := { s.policy with towLineRate := v } })
    (if_pos (by simpa using moved))

theorem State.advanceCycle_link {t u : State} (link : t.link = u.link) (clock : t.clock = u.clock) :
    t.advanceCycle.link = u.advanceCycle.link := by
  have pass (slots : List Nat) : t.passSlots slots = u.passSlots slots := by
    simp only [State.passSlots, State.context?, link, clock]
  simp only [State.advanceCycle, link, pass]
  cases u.link.cycle with
  | none => exact link
  | some c =>
    dsimp only
    repeat' split
    all_goals first
      | exact link
      | rfl

/-- R100: a cycle that is under way and is not about to go on stands. -/
theorem settle_link {t u : State} (link : t.link = u.link) (clock : t.clock = u.clock) (still : u.advanceCycle = u) :
    (settle t).link = u.link := by
  obtain ⟨_, _, _, h1⟩ := t.askConsole_spec
  obtain ⟨_, _, h2⟩ := t.askConsole.endEmptyDelivery_spec
  obtain ⟨_, _, h3⟩ := t.askConsole.endEmptyDelivery.askTow_spec
  obtain ⟨_, h5⟩ := t.askConsole.endEmptyDelivery.askTow.advanceCycle.askLink_spec
  obtain ⟨_, h6⟩ := t.askConsole.endEmptyDelivery.askTow.advanceCycle.askLink.askFuel_spec
  have before : t.askConsole.endEmptyDelivery.askTow.link = u.link := by rewrite [h3, h2, h1]; exact link
  have clockBefore : t.askConsole.endEmptyDelivery.askTow.clock = u.clock := by rewrite [h3, h2, h1]; exact clock
  rewrite [settle, h6, h5]
  exact (State.advanceCycle_link before clockBefore).trans (congrArg State.link still)

/-- R57: a Controller that is ready, with no winch fault owed, stays ready. -/
theorem settle_ready {t : State} (ready : t.tow.phase = .ready) (faults : t.tow.faults = []) :
    (settle t).tow.phase = .ready := by
  obtain ⟨_, _, _, h1⟩ := t.askConsole_spec
  have ready1 : t.askConsole.tow.phase = .ready := by rewrite [h1]; exact ready
  have faults1 : t.askConsole.tow.faults = [] := by rewrite [h1]; exact faults
  have h2 : t.askConsole.endEmptyDelivery = t.askConsole := by rw [State.endEmptyDelivery, ready1]
  have h3 : t.askConsole.askTow = t.askConsole := by
    rw [State.askTow, if_neg fun h => h.2 faults1]
  obtain ⟨_, h4⟩ := t.askConsole.advanceCycle_spec
  obtain ⟨_, h5⟩ := t.askConsole.advanceCycle.askLink_spec
  obtain ⟨_, h6⟩ := t.askConsole.advanceCycle.askLink.askFuel_spec
  rewrite [settle, h2, h3, h6, h5, h4]
  exact ready1

namespace NoticeUnit

theorem raised_node (u : NoticeUnit) (n : Nat) : (u.raised .lockage n).node = u.node :=
  NoticeUnit.raised_get .lockage .node (by decide) n u

theorem raised_coupling (u : NoticeUnit) (n : Nat) : (u.raised .lockage n).coupling = u.coupling :=
  NoticeUnit.raised_get .lockage .coupling (by decide) n u

theorem raised_station (u : NoticeUnit) (n : Nat) : (u.raised .lockage n).station = u.station :=
  NoticeUnit.raised_get .lockage .station (by decide) n u

end NoticeUnit

/-- R183: what the completion test of a transaction that dropped nodes reads. -/
theorem Txn.Drops.remaining {x y : Txn} {as : List Nat} (h : x.Drops as y)
    (goes : x.st.lockage.phase = .remaking → x.st.crossingRemaining ≠ 0) :
    y.st.lockage.phase = .remaking → y.st.crossingRemaining ≠ 0 := by
  intro phase
  obtain ⟨_, _, _, e⟩ := h.same
  have phaseX : x.st.lockage.phase = .remaking := by rewrite [e] at phase; exact phase
  refine State.crossingRemaining_ne_zero phaseX (goes phaseX) phase h.couplings (fun c _ => ?_) fun c _ away => ?_
  · have ends : y.st.endsCross = x.st.endsCross := by rewrite [e]; rfl
    split
    · have fields : c.nodeLost.endA = c.endA ∧ c.nodeLost.endB = c.endB ∧ c.nodeLost.crossing = c.crossing := by
        unfold Coupling.nodeLost
        repeat' split
        all_goals exact ⟨rfl, rfl, rfl⟩
      obtain ⟨endA, endB, crossing⟩ := fields
      rw [State.crossing, State.crossing, c.nodeLost_damaged, ends, endA, endB, crossing]
    · rw [State.crossing, State.crossing, ends]
  · split
    · exact Coupling.nodeLost_outside away
    · exact away

end

/-- R68, R70: the end of a transaction that has emptied the node list and moved no other binding. -/
theorem Txn.commit_emptied {x : Txn} (before : State) (free : x.st.errorFree = true) (nodes : x.st.tow.nodes = [])
    (commands : x.commands = []) (goes : x.st.lockage.phase = .remaking → x.st.crossingRemaining ≠ 0) :
    ∃ (l : Lockage) (n : Nat), x.commit before = { x.st with lockage := l, notices := x.st.notices.raised .lockage n } ∧
      l.breaks = x.st.lockage.breaks := by
  have quiet (y : Txn) (nodes : y.st.tow.nodes = []) (commands : y.commands = []) :
      (y.settleBindings before).st.placeCommands (y.settleBindings before).commands = y.st := by
    rewrite [y.settleBindings_same before (by simp [nodes]), commands]
    rfl
  unfold Txn.commit
  cases x.touched with
  | false =>
    exact ⟨x.st.lockage, 0, quiet x nodes commands, rfl⟩
  | true =>
    obtain ⟨l, n, made, breaks⟩ := Txn.lockageTest_free free goes true
    refine ⟨l, n, ?_, breaks⟩
    rewrite [if_pos rfl, made]
    exact quiet _ nodes commands

/-- Section 12.2: the bytes of the LINE RATE frame. -/
theorem lineRate_bytes (rate : Nat) :
    let head : List Byte := [0, 127, 0x18, 2, byte (rate / 256), byte rate]
    let frame : List Byte := head ++ [byte ((crc16 head).toNat / 256), byte (crc16 head).toNat]
    LineFrame.onTow { dest := Config.broadcast, kind := 0x18, payload := beBytes 2 rate } = frame := by
  intro head frame
  have two (n : Nat) : beBytes 2 n = [byte (n / 256), byte n] := by
    rewrite [beBytes_eq]
    simp [List.range_succ]
  rewrite [LineFrame.onTow, LineFrame.bytes, two, two]
  rfl

theorem lineRate_announced (s : State) (rate : Nat) (ready : s.tow.phase = .ready)
    (change : s.tow.rateChange = some rate) :
    let head : List Byte := [0, 127, 0x18, 2, byte (rate / 256), byte rate]
    let frame : List Byte := head ++ [byte ((crc16 head).toNat / 256), byte (crc16 head).toNat]
    exec .lineRate s = .next (settle { s with tow := { s.tow with
      lineRate := rate, rateChange := none, sent := [frame, frame] } }) := by
  intro head frame
  have bytes : LineFrame.onTow { dest := Config.broadcast, kind := 0x18, payload := beBytes 2 rate } = frame :=
    lineRate_bytes rate
  have e : exec .lineRate s = .next (settle s.announceRate) := rfl
  rewrite [e, State.announceRate, ready, change]
  simp only [State.modTow, bytes, ready]

section
variable {s : State} {q : Request} {qs : List Request} {v : Nat}

/-- R71: the state in which a change of line rate ends. -/
theorem amend_rate_taken (hs : s.serves q qs) (free : s.errorFree = true) (law : s.recordLaw = true)
    (hq : q.carries 0x04 8 [⟨14, v⟩]) (listed : v ∈ [1536, 768, 384, 192]) (moved : v ≠ s.policy.towLineRate)
    (unlashed : ∀ c ∈ s.couplings, c.winchTended = true → c.presents = .unlashed)
    (goes : s.lockage.phase = .remaking → s.crossingRemaining ≠ 0) :
    ∃ (y : Txn) (l : Lockage) (n : Nat), s.opened.Drops (s.tow.nodes.map (·.address)) y ∧
      exec .amend s = .next (settle { y.st with
        policy := { s.policy with towLineRate := v }
        lockage := l
        notices := y.st.notices.raised .lockage n
        tow := { y.st.tow with
          nodes := [], sweep := none, pointer := 1, round := 0, visitLast := false
          rateChange := some v, phase := y.st.tow.phase.abandoned, discard := false }
        console := { y.st.console with
          requests := qs
          responses := y.st.console.responses ++
            [{ tag := q.tag, code := q.code, result := .done, items := [] }] } }) := by
  have once := (s.recordLaw_iff.mp law).2.1
  have body := amendPolicy_rate hq listed moved free
  rewrite [if_neg (by rintro ⟨c, hc, tended, state⟩; exact state (unlashed c hc tended))] at body
  have drops := Txn.forKeys_dropNode (s.tow.nodes.map (·.address)) (x := s.opened) free once
  generalize hy : s.opened.forKeys (s.tow.nodes.map (·.address)) (fun a y => y.dropNode a) = y at drops
  have changed : s.rateChanged v = y.on fun t => { t with
      policy := { s.policy with towLineRate := v }
      tow := { t.tow with
        nodes := [], sweep := none, pointer := 1, round := 0, visitLast := false
        rateChange := some v, phase := t.tow.phase.abandoned, discard := false } } := by
    rewrite [← hy]
    rfl
  have still : (s.rateChanged v).st.lockage.phase = .remaking → (s.rateChanged v).st.crossingRemaining ≠ 0 := by
    rewrite [changed]
    exact drops.remaining goes
  obtain ⟨l, n, made, -⟩ := Txn.commit_emptied (x := s.rateChanged v) (s.take .console)
    (by rewrite [changed]; exact drops.errorFree free) (by rewrite [changed]; rfl) (by rewrite [changed]; exact drops.commands) still
  refine ⟨y, l, n, drops, ?_⟩
  rewrite [exec_answer (c := .amend) rfl rfl hs hq.1 body, made, changed]
  rfl

/-- R68, R70, R71, R144: a change of line rate. -/
theorem amend_lineRate (hs : s.serves q qs) (free : s.errorFree = true) (hq : q.carries 0x04 8 [⟨14, v⟩]) :
    (v ∉ [1536, 768, 384, 192] → exec .amend s = .next (s.answered q qs (.badField 14) [] s)) ∧
    (v ∈ [1536, 768, 384, 192] → v = s.policy.towLineRate → exec .amend s = .next (s.answered q qs .done [] s)) ∧
    (v ∈ [1536, 768, 384, 192] → v ≠ s.policy.towLineRate →
      (∃ c ∈ s.couplings, c.winchTended = true ∧ c.presents ≠ .unlashed) →
        exec .amend s = .next (s.answered q qs .wrongState [] s)) := by
  refine ⟨fun other => ?_, fun listed same => ?_, fun listed moved lashed => ?_⟩
  · refine exec_refused (c := .amend) rfl rfl hs hq.1 ?_
    rw [requestAmend_policy hq, amendPolicy_refused (policyRange_rate.trans (if_neg other))]
  · have given : givenPolicy [⟨14, (v : Int)⟩] s.policy = s.policy := by rewrite [same]; rfl
    have running : (if s.policy.consoleSilence ≠ 0 ∧ s.policy.consoleSilence = 0 then none else s.console.silence) =
        s.console.silence := if_neg fun h => h.1 h.2
    refine exec_quiet (c := .amend) (after := s) rfl rfl hs hq.1 ?_ rfl rfl
    rewrite [requestAmend_policy hq,
      amendPolicy_plain (x := s.opened) (p := s.policy) (policyRange_rate.trans (if_pos listed)) given rfl rfl]
    refine congrArg (fun u : State => (({ s.opened with st := u } : Txn), Result.done, [])) ?_
    refine congrArg (fun t : Option Timer => ({ s with
      arbiter := s.arbiter.grant .console, console := { s.console with silence := t } } : State)) ?_
    exact running
  · have body := amendPolicy_rate hq listed moved free
    rewrite [if_pos lashed] at body
    exact exec_refused (c := .amend) rfl rfl hs hq.1 body

end

/-- Settles O42: the policy's fields one by one, and the change of line rate through the drops of the nodes listed. -/
theorem lineRateIsAnnouncedTwice : Obligations.LineRateIsAnnouncedTwice := by
  refine ⟨lineRate_announced, fun s q qs v hs free => ⟨fun f hf hq => amend_policyFields hs hf hq,
    amend_consoleSilence hs, amend_boatNode hs free, fun hq => ?_⟩⟩
  obtain ⟨other, same, lashed⟩ := amend_lineRate hs free hq
  refine ⟨other, same, fun listed moved => ⟨lashed listed moved, fun unlashed law still goes => ?_⟩⟩
  obtain ⟨y, l, n, drops, ends⟩ := amend_rate_taken hs free law hq listed moved unlashed goes
  obtain ⟨e, u, nodes, state⟩ := drops.same
  have served (c : Coupling) : (s.tow.nodes.map (·.address)).any (s.opened.st.loses · c) = match c.tending with
      | .hand => false
      | .winch m _ => (s.nodeOf m).isSome := s.opened.st.any_loses c
  have idle : ∀ c ∈ s.couplings, (s.tow.nodes.map (·.address)).any (s.opened.st.loses · c) = true →
      c.presents = .unlashed := by
    intro c hc lost
    refine unlashed c hc ?_
    rewrite [served] at lost
    rewrite [Coupling.winchTended]
    cases tending : c.tending with
    | hand => simp [tending] at lost
    | winch m k => rfl
  refine ⟨_, ends, settle_policy _, settle_tow_nodes _, settle_tow_rateChange _, ?_, settle_tow_sweep _,
    settle_tow_pointer _, ?_, ?_, ?_, ?_, ?_, ?_, ?_, settle_console_requests _, ?_⟩
  · rewrite [settle_tow_lineRate, state]
    rfl
  · rintro faults ⟨a, carried, phase⟩
    refine settle_ready ?_ ?_
    · have kept : y.st.tow.phase = s.tow.phase := by rewrite [state]; rfl
      rewrite [kept]
      rcases phase with h | h | h | h <;> rewrite [h] <;> rfl
    · rewrite [state]
      exact faults
  · rewrite [settle_notices, NoticeUnit.raised_node]
    simpa using drops.count
  · rewrite [settle_notices, NoticeUnit.raised_coupling]
    exact drops.coupling idle
  · rewrite [settle_couplings]
    refine drops.couplings.trans (List.map_congr_left fun c hc => ?_)
    have lost := idle c hc
    rewrite [served] at lost ⊢
    cases tending : c.tending with
    | hand => rfl
    | winch m k =>
      rewrite [tending] at lost
      by_cases listed : (s.nodeOf m).isSome = true
      · simp only [if_pos listed]
        exact (Coupling.nodeLost_of_unlashed (lost listed)).trans (by rw [tending])
      · simp only [if_neg listed]
  · intro h bow bound f hf five
    rewrite [settle_engines] at hf
    obtain ⟨d, -, dropped⟩ := exists_of_mem_forall₂ drops.engines hf
    refine dropped.goes ?_ (dropped.number.symm.trans five)
    exact (State.any_atBow (s := s.opened.st) bow).trans bound
  · rewrite [settle_barges, state]
    rfl
  · refine settle_link ?_ ?_ still
    · rewrite [state]
      rfl
    · rewrite [state]
      rfl
  · rewrite [settle_console_responses, state]
    rfl

/-! RESET LINKS over any store: what the drops of the nodes and the resets of the contexts leave standing. -/

/-! ## Records that come to rest -/

/-- R145: an engine that has left RUNNING. -/
def Engine.Idle (e : Engine) : Prop :=
  e.allowed = 0 ∧ e.sent = 0 ∧ e.delivered = none ∧ e.alarm = false ∧ e.zeroTime = 0

/-- R139: a rudder channel that has left RUNNING. -/
def Rudder.Idle (r : Rudder) : Prop := r.allowed = 0 ∧ r.sent = 0 ∧ r.feedback = none

/-- A change of an engine that starts nothing. -/
structure Engine.Calms (e f : Engine) : Prop where
  number : f.number = e.number
  bowBarge : f.bowBarge = e.bowBarge
  offline : e.state = .offline → f.state = .offline
  idle : e.Idle → f.Idle

/-- A change of a rudder channel that starts nothing. -/
structure Rudder.Calms (r q : Rudder) : Prop where
  channel : q.channel = r.channel
  offline : r.state = .offline → q.state = .offline
  idle : r.Idle → q.Idle

/-- A change of a tank that brings no gauged figure. -/
structure Tank.Calms (t u : Tank) : Prop where
  number : u.number = t.number
  gauged : t.gauged = none → u.gauged = none

theorem Engine.Calms.refl (e : Engine) : e.Calms e := ⟨rfl, rfl, id, id⟩
theorem Rudder.Calms.refl (r : Rudder) : r.Calms r := ⟨rfl, id, id⟩
theorem Tank.Calms.refl (t : Tank) : t.Calms t := ⟨rfl, id⟩
theorem Engine.Calms.trans {e f g : Engine} (h : e.Calms f) (k : f.Calms g) : e.Calms g :=
  ⟨k.number.trans h.number, k.bowBarge.trans h.bowBarge, k.offline ∘ h.offline, k.idle ∘ h.idle⟩
theorem Rudder.Calms.trans {e f g : Rudder} (h : e.Calms f) (k : f.Calms g) : e.Calms g :=
  ⟨k.channel.trans h.channel, k.offline ∘ h.offline, k.idle ∘ h.idle⟩
theorem Tank.Calms.trans {e f g : Tank} (h : e.Calms f) (k : f.Calms g) : e.Calms g :=
  ⟨k.number.trans h.number, k.gauged ∘ h.gauged⟩

namespace State

/-- What RESET LINKS leaves standing at every stage. -/
structure Stands (s t : State) : Prop where
  barges : t.barges = s.barges
  strings : t.strings = s.strings
  policy : t.policy = s.policy
  console : t.console = s.console
  station : t.notices.station = s.notices.station
  timer : t.link.timer = s.link.timer
  engines : List.Forall₂ Engine.Calms s.engines t.engines
  rudders : List.Forall₂ Rudder.Calms s.rudders t.rudders
  tanks : List.Forall₂ Tank.Calms s.tanks t.tanks

namespace Stands

theorem refl (s : State) : s.Stands s :=
  ⟨rfl, rfl, rfl, rfl, rfl, rfl, List.forall₂_same.mpr fun e _ => .refl e, List.forall₂_same.mpr fun r _ => .refl r,
    List.forall₂_same.mpr fun t _ => .refl t⟩

theorem trans {s t u : State} (h : s.Stands t) (k : t.Stands u) : s.Stands u where
  barges := k.barges.trans h.barges
  strings := k.strings.trans h.strings
  policy := k.policy.trans h.policy
  console := k.console.trans h.console
  station := k.station.trans h.station
  timer := k.timer.trans h.timer
  engines := forall₂_comp (R := Engine.Calms) (S := Engine.Calms) (fun _ _ _ => Engine.Calms.trans) h.engines k.engines
  rudders := forall₂_comp (R := Rudder.Calms) (S := Rudder.Calms) (fun _ _ _ => Rudder.Calms.trans) h.rudders k.rudders
  tanks := forall₂_comp (R := Tank.Calms) (S := Tank.Calms) (fun _ _ _ => Tank.Calms.trans) h.tanks k.tanks

theorem bowBarge {s t : State} (h : s.Stands t) : t.bowBarge? = s.bowBarge? :=
  bowBarge_of_forall₂ (h.engines.imp fun _ _ c => ⟨c.number, c.bowBarge⟩)

theorem bound {s t : State} (h : s.Stands t) : t.bound = s.bound :=
  State.bound_congr _ _ h.barges h.policy

end Stands

/-- Work that leaves the lines and NODE alone as well. -/
structure Quiet (s t : State) : Prop where
  stands : s.Stands t
  link : t.link = s.link
  tow : t.tow = s.tow
  node : t.notices.node = s.notices.node
  readings : t.readings = s.readings

namespace Quiet

theorem refl (s : State) : s.Quiet s := ⟨.refl s, rfl, rfl, rfl, rfl⟩
theorem trans {s t u : State} (h : s.Quiet t) (k : t.Quiet u) : s.Quiet u :=
  ⟨h.stands.trans k.stands, k.link.trans h.link, k.tow.trans h.tow, k.node.trans h.node,
    k.readings.trans h.readings⟩

end Quiet

end State

section
variable {s : State} {x y : Txn}

namespace State.Quiet

/-- Work on couplings, transfers, the tow status, the lockage record and the other notices. -/
theorem same (h : s.Quiet x.st) (t : State)
    (stands : x.st.Stands t := by exact { State.Stands.refl _ with }) (link : t.link = x.st.link := by rfl)
    (tow : t.tow = x.st.tow := by rfl) (node : t.notices.node = x.st.notices.node := by rfl)
    (readings : t.readings = x.st.readings := by rfl) : s.Quiet t := h.trans ⟨stands, link, tow, node, readings⟩

theorem raise (h : s.Quiet x.st) {c : Cause} (hc : c ≠ .station) (hn : c ≠ .node) :
    s.Quiet (x.raise c).st := by
  refine h.same _ { State.Stands.refl _ with station := ?_ } rfl rfl ?_
  · exact NoticeUnit.raise_get (d := .station) _ hc.symm
  · exact NoticeUnit.raise_get (d := .node) _ hn.symm

theorem raiseIf (h : s.Quiet x.st) (b : Bool) {c : Cause} (hc : c ≠ .station) (hn : c ≠ .node) :
    s.Quiet (x.raiseIf b c).st := by
  cases b
  · exact h
  · exact h.raise hc hn

theorem modCoupling (h : s.Quiet x.st) (k : Nat) (ws : List Nat) (f : Coupling → Coupling) :
    s.Quiet (x.modCoupling k ws f).st := h.same _

theorem modEngine (h : s.Quiet x.st) (p : Engine → Bool) (f : Engine → Engine)
    (calms : ∀ e : Engine, e.Calms (f e)) : s.Quiet (x.on fun s => { s with engines := update p f s.engines }).st :=
  h.same _ { State.Stands.refl _ with engines := forall₂_update Engine.Calms.refl _ _ _ fun e _ _ => calms e }

theorem placeFor (h : s.Quiet x.st) (c : Coupling) (w : WinchCommand) : s.Quiet (x.placeFor c w).st := by
  rewrite [Txn.placeFor_spec]
  exact h

theorem of_scan {hd : Header} {ws : List Nat} {b : Bool} (e : x.scan hd ws = (y, b)) (h : s.Quiet x.st) :
    s.Quiet y.st := by
  obtain ⟨n, hn⟩ := Txn.scan_spec hd ws x
  rewrite [e] at hn
  subst hn
  exact h.same _

/-- R12: a coupling, an engine or a transfer is found damaged. -/
theorem damaged (h : s.Quiet x.st) {t : Tbl} (ht : t = .couplings ∨ t = .engines ∨ t = .transfers)
    (k : Nat) : s.Quiet ((x.markDamaged t k).damageFollows t k).st := by
  rcases ht with rfl | rfl | rfl
  · have marked : s.Quiet (x.markDamaged .couplings k).st := State.Quiet.raise (h.same _) (by decide) (by decide)
    show s.Quiet ((x.markDamaged .couplings k).couplingDamaged k).st
    unfold Txn.couplingDamaged
    split
    · exact marked
    · exact (marked.modCoupling _ _ _).placeFor _ _
  · have header : s.Quiet (x.on fun s => s.modHeader .engines k fun d => { d with damaged := true }).st :=
      h.modEngine _ (fun e => { e with header := { e.header with damaged := true } }) fun e => ⟨rfl, rfl, id, id⟩
    have marked : s.Quiet (x.markDamaged .engines k).st := State.Quiet.raise (header.same _) (by decide) (by decide)
    exact marked.modEngine _ (fun e => Engine.renew { e with allowed := 0, sent := 0 } [11, 12]) fun e =>
      ⟨rfl, rfl, id, fun ⟨_, _, rest⟩ => ⟨rfl, rfl, rest⟩⟩
  · have marked : s.Quiet (x.markDamaged .transfers k).st := State.Quiet.raise (h.same _) (by decide) (by decide)
    exact marked.same _

theorem read (h : s.Quiet x.st) {t : Tbl} (ht : t = .couplings ∨ t = .engines ∨ t = .transfers) (k : Nat)
    (ws : List Nat) : s.Quiet (x.read t k ws).1.st := by
  have record : s.Quiet (x.readRecord t k ws).1.st := by
    unfold Txn.readRecord
    split
    · exact h
    · split
      · exact h
      · split <;> rename_i hs
        · exact .of_scan hs h
        · exact (State.Quiet.of_scan hs h).damaged ht k
  unfold Txn.read
  split <;> rename_i hr
  · rewrite [hr] at record
    exact record
  · rewrite [hr] at record
    have other : t ≠ .tanks := by
      rintro rfl
      simp at ht
    rewrite [if_neg fun both => other both.1]
    exact record

theorem forKeys (h : s.Quiet x.st) (keys : List Nat) (f : Nat → Txn → Txn)
    (hf : ∀ k y, s.Quiet y.st → s.Quiet (f k y).st) : s.Quiet (x.forKeys keys f).st :=
  Txn.forKeys_keeps (fun y => s.Quiet y.st) f keys x h fun k _ y => hf k y

theorem loseCoupling (h : s.Quiet x.st) (k : Nat) : s.Quiet (x.loseCoupling k).st := by
  have read := h.read (t := .couplings) (.inl rfl) k [11]
  unfold Txn.loseCoupling
  split <;> rename_i hr <;> rewrite [hr] at read
  · unfold Txn.dropDamaged
    split
    · exact read
    · split
      · exact read
      · exact (read.modCoupling _ _ _).raise (by decide) (by decide)
  · split
    · exact read
    · split
      · exact read.modCoupling _ _ _
      · exact (read.modCoupling _ _ _).raise (by decide) (by decide)

theorem loseMember (h : s.Quiet x.st) (m : Member) : s.Quiet (x.loseMember m).st :=
  (h.forKeys _ _ fun k _ hy => hy.loseCoupling k)

end State.Quiet

namespace Engine

theorem calms_stopping (e : Engine) : e.Calms (Engine.renew
    { e with allowed := 0, sent := 0, delivered := none, alarm := false, zeroTime := 0 } [11, 12, 13, 14, 17]) :=
  ⟨rfl, rfl, id, fun _ => ⟨rfl, rfl, rfl, rfl, rfl⟩⟩

theorem calms_offline (e : Engine) : e.Calms (Engine.renew { e with state := .offline } [15]) :=
  ⟨rfl, rfl, fun _ => rfl, id⟩

end Engine

namespace State.Quiet

theorem engineLeavesRunning (h : s.Quiet x.st) (k : Nat) : s.Quiet (x.engineLeavesRunning k).st :=
  h.modEngine _ _ fun e => e.calms_stopping

/-- R144, R145: engine 5 goes OFFLINE, whatever the read of its state finds. -/
theorem enterBow (h : s.Quiet x.st) : s.Quiet (x.enterBow .offline).st := by
  have read : s.Quiet x.readBow.st := h.read (.inr (.inl rfl)) 5 [15]
  rewrite [Txn.enterBow, if_neg (by simp)]
  unfold Txn.setBow
  split
  · exact read
  · dsimp only
    split
    · exact (read.engineLeavesRunning 5).modEngine _ _ fun e => e.calms_offline
    · exact read.modEngine _ _ fun e => e.calms_offline

end State.Quiet

theorem setBow_offline_engines (x : Txn) : ∀ e ∈ (x.setBow .offline).st.engines, e.number = 5 → e.state = .offline := by
  obtain ⟨l, made, engines⟩ := x.setBow_offline
  intro e he five
  rewrite [made] at he
  obtain ⟨d, -, dropped⟩ := exists_of_mem_forall₂ engines he
  exact dropped.goes trivial (dropped.number.symm.trans five)

/-! ## The completion test -/

namespace State

theorem Quiet.lockageTest (h : s.Quiet x.st) (announce : Bool) : s.Quiet (x.lockageTest announce).st := by
  have complete (y : Txn) (hy : s.Quiet y.st) : s.Quiet (y.complete announce).st := by
    unfold Txn.complete
    dsimp only
    split
    · exact hy.same _
    · exact hy.same _
    · split
      · exact State.Quiet.raiseIf (hy.same _) _ (by decide) (by decide)
      · exact hy.same _
    · split
      · refine State.Quiet.raiseIf ?_ _ (by decide) (by decide)
        exact State.Quiet.forKeys (hy.same _) _ _ fun k _ hz => hz.modCoupling _ _ _
      · exact hy.same _
  have boat (y : Txn) (hy : s.Quiet y.st) : s.Quiet y.evaluateBoatCut.st := by
    unfold Txn.evaluateBoatCut
    split
    · exact hy
    · exact State.Quiet.raiseIf (hy.same _) _ (by decide) (by decide)
  unfold Txn.lockageTest
  split
  · exact h
  · exact boat _ (complete _ (h.forKeys _ _ fun k _ hy => hy.read (.inl rfl) k _))

theorem placeCommands_unlisted (cs : List (Member × Nat × WinchCommand)) {t : State} (nodes : t.tow.nodes = []) :
    t.placeCommands cs = t := by
  induction cs with
  | nil => rfl
  | cons c cs ih =>
    have here : t.placeCommand c.1 c.2.1 c.2.2 = t := by
      have none : t.nodeOf c.1 = none := by rewrite [State.nodeOf, nodes]; rfl
      rw [State.placeCommand, none]
    rewrite [State.placeCommands, List.foldl_cons, here]
    exact ih

/-- R9: the end of a transaction that leaves no node listed. -/
theorem Quiet.commit (nodes : x.st.tow.nodes = []) (before : State) : x.st.Quiet (x.commit before) := by
  have tested : x.st.Quiet (if x.touched then x.lockageTest true else x).st := by
    split
    · exact (State.Quiet.refl x.st).lockageTest true
    · exact .refl _
  generalize hy : (if x.touched then x.lockageTest true else x) = y at tested
  have none : y.st.tow.nodes = [] := by rewrite [tested.tow]; exact nodes
  have e : x.commit before = y.st := by
    rw [Txn.commit, hy, y.settleBindings_same before (by simp [none]), State.placeCommands_unlisted _ none]
  rewrite [e]
  exact tested

end State

/-! ## The drops -/

namespace Txn

/-- R70: what the drops of the nodes at the addresses leave standing, over any store. -/
structure Unlists (x : Txn) (addresses : List Nat) (y : Txn) : Prop where
  stands : x.st.Stands y.st
  link : y.st.link = x.st.link
  bow : addresses.any x.st.atBow = true → ∀ e ∈ y.st.engines, e.number = 5 → e.state = .offline
  count : y.st.notices.node.count % 256 = (x.st.notices.node.count + addresses.length) % 256
  pending : x.st.notices.node.pending = true ∨ addresses ≠ [] → y.st.notices.node.pending = true

theorem Unlists.refl (x : Txn) : x.Unlists [] x :=
  ⟨.refl _, rfl, by simp, rfl, fun h => h.elim id fun none => absurd rfl none⟩

end Txn

theorem offline_of_calms {l m : List Engine} (h : List.Forall₂ Engine.Calms l m)
    (off : ∀ e ∈ l, e.number = 5 → e.state = .offline) : ∀ e ∈ m, e.number = 5 → e.state = .offline := by
  intro f hf five
  obtain ⟨e, he, calms⟩ := exists_of_mem_forall₂ h hf
  exact calms.offline (off e he (calms.number.symm.trans five))

namespace Txn

theorem Unlists.trans {z : Txn} {as bs : List Nat} (h : x.Unlists as y) (k : y.Unlists bs z) :
    x.Unlists (as ++ bs) z where
  stands := h.stands.trans k.stands
  link := k.link.trans h.link
  bow some := by
    rewrite [List.any_append, Bool.or_eq_true] at some
    rcases some with first | second
    · exact offline_of_calms k.stands.engines (h.bow first)
    · refine k.bow ?_
      have same : y.st.atBow = x.st.atBow := by
        funext a
        rw [State.atBow, State.atBow, h.stands.bound, h.stands.bowBarge]
      rewrite [same]
      exact second
  count := by
    rewrite [List.length_append, ← Nat.add_assoc]
    exact k.count.trans (Nat.ModEq.add_right _ h.count)
  pending some := by
    refine k.pending ?_
    rcases as with _ | ⟨a, as⟩
    · exact some.imp (fun p => h.pending (.inl p)) fun none => by simpa using none
    · exact .inl (h.pending (.inr (by simp)))

/-- R68, R89, R144: the drop of one node. -/
theorem dropNode_unlists (a : Nat) : x.Unlists [a] (x.dropNode a) := by
  let y := x.modTow fun t => { t with nodes := t.nodes.filter (·.address != a) }
  have lost : y.st.Quiet (match x.st.bound a with | some m => y.loseMember m | none => y).st := by
    split
    · exact (State.Quiet.refl y.st).loseMember _
    · exact .refl _
  generalize hz : (match x.st.bound a with | some m => y.loseMember m | none => y) = z at lost
  have bow : y.st.Quiet (if x.st.atBow a then z.enterBow .offline else z).st ∧ (x.st.atBow a = true →
      ∀ e ∈ (if x.st.atBow a then z.enterBow .offline else z).st.engines, e.number = 5 → e.state = .offline) := by
    split
    · refine ⟨lost.enterBow, fun _ => ?_⟩
      rewrite [Txn.enterBow, if_neg (by simp)]
      exact setBow_offline_engines _
    · exact ⟨lost, fun h => absurd h ‹_›⟩
  generalize hw : (if x.st.atBow a then z.enterBow .offline else z) = w at bow
  obtain ⟨quiet, offline⟩ := bow
  have dropped : x.dropNode a = w.raise .node := by
    rewrite [← hw, ← hz]
    rfl
  have before : w.st.notices.node = x.st.notices.node := quiet.node
  rewrite [dropped]
  exact {
    stands := { quiet.stands with }
    link := quiet.link
    bow := fun some => offline (by simpa using some)
    count := by
      show ((w.st.notices.node.count + 1) % 256) % 256 = _
      rewrite [before]
      exact Nat.mod_mod _ _
    pending := fun _ => rfl }

theorem forKeys_dropNode_unlists : ∀ (addresses : List Nat) (x : Txn),
    x.Unlists addresses (x.forKeys addresses fun a y => y.dropNode a)
  | [], x => .refl x
  | a :: addresses, x => (x.dropNode_unlists a).trans (Txn.forKeys_dropNode_unlists addresses (x.dropNode a))

end Txn

end

/-! RESET LINKS: the contexts reset one by one. -/

/-! ## What the reset of a context leaves standing -/

namespace Txn

/-- What the resets of the contexts leave standing. -/
structure Relinks (x y : Txn) : Prop where
  stands : x.st.Stands y.st
  tow : y.st.tow = x.st.tow
  node : y.st.notices.node = x.st.notices.node
  couplings : y.st.couplings = x.st.couplings
  lockage : y.st.lockage = x.st.lockage
  commands : y.commands = x.commands
  touched : y.touched = x.touched

namespace Relinks

theorem refl (x : Txn) : x.Relinks x := ⟨.refl _, rfl, rfl, rfl, rfl, rfl, rfl⟩

theorem trans {x y z : Txn} (h : x.Relinks y) (k : y.Relinks z) : x.Relinks z :=
  ⟨h.stands.trans k.stands, k.tow.trans h.tow, k.node.trans h.node, k.couplings.trans h.couplings,
    k.lockage.trans h.lockage, k.commands.trans h.commands, k.touched.trans h.touched⟩

end Relinks

end Txn

section
variable {x y z : Txn}

namespace Txn.Relinks

theorem raise (h : x.Relinks y) {c : Cause} (hc : c ≠ .station) (hn : c ≠ .node) :
    x.Relinks (y.raise c) := by
  refine h.trans { Txn.Relinks.refl y with stands := { State.Stands.refl _ with station := ?_ }, node := ?_ }
  · exact NoticeUnit.raise_get (d := .station) _ hc.symm
  · exact NoticeUnit.raise_get (d := .node) _ hn.symm

theorem modTransfer (h : x.Relinks y) (k : Nat) (ws : List Nat) (f : Transfer → Transfer) :
    x.Relinks (y.modTransfer k ws f) := h.trans { Txn.Relinks.refl y with stands := { State.Stands.refl _ with } }

theorem modContext (h : x.Relinks y) (a : Nat) (f : Context → Context) : x.Relinks (y.modContext a f) :=
  h.trans { Txn.Relinks.refl y with stands := { State.Stands.refl _ with } }

theorem withdraw (h : x.Relinks y) (a : Nat) : x.Relinks (y.withdraw a) :=
  h.trans { Txn.Relinks.refl y with stands := { State.Stands.refl _ with } }

theorem modEngine (h : x.Relinks y) {k : Nat} {ws : List Nat} {f : Engine → Engine}
    (calms : ∀ e : Engine, e.Calms ((f e).renew ws)) : x.Relinks (y.modEngine k ws f) :=
  h.trans { Txn.Relinks.refl y with stands := { State.Stands.refl _ with
    engines := forall₂_update Engine.Calms.refl _ _ _ fun e _ _ => calms e } }

theorem modRudder (h : x.Relinks y) {k : Nat} {ws : List Nat} {f : Rudder → Rudder}
    (calms : ∀ r : Rudder, r.Calms ((f r).renew ws)) : x.Relinks (y.modRudder k ws f) :=
  h.trans { Txn.Relinks.refl y with stands := { State.Stands.refl _ with
    rudders := forall₂_update Rudder.Calms.refl _ _ _ fun r _ _ => calms r } }

theorem modTank (h : x.Relinks y) {k : Nat} {ws : List Nat} {f : Tank → Tank}
    (calms : ∀ t : Tank, t.Calms ((f t).renew ws)) : x.Relinks (y.modTank k ws f) :=
  h.trans { Txn.Relinks.refl y with stands := { State.Stands.refl _ with
    tanks := forall₂_update Tank.Calms.refl _ _ _ fun t _ _ => calms t } }

theorem read (h : x.Relinks y) (k : Nat) (ws : List Nat) : x.Relinks (y.read .transfers k ws).1 := by
  have record : x.Relinks (y.readRecord .transfers k ws).1 := by
    unfold Txn.readRecord
    split
    · exact h
    · rename_i d _
      split
      · exact h
      · obtain ⟨n, hn⟩ := Txn.scan_spec d ws y
        have scanned : x.Relinks (y.scan d ws).1 := by
          rewrite [hn]
          exact h.trans { Txn.Relinks.refl y with stands := { State.Stands.refl _ with } }
        split <;> rename_i hs <;> rewrite [hs] at scanned
        · exact scanned
        · refine Txn.Relinks.modTransfer (Txn.Relinks.raise (scanned.trans ?_) (by decide) (by decide)) _ _ _
          exact { Txn.Relinks.refl _ with stands := { State.Stands.refl _ with } }
  unfold Txn.read
  split <;> rename_i hr <;> rewrite [hr] at record
  · exact record
  · rewrite [if_neg fun both => Tbl.noConfusion both.1]
    exact record

theorem pumpLost (h : x.Relinks y) (k : Nat) : x.Relinks (y.pumpLost k) := by
  have first := h.read k [14]
  unfold Txn.pumpLost
  split <;> rename_i hr <;> rewrite [hr] at first
  · exact first
  · split
    · exact first
    · split
      · have second := first.read k ([9] ++ wide 12 ++ [18, 20])
        split <;> rename_i hr <;> rewrite [hr] at second
        · exact second
        · have marked (w : Txn) (hw : x.Relinks w) : x.Relinks (w.moveMark k) := by
            unfold Txn.moveMark
            split
            · exact hw
            · exact hw.modTransfer _ _ _
          have entered (w : Txn) (hw : x.Relinks w) (new : TransferState) : x.Relinks (w.enterTransfer k new) := by
            unfold Txn.enterTransfer
            split
            · exact hw
            · split
              · exact hw
              · exact (hw.modTransfer _ _ _).raise (by decide) (by decide)
          exact entered _ (marked _ second) _
      · exact first

end Txn.Relinks

theorem Rudder.calms_stopping (r : Rudder) :
    r.Calms (Rudder.renew { r with allowed := 0, sent := 0, feedback := none } [10, 11, 12]) :=
  ⟨rfl, id, fun _ => ⟨rfl, rfl, rfl⟩⟩

namespace Txn.Relinks

theorem leaveExchange (h : x.Relinks y) (c : Context) : x.Relinks (y.leaveExchange c) := by
  unfold Txn.leaveExchange
  split
  · exact h.modEngine Engine.calms_stopping
  · exact h.modRudder Rudder.calms_stopping
  · exact (h.modContext _ _).withdraw _
  · exact ((h.modContext _ _).withdraw _).pumpLost _
  · exact h.modTank fun t => ⟨rfl, fun _ => rfl⟩

theorem mirror (h : x.Relinks y) (kind : StationKind) (k : Nat) : x.Relinks (y.mirror kind k .offline) := by
  cases kind
  · exact h.modEngine fun e => ⟨rfl, rfl, fun _ => rfl, id⟩
  · exact h.modRudder fun r => ⟨rfl, fun _ => rfl, id⟩
  all_goals exact h

theorem enterContext (h : x.Relinks y) (a : Nat) : x.Relinks (y.enterContext a .offline) := by
  unfold Txn.enterContext
  split
  · exact h
  · dsimp only
    have moved := h.modContext a fun c => { c with state := .offline }
    repeat' split
    · exact moved.leaveExchange _
    · exact moved
    · exact (moved.leaveExchange _).mirror _ _
    · exact moved.mirror _ _

theorem resetContext (h : x.Relinks y) (a : Nat) : x.Relinks (y.resetContext a) :=
  (h.enterContext a).modContext _ _

end Txn.Relinks

/-! ## The contexts -/

/-- R110: a context after the reset. -/
def Context.reset (c : Context) : Context :=
  { c with state := .offline, misses := 0, baseline := none, lastTemperature := none }

namespace Txn

theorem read_transfers_link (y : Txn) (k : Nat) (ws : List Nat) : (y.read .transfers k ws).1.st.link = y.st.link :=
  ((State.Quiet.refl y.st).read (.inr (.inr rfl)) k ws).link

theorem pumpLost_link (y : Txn) (k : Nat) : (y.pumpLost k).st.link = y.st.link := by
  have first := y.read_transfers_link k [14]
  unfold Txn.pumpLost
  split <;> rename_i hr <;> rewrite [hr] at first
  · exact first
  · rename_i z
    split
    · exact first
    · split
      · have second := z.read_transfers_link k ([9] ++ wide 12 ++ [18, 20])
        split <;> rename_i hr <;> rewrite [hr] at second
        · exact second.trans first
        · rename_i w
          have marked : (w.moveMark k).st.link = w.st.link := by
            unfold Txn.moveMark
            split <;> rfl
          have entered (v : Txn) (new : TransferState) : (v.enterTransfer k new).st.link = v.st.link := by
            unfold Txn.enterTransfer
            split
            · rfl
            · split <;> rfl
          exact (entered _ _).trans (marked.trans (second.trans first))
      · exact first

theorem mirror_link (y : Txn) (kind : StationKind) (k : Nat) (state : ContextState) :
    (y.mirror kind k state).st.link = y.st.link := by cases kind <;> rfl

/-- R109, R110: the contexts after one is reset. -/
theorem resetContext_contexts (x : Txn) (a : Nat) :
    (x.resetContext a).st.link.contexts = update (·.address == a) Context.reset x.st.link.contexts := by
  let last (c : Context) : Context := { c with misses := 0, baseline := none, lastTemperature := none }
  have enough {f : Context → Context} (y : Txn) (hy : y.st.link.contexts = update (·.address == a) f x.st.link.contexts)
      (hf : ∀ c, (f c).address = c.address ∧ last (f c) = c.reset) :
      (y.modContext a last).st.link.contexts = update (·.address == a) Context.reset x.st.link.contexts := by
    show update (·.address == a) last y.st.link.contexts = _
    rewrite [hy, update_update _ _ _ _ fun c => by rw [(hf c).1]]
    exact congrArg (fun g => update (·.address == a) g x.st.link.contexts) (funext fun c => (hf c).2)
  unfold Txn.resetContext
  unfold Txn.enterContext
  cases found : x.st.context? a with
  | none =>
    have nothing (f : Context → Context) : update (·.address == a) f x.st.link.contexts = x.st.link.contexts :=
      update_eq_self (key := Context.address) fun c hc same =>
        absurd same (by simpa using List.find?_eq_none.mp found c hc)
    exact (nothing last).trans (nothing Context.reset).symm
  | some c =>
    have address : c.address = a := by simpa using List.find?_some found
    let y := x.modContext a fun c => { c with state := .offline }
    have moved : y.st.link.contexts = update (·.address == a) (fun c => { c with state := .offline }) x.st.link.contexts :=
      rfl
    have left : ∃ f : Context → Context, (y.leaveExchange c).st.link.contexts =
        update (·.address == a) f x.st.link.contexts ∧ ∀ c, (f c).address = c.address ∧ last (f c) = c.reset := by
      have metered : update (·.address == a) (fun c => { c with baseline := none, lastTemperature := none })
          (update (·.address == a) (fun c => { c with state := .offline }) x.st.link.contexts) =
          update (·.address == a) (fun c => { c with state := .offline, baseline := none, lastTemperature := none })
            x.st.link.contexts := update_update _ _ _ _ (by intro _; rfl)
      unfold Txn.leaveExchange
      split
      · exact ⟨_, moved, fun _ => ⟨rfl, rfl⟩⟩
      · exact ⟨_, moved, fun _ => ⟨rfl, rfl⟩⟩
      · refine ⟨fun c => { c with state := .offline, baseline := none, lastTemperature := none }, ?_, fun _ => ⟨rfl, rfl⟩⟩
        rewrite [address]
        exact metered
      · refine ⟨fun c => { c with state := .offline, baseline := none, lastTemperature := none }, ?_, fun _ => ⟨rfl, rfl⟩⟩
        rewrite [Txn.pumpLost_link, address]
        exact metered
      · exact ⟨_, moved, fun _ => ⟨rfl, rfl⟩⟩
    obtain ⟨f, leaves, hf⟩ := left
    dsimp only
    split
    · split
      · exact enough _ leaves hf
      · exact enough (f := fun c => { c with state := .offline }) _ moved fun _ => ⟨rfl, rfl⟩
    · split
      · exact enough _ (by rewrite [Txn.mirror_link]; exact leaves) hf
      · exact enough (f := fun c => { c with state := .offline }) _ (by rewrite [Txn.mirror_link]; exact moved)
          fun _ => ⟨rfl, rfl⟩

theorem forKeys_reset : ∀ (addresses : List Nat) (x : Txn),
    x.Relinks (x.forKeys addresses fun a z => z.resetContext a) ∧
    (x.forKeys addresses fun a z => z.resetContext a).st.link.contexts =
      x.st.link.contexts.map fun c => if c.address ∈ addresses then c.reset else c
  | [], x => ⟨.refl x, by simp [Txn.forKeys]⟩
  | a :: addresses, x => by
    obtain ⟨stands, contexts⟩ := Txn.forKeys_reset addresses (x.resetContext a)
    refine ⟨((Txn.Relinks.refl x).resetContext a).trans stands, contexts.trans ?_⟩
    rewrite [Txn.resetContext_contexts, update, List.map_map]
    refine List.map_congr_left fun c _ => ?_
    by_cases here : c.address = a
    · have twice : (c.reset).reset = c.reset := rfl
      have kept : (c.reset).address = c.address := rfl
      by_cases more : a ∈ addresses <;> simp [here, more, twice, kept]
    · simp [here]

end Txn

/-! ## What a reset brings for the records served (R109) -/

namespace State

/-- R109, R129, R139: the records that a context serves, after its reset. -/
def served (t : State) (c : Context) : Prop :=
  (c.kind = .engine → ∀ e ∈ t.engines, e.number = c.key →
    (c.state ≠ .offline → e.state = .offline) ∧ (c.state = .exchange → e.Idle)) ∧
  (c.kind = .rudder → ∀ r ∈ t.rudders, r.channel = c.key →
    (c.state ≠ .offline → r.state = .offline) ∧ (c.state = .exchange → r.Idle)) ∧
  (c.kind = .gauge → c.state = .exchange → ∀ k ∈ t.tanks, k.number = c.key → k.gauged = none)

theorem served.stands {s t : State} {c : Context} (h : s.served c) (k : s.Stands t) : t.served c := by
  obtain ⟨engine, rudder, gauge⟩ := h
  refine ⟨fun kind f hf key => ?_, fun kind f hf key => ?_, fun kind inside f hf key => ?_⟩
  · obtain ⟨e, he, calms⟩ := exists_of_mem_forall₂ k.engines hf
    obtain ⟨off, idle⟩ := engine kind e he (calms.number.symm.trans key)
    exact ⟨calms.offline ∘ off, calms.idle ∘ idle⟩
  · obtain ⟨e, he, calms⟩ := exists_of_mem_forall₂ k.rudders hf
    obtain ⟨off, idle⟩ := rudder kind e he (calms.channel.symm.trans key)
    exact ⟨calms.offline ∘ off, calms.idle ∘ idle⟩
  · obtain ⟨e, he, calms⟩ := exists_of_mem_forall₂ k.tanks hf
    exact calms.gauged (gauge kind inside e he (calms.number.symm.trans key))

end State

theorem mem_update_key {α : Type} {key : α → Nat} {k : Nat} {f : α → α} {l : List α} {b : α}
    (hb : b ∈ update (key · == k) f l) (kept : ∀ a, key (f a) = key a) (hk : key b = k) :
    ∃ a ∈ l, key a = k ∧ b = f a := by
  obtain ⟨a, ha, rfl⟩ := (mem_update _ _ _ _).mp hb
  split at hk
  · rewrite [if_pos ‹_›]
    exact ⟨a, ha, (kept a).symm.trans hk, rfl⟩
  · rename_i other
    exact absurd hk (by simpa using other)

namespace Txn

/-- R109: the reset of the context itself. -/
theorem resetContext_served {c : Context} (found : x.st.context? c.address = some c) :
    (x.resetContext c.address).st.served c := by
  by_cases off : c.state = .offline
  · have outside : c.state ≠ .exchange := by rewrite [off]; decide
    exact ⟨fun _ _ _ _ => ⟨absurd off, fun h => absurd h outside⟩,
      fun _ _ _ _ => ⟨absurd off, fun h => absurd h outside⟩, fun _ h => absurd h outside⟩
  · let y := x.modContext c.address fun c => { c with state := .offline }
    have entered : x.enterContext c.address .offline =
        (if c.state = .exchange then y.leaveExchange c else y).mirror c.kind c.key .offline := by
      simp only [Txn.enterContext, found, off, if_false, ne_eq, reduceCtorEq, not_false_eq_true, and_true]
      rfl
    generalize hz : (if c.state = .exchange then y.leaveExchange c else y) = z at entered
    have reset : (x.resetContext c.address).st.engines = (z.mirror c.kind c.key .offline).st.engines ∧
        (x.resetContext c.address).st.rudders = (z.mirror c.kind c.key .offline).st.rudders ∧
        (x.resetContext c.address).st.tanks = (z.mirror c.kind c.key .offline).st.tanks := by
      rewrite [Txn.resetContext, entered]
      exact ⟨rfl, rfl, rfl⟩
    obtain ⟨engines, rudders, tanks⟩ := reset
    refine ⟨fun kind e he key => ?_, fun kind r hr key => ?_, fun kind inside k hk key => ?_⟩
    · rewrite [engines, kind] at he
      have he : e ∈ update (·.number == c.key) (fun d => Engine.renew { d with state := .offline } [15]) z.st.engines := he
      obtain ⟨d, hd, number, rfl⟩ := mem_update_key (key := Engine.number) he (fun _ => rfl) key
      refine ⟨fun _ => rfl, fun inside => ?_⟩
      rewrite [← hz, if_pos inside, Txn.leaveExchange, kind] at hd
      have hd : d ∈ update (·.number == c.key) (fun e => Engine.renew { e with
        allowed := 0, sent := 0, delivered := none, alarm := false, zeroTime := 0 } [11, 12, 13, 14, 17])
          x.st.engines := hd
      obtain ⟨b, -, -, rfl⟩ := mem_update_key (key := Engine.number) hd (fun _ => rfl) number
      exact ⟨rfl, rfl, rfl, rfl, rfl⟩
    · rewrite [rudders, kind] at hr
      have hr : r ∈ update (·.channel == c.key) (fun d => Rudder.renew { d with state := .offline } [13]) z.st.rudders := hr
      obtain ⟨d, hd, number, rfl⟩ := mem_update_key (key := Rudder.channel) hr (fun _ => rfl) key
      refine ⟨fun _ => rfl, fun inside => ?_⟩
      rewrite [← hz, if_pos inside, Txn.leaveExchange, kind] at hd
      have hd : d ∈ update (·.channel == c.key) (fun r => Rudder.renew { r with
        allowed := 0, sent := 0, feedback := none } [10, 11, 12]) x.st.rudders := hd
      obtain ⟨b, -, -, rfl⟩ := mem_update_key (key := Rudder.channel) hd (fun _ => rfl) number
      exact ⟨rfl, rfl, rfl⟩
    · rewrite [tanks, kind] at hk
      have hk : k ∈ z.st.tanks := hk
      rewrite [← hz, if_pos inside, Txn.leaveExchange, kind] at hk
      have hk : k ∈ update (·.number == c.key) (fun t => Tank.renew { t with gauged := none } [15]) x.st.tanks := hk
      obtain ⟨b, -, -, rfl⟩ := mem_update_key (key := Tank.number) hk (fun _ => rfl) key
      rfl

theorem resetContext_other {c : Context} {a : Nat} (other : c.address ≠ a) (found : x.st.context? c.address = some c) :
    (x.resetContext a).st.context? c.address = some c := by
  rewrite [State.context?, Txn.resetContext_contexts]
  have here : x.st.link.contexts.find? (·.address == c.address) = some c := found
  rewrite [find?_update _ _ _ _ (by intro _; rfl), here]
  simp [other]

theorem forKeys_served {c : Context} : ∀ (addresses : List Nat) {x : Txn}, x.st.context? c.address = some c →
    c.address ∈ addresses → (x.forKeys addresses fun a z => z.resetContext a).st.served c
  | [], _, _, listed => absurd listed (by simp)
  | a :: addresses, x, found, listed => by
    by_cases here : c.address = a
    · subst here
      exact (Txn.resetContext_served found).stands (Txn.forKeys_reset addresses (x.resetContext c.address)).1.stands
    · exact Txn.forKeys_served addresses (Txn.resetContext_other here found)
        ((List.mem_cons.mp listed).resolve_left here)

end Txn

end

/-! RESET LINKS: transfers whose pumps are lost, and the request as a whole. -/

/-! ## Lost pumps over a store without errors (R175) -/

namespace Transfer

/-- R175, R177: the loss of its pump, for a transfer that is not damaged. -/
def lostIfSound (t : Transfer) : Transfer := if t.header.damaged then t else t.pumpLost

theorem pumpLost_header (t : Transfer) : t.pumpLost.header = t.header := by
  unfold Transfer.pumpLost
  split <;> rfl

theorem pumpLost_pumpLost (t : Transfer) : t.pumpLost.pumpLost = t.pumpLost := by
  unfold Transfer.pumpLost
  split
  · cases t.pendingAbort <;> rfl
  · rfl

theorem lostIfSound_header (t : Transfer) : t.lostIfSound.header = t.header := by
  unfold Transfer.lostIfSound
  split
  · rfl
  · exact t.pumpLost_header

theorem lostIfSound_number (t : Transfer) : t.lostIfSound.number = t.number := by
  unfold Transfer.lostIfSound Transfer.pumpLost
  repeat' split
  all_goals rfl

theorem lostIfSound_twice (t : Transfer) : t.lostIfSound.lostIfSound = t.lostIfSound := by
  by_cases damaged : t.header.damaged = true
  · have same : t.lostIfSound = t := if_pos damaged
    rw [same, same]
  · have lost : t.lostIfSound = t.pumpLost := if_neg damaged
    rw [lost, Transfer.lostIfSound, if_neg (by rewrite [t.pumpLost_header]; exact damaged), t.pumpLost_pumpLost]

end Transfer

section
variable {x y : Txn}

namespace Txn

theorem pumpLost_free (free : x.st.errorFree = true) (once : (x.st.transfers.map (·.number)).Nodup) (k : Nat) :
    ∃ n : NoticeUnit, x.pumpLost k = x.on fun s => { s with
      transfers := update (·.number == k) Transfer.lostIfSound s.transfers, notices := n } := by
  have nothing (unsound : x.st.sound .transfers k = false)
      (stands : ∀ t ∈ x.st.transfers, t.number = k → t.lostIfSound = t) : ∃ n : NoticeUnit,
      x.pumpLost k = x.on fun s => { s with
        transfers := update (·.number == k) Transfer.lostIfSound s.transfers, notices := n } := by
    refine ⟨x.st.notices, ?_⟩
    have same : update (·.number == k) Transfer.lostIfSound x.st.transfers = x.st.transfers :=
      update_eq_self (key := Transfer.number) stands
    rewrite [Txn.pumpLost, Txn.read_unsound _ _ _ _ unsound]
    simp only [Txn.on, same]
  cases found : x.st.transfer? k with
  | none =>
    refine nothing (by simp [State.sound, State.header?, found]) fun t ht same => ?_
    exact absurd same (by simpa using List.find?_eq_none.mp found t ht)
  | some t =>
    obtain ⟨number, mem⟩ := find?_key (key := Transfer.number) found
    have only {u : Transfer} (hu : u ∈ x.st.transfers) (same : u.number = k) : u = t :=
      eq_of_nodup_key once hu mem (same.trans number.symm)
    cases damaged : t.header.damaged with
    | true =>
      refine nothing (by simp [State.sound, State.header?, found, damaged]) fun u hu same => ?_
      rewrite [only hu same]
      exact if_pos damaged
    | false =>
      obtain ⟨-, -, -, -, -, transfers⟩ := x.st.errorFree_iff.mp free
      have has : x.HasTransfer t := ⟨by rewrite [number]; exact found, once, Header.bad_eq_nil (transfers t mem) damaged⟩
      have lost : t.lostIfSound = t.pumpLost := if_neg (by simp [damaged])
      rewrite [← number, has.pumpLost free damaged]
      by_cases flight : t.state.inFlight = true
      · have put : update (·.number == t.number) Transfer.lostIfSound x.st.transfers =
            update (·.number == t.pumpLost.number) (fun _ => t.pumpLost) x.st.transfers := by
          have same : t.pumpLost.number = t.number := by rw [← lost, t.lostIfSound_number]
          rewrite [same]
          exact update_congr (key := Transfer.number) fun u hu hk => by rw [only hu (hk.trans number), lost]
        refine ⟨x.st.notices.raise .transfer, ?_⟩
        rewrite [if_pos flight]
        simp only [Txn.on, put]
        rfl
      · have stays : t.pumpLost = t := if_neg flight
        have same : update (·.number == t.number) Transfer.lostIfSound x.st.transfers = x.st.transfers :=
          update_eq_self (key := Transfer.number) fun u hu hk => by rw [only hu (hk.trans number), lost, stays]
        refine ⟨x.st.notices, ?_⟩
        rewrite [if_neg flight]
        simp only [Txn.on, same]

/-! ## Stores that stay without errors -/

theorem errorFree_modEngine (free : x.st.errorFree = true) {k : Nat} {ws : List Nat} {f : Engine → Engine}
    (hf : ∀ e, (f e).header = e.header) : (x.modEngine k ws f).st.errorFree = true := by
  obtain ⟨h1, h2, h3, h4⟩ := x.st.errorFree_iff.mp free
  refine (State.errorFree_iff _).mpr ⟨h1, h2, ?_, h4⟩
  exact forall_mem_update (p := fun e : Engine => e.header.errorFree = true)
    (fun e _ _ he => errorFree_of_renewed (by rewrite [hf]; exact he)) h3

theorem errorFree_modRudder (free : x.st.errorFree = true) {k : Nat} {ws : List Nat} {f : Rudder → Rudder}
    (hf : ∀ r, (f r).header = r.header) : (x.modRudder k ws f).st.errorFree = true := by
  obtain ⟨h1, h2, h3, h4, h5⟩ := x.st.errorFree_iff.mp free
  refine (State.errorFree_iff _).mpr ⟨h1, h2, h3, ?_, h5⟩
  exact forall_mem_update (p := fun r : Rudder => r.header.errorFree = true)
    (fun r _ _ he => errorFree_of_renewed (by rewrite [hf]; exact he)) h4

theorem errorFree_modTank (free : x.st.errorFree = true) {k : Nat} {ws : List Nat} {f : Tank → Tank}
    (hf : ∀ t, (f t).header = t.header) : (x.modTank k ws f).st.errorFree = true := by
  obtain ⟨h1, h2, h3, h4, h5, h6⟩ := x.st.errorFree_iff.mp free
  refine (State.errorFree_iff _).mpr ⟨h1, h2, h3, h4, ?_, h6⟩
  exact forall_mem_update (p := fun t : Tank => t.header.errorFree = true)
    (fun t _ _ he => errorFree_of_renewed (by rewrite [hf]; exact he)) h5

theorem errorFree_transfers (free : x.st.errorFree = true) (k : Nat) (n : NoticeUnit) :
    (x.on fun s => { s with
      transfers := update (·.number == k) Transfer.lostIfSound s.transfers, notices := n }).st.errorFree = true := by
  obtain ⟨h1, h2, h3, h4, h5, h6⟩ := x.st.errorFree_iff.mp free
  refine (State.errorFree_iff _).mpr ⟨h1, h2, h3, h4, h5, ?_⟩
  exact forall_mem_update (p := fun t : Transfer => t.header.errorFree = true)
    (fun t _ _ he => by rewrite [t.lostIfSound_header]; exact he) h6

/-- R109, R175: leaving EXCHANGE loses the pump of a transfer alone, and brings no error. -/
theorem leaveExchange_free (free : x.st.errorFree = true) (once : (x.st.transfers.map (·.number)).Nodup)
    (c : Context) : (x.leaveExchange c).st.errorFree = true ∧ (x.leaveExchange c).st.transfers =
      if c.kind = .pump then update (·.number == c.key) Transfer.lostIfSound x.st.transfers else x.st.transfers := by
  unfold Txn.leaveExchange
  split <;> rename_i kind <;> simp only [kind, reduceCtorEq, if_false, if_true]
  · exact ⟨Txn.errorFree_modEngine free fun _ => rfl, rfl⟩
  · exact ⟨Txn.errorFree_modRudder free fun _ => rfl, rfl⟩
  · exact ⟨free, rfl⟩
  · let y := (x.modContext c.address fun c => { c with baseline := none, lastTemperature := none }).withdraw c.address
    obtain ⟨n, lost⟩ := Txn.pumpLost_free (x := y) free once c.key
    have e : ((x.modContext c.address fun c => { c with baseline := none, lastTemperature := none }).withdraw
        c.address).pumpLost c.key = y.on fun s => { s with
          transfers := update (·.number == c.key) Transfer.lostIfSound s.transfers, notices := n } := lost
    rewrite [e]
    exact ⟨Txn.errorFree_transfers (x := y) free c.key n, rfl⟩
  · exact ⟨Txn.errorFree_modTank free fun _ => rfl, rfl⟩

theorem mirror_free (free : x.st.errorFree = true) (kind : StationKind) (k : Nat) (state : ContextState) :
    (x.mirror kind k state).st.errorFree = true ∧ (x.mirror kind k state).st.transfers = x.st.transfers := by
  cases kind
  · exact ⟨Txn.errorFree_modEngine free fun _ => rfl, rfl⟩
  · exact ⟨Txn.errorFree_modRudder free fun _ => rfl, rfl⟩
  all_goals exact ⟨free, rfl⟩

/-- R110: the reset of a context over a store without errors. -/
theorem resetContext_free (free : x.st.errorFree = true) (once : (x.st.transfers.map (·.number)).Nodup) (a : Nat) :
    (x.resetContext a).st.errorFree = true ∧ (x.resetContext a).st.transfers = match x.st.context? a with
      | none => x.st.transfers
      | some c => if c.state = .exchange ∧ c.kind = .pump then
          update (·.number == c.key) Transfer.lostIfSound x.st.transfers else x.st.transfers := by
  have entered : (x.enterContext a .offline).st.errorFree = true ∧
      (x.enterContext a .offline).st.transfers = match x.st.context? a with
        | none => x.st.transfers
        | some c => if c.state = .exchange ∧ c.kind = .pump then
            update (·.number == c.key) Transfer.lostIfSound x.st.transfers else x.st.transfers := by
    unfold Txn.enterContext
    cases x.st.context? a with
    | none => exact ⟨free, rfl⟩
    | some c =>
      let y := x.modContext a fun c => { c with state := .offline }
      obtain ⟨left, transfers⟩ := Txn.leaveExchange_free (x := y) free once c
      dsimp only
      by_cases inside : c.state = .exchange
      · have moves : ¬c.state = .offline := by rewrite [inside]; decide
        have leaves : c.state = .exchange ∧ ContextState.offline ≠ .exchange := ⟨inside, by decide⟩
        rewrite [if_neg moves, if_pos leaves]
        obtain ⟨kept, same⟩ := Txn.mirror_free left c.kind c.key .offline
        refine ⟨kept, (same.trans transfers).trans ?_⟩
        simp only [inside, true_and]
        rfl
      · have stays : ¬(c.state = .exchange ∧ ContextState.offline ≠ .exchange) := fun both => inside both.1
        have none : ¬(c.state = .exchange ∧ c.kind = .pump) := fun both => inside both.1
        rewrite [if_neg stays, if_neg none]
        split
        · exact ⟨free, rfl⟩
        · exact Txn.mirror_free (x := y) free c.kind c.key .offline
  exact entered

end Txn

namespace Transfer

/-- R175: a transfer before and after pumps were lost. -/
def LostTo (t u : Transfer) : Prop := u = t ∨ u = t.lostIfSound

namespace LostTo

theorem trans {t u v : Transfer} (h : t.LostTo u) (k : u.LostTo v) : t.LostTo v := by
  rcases h with rfl | rfl
  · exact k
  · rcases k with rfl | rfl
    · exact .inr rfl
    · exact .inr t.lostIfSound_twice

theorem number {t u : Transfer} (h : t.LostTo u) : u.number = t.number := by
  rcases h with rfl | rfl
  · rfl
  · exact t.lostIfSound_number

theorem settled {t u : Transfer} (h : t.LostTo u) (settled : t.lostIfSound = t) :
    u.lostIfSound = u := by
  rcases h with rfl | rfl
  · exact settled
  · exact t.lostIfSound_twice

end LostTo

end Transfer

theorem lostTo_update (k : Nat) (l : List Transfer) :
    List.Forall₂ Transfer.LostTo l (update (·.number == k) Transfer.lostIfSound l) :=
  forall₂_update (fun _ => .inl rfl) _ _ _ fun _ _ _ => .inr rfl

theorem Txn.resetContext_lostTo (free : x.st.errorFree = true) (once : (x.st.transfers.map (·.number)).Nodup) (a : Nat) :
    List.Forall₂ Transfer.LostTo x.st.transfers (x.resetContext a).st.transfers := by
  rewrite [(Txn.resetContext_free free once a).2]
  have same : List.Forall₂ Transfer.LostTo x.st.transfers x.st.transfers :=
    List.forall₂_same.mpr fun _ _ => .inl rfl
  split
  · exact same
  · split
    · exact lostTo_update _ _
    · exact same

/-- R175: the transfer that the context's pump serves has lost it. -/
def State.pumpSettled (t : State) (c : Context) : Prop := ∀ u ∈ t.transfers, u.number = c.key → u.lostIfSound = u

theorem pumpSettled_lostTo {s t : State} {c : Context} (h : s.pumpSettled c)
    (lost : List.Forall₂ Transfer.LostTo s.transfers t.transfers) : t.pumpSettled c := by
  intro u hu key
  obtain ⟨v, hv, rel⟩ := exists_of_mem_forall₂ lost hu
  exact rel.settled (h v hv (rel.number.symm.trans key))

theorem Txn.forKeys_reset_free : ∀ (addresses : List Nat) {x : Txn}, x.st.errorFree = true →
    (x.st.transfers.map (·.number)).Nodup →
    (x.forKeys addresses fun a z => z.resetContext a).st.errorFree = true ∧
    List.Forall₂ Transfer.LostTo x.st.transfers (x.forKeys addresses fun a z => z.resetContext a).st.transfers ∧
    ∀ c : Context, x.st.context? c.address = some c → c.address ∈ addresses → c.state = .exchange → c.kind = .pump →
      (x.forKeys addresses fun a z => z.resetContext a).st.pumpSettled c
  | [], x, free, _ => ⟨free, List.forall₂_same.mpr fun _ _ => .inl rfl, fun _ _ listed => absurd listed (by simp)⟩
  | a :: addresses, x, free, once => by
    obtain ⟨clean, transfers⟩ := Txn.resetContext_free free once a
    have first := Txn.resetContext_lostTo free once a
    have unique : ((x.resetContext a).st.transfers.map (·.number)).Nodup := by
      rewrite [map_eq_of_forall₂ first fun _ _ h => h.number]
      exact once
    obtain ⟨rest, lost, pumps⟩ := Txn.forKeys_reset_free addresses clean unique
    refine ⟨rest, forall₂_comp (R := Transfer.LostTo) (S := Transfer.LostTo) (fun _ _ _ => Transfer.LostTo.trans)
      first lost, fun c found listed inside pump => ?_⟩
    by_cases here : c.address = a
    · subst here
      refine pumpSettled_lostTo ?_ lost
      intro u hu key
      rewrite [transfers, found] at hu
      simp only [inside, pump, true_and, if_true] at hu
      obtain ⟨v, -, -, rfl⟩ := mem_update_key (key := Transfer.number) hu Transfer.lostIfSound_number key
      exact v.lostIfSound_twice
    · exact pumps c (Txn.resetContext_other here found) ((List.mem_cons.mp listed).resolve_left here) inside pump

end

/-! ## RESET LINKS (R70, R110) -/

section
variable {s : State} {q : Request} {qs : List Request}

namespace State

/-- R70: the drops of every node listed. -/
def unlisted (s : State) : Txn := s.opened.forKeys (s.tow.nodes.map (·.address)) fun a y => y.dropNode a

/-- R110: the resets of every context, at an empty node list. -/
def relinked (s : State) : Txn :=
  (s.unlisted.modTow fun t => { t with
    nodes := [], sweep := none, pointer := 1, round := 0, visitLast := false
    discard := t.discard || t.phase.exchanging }).forKeys (s.unlisted.st.link.contexts.map (·.address))
      fun a z => z.resetContext a

theorem resetLinksWork_opened (s : State) : s.opened.resetLinksWork = s.relinked.on State.dropResults := rfl

end State

theorem exec_resetLinks (hs : s.serves q qs) (hq : q.carries 0x40 0 []) :
    exec .resetLinks s = .next (settle { (s.relinked.on State.dropResults).commit (s.take .console) with
      console := { ((s.relinked.on State.dropResults).commit (s.take .console)).console with
        requests := qs
        responses := ((s.relinked.on State.dropResults).commit (s.take .console)).console.responses ++
          [{ tag := q.tag, code := q.code, result := .done, items := [] }] } }) := by
  refine exec_answer (c := .resetLinks) rfl rfl hs hq.1 ?_
  rw [requestResetLinks, if_pos (Request.bare_of_carries hq), s.resetLinksWork_opened]

namespace State

theorem unlisted_unlists (s : State) : s.opened.Unlists (s.tow.nodes.map (·.address)) s.unlisted :=
  Txn.forKeys_dropNode_unlists _ _

theorem unlisted_contexts (s : State) : s.unlisted.st.link.contexts = s.link.contexts :=
  congrArg (·.contexts) s.unlisted_unlists.link

/-- R110: what RESET LINKS leaves standing, and the contexts it leaves. -/
theorem relinked_spec (s : State) : s.Stands s.relinked.st ∧
    s.relinked.st.tow.nodes = [] ∧ s.relinked.st.tow.sweep = none ∧ s.relinked.st.tow.pointer = 1 ∧
    s.relinked.st.tow.round = 0 ∧ s.relinked.st.notices.node = s.unlisted.st.notices.node ∧
    s.relinked.st.link.contexts = s.link.contexts.map Context.reset := by
  obtain ⟨links, contexts⟩ := Txn.forKeys_reset (s.unlisted.st.link.contexts.map (·.address))
    (s.unlisted.modTow fun t => { t with
      nodes := [], sweep := none, pointer := 1, round := 0, visitLast := false
      discard := t.discard || t.phase.exchanging })
  have first : s.Stands s.unlisted.st := { s.unlisted_unlists.stands with }
  have start : s.unlisted.st.Stands (s.unlisted.modTow fun t => { t with
      nodes := [], sweep := none, pointer := 1, round := 0, visitLast := false
      discard := t.discard || t.phase.exchanging }).st := { State.Stands.refl _ with }
  refine ⟨(first.trans start).trans links.stands, ?_, ?_, ?_, ?_, links.node, contexts.trans ?_⟩
  · exact congrArg (·.nodes) links.tow
  · exact congrArg (·.sweep) links.tow
  · exact congrArg (·.pointer) links.tow
  · exact congrArg (·.round) links.tow
  · have listed : (s.unlisted.modTow fun t => { t with
      nodes := [], sweep := none, pointer := 1, round := 0, visitLast := false
      discard := t.discard || t.phase.exchanging }).st.link.contexts = s.link.contexts := s.unlisted_contexts
    rewrite [listed, s.unlisted_contexts]
    exact List.map_congr_left fun c hc => if_pos (List.mem_map_of_mem hc)

theorem relinked_served (s : State) (once : (s.link.contexts.map (·.address)).Nodup) {c : Context}
    (hc : c ∈ s.link.contexts) : s.relinked.st.served c := by
  refine Txn.forKeys_served _ ?_ (by rewrite [s.unlisted_contexts]; exact List.mem_map_of_mem hc)
  show s.unlisted.st.link.contexts.find? (·.address == c.address) = some c
  rewrite [s.unlisted_contexts]
  exact find?_eq_some_of_nodup (key := Context.address) once hc

theorem relinked_bow (s : State) {h : Nat} (bow : s.bowBarge? = some h)
    (bound : (s.nodeOf (.barge h)).isSome = true) : ∀ e ∈ s.relinked.st.engines, e.number = 5 → e.state = .offline := by
  have off := s.unlisted_unlists.bow ((State.any_atBow (s := s.opened.st) bow).trans bound)
  have links := (Txn.forKeys_reset (s.unlisted.st.link.contexts.map (·.address))
    (s.unlisted.modTow fun t => { t with
      nodes := [], sweep := none, pointer := 1, round := 0, visitLast := false
      discard := t.discard || t.phase.exchanging })).1
  exact offline_of_calms links.stands.engines off

/-- R68, R110: RESET LINKS over a store without errors. -/
theorem relinked_free (free : s.errorFree = true) (law : s.recordLaw = true) :
    s.relinked.st.errorFree = true ∧ s.relinked.commands = [] ∧ s.relinked.st.lockage = s.lockage ∧
    s.opened.Drops (s.tow.nodes.map (·.address)) s.unlisted ∧ s.relinked.st.couplings = s.unlisted.st.couplings ∧
    List.Forall₂ Transfer.LostTo s.transfers s.relinked.st.transfers ∧
    ∀ c : Context, s.context? c.address = some c → c ∈ s.link.contexts → c.state = .exchange → c.kind = .pump →
      s.relinked.st.pumpSettled c := by
  obtain ⟨-, couplings, -, -, -, transfers, -⟩ := s.recordLaw_iff.mp law
  have drops := Txn.forKeys_dropNode (s.tow.nodes.map (·.address)) (x := s.opened) free couplings
  have drops : s.opened.Drops (s.tow.nodes.map (·.address)) s.unlisted := drops
  obtain ⟨_, _, _, state⟩ := drops.same
  have same : s.unlisted.st.transfers = s.transfers := by rewrite [state]; rfl
  let y : Txn := s.unlisted.modTow fun t => { t with
      nodes := [], sweep := none, pointer := 1, round := 0, visitLast := false
      discard := t.discard || t.phase.exchanging }
  have unique : (y.st.transfers.map (·.number)).Nodup := by
    show (s.unlisted.st.transfers.map (·.number)).Nodup
    rewrite [same]
    exact transfers
  obtain ⟨links, -⟩ := Txn.forKeys_reset (s.unlisted.st.link.contexts.map (·.address)) y
  obtain ⟨clean, lost, pumps⟩ := Txn.forKeys_reset_free (s.unlisted.st.link.contexts.map (·.address)) (x := y)
    (drops.errorFree free) unique
  refine ⟨clean, links.commands.trans drops.commands, links.lockage.trans ?_, drops, links.couplings, ?_,
    fun c found listed inside pump => pumps c ?_ ?_ inside pump⟩
  · show s.unlisted.st.lockage = s.lockage
    rewrite [state]
    rfl
  · rewrite [← same]
    exact lost
  · show s.unlisted.st.link.contexts.find? (·.address == c.address) = some c
    rewrite [s.unlisted_contexts]
    exact found
  · rewrite [s.unlisted_contexts]
    exact List.mem_map_of_mem listed

end State

end

/-! RESET LINKS: the state in which it ends. -/

section
variable {s : State}

namespace State

/-- R70: the end of RESET LINKS as its transaction leaves it. -/
def relinkedEnd (s : State) : State := (s.relinked.on State.dropResults).commit (s.take .console)

theorem relinkedEnd_quiet (s : State) : (s.relinked.on State.dropResults).st.Quiet s.relinkedEnd :=
  State.Quiet.commit (by exact s.relinked_spec.2.1) _

theorem relinkedEnd_stands (s : State) : s.Stands s.relinkedEnd := by
  have results : s.relinked.st.Stands (s.relinked.on State.dropResults).st := { State.Stands.refl _ with }
  exact (s.relinked_spec.1.trans results).trans s.relinkedEnd_quiet.stands

/-- R70, R183: the end over a store without errors. -/
theorem relinkedEnd_free (free : s.errorFree = true) (law : s.recordLaw = true)
    (goes : s.lockage.phase = .remaking → s.crossingRemaining ≠ 0) :
    ∃ (l : Lockage) (n : Nat), s.relinkedEnd = { (s.relinked.on State.dropResults).st with
      lockage := l, notices := s.relinked.st.notices.raised .lockage n } ∧ l.breaks = s.lockage.breaks := by
  obtain ⟨clean, commands, lockage, drops, couplings, -, -⟩ := State.relinked_free free law
  have stands := s.relinked_spec.1
  have remaining : s.relinked.st.crossingRemaining = s.unlisted.st.crossingRemaining := by
    have barges : s.relinked.st.barges = s.unlisted.st.barges := stands.barges.trans drops.barges.symm
    have strings : s.relinked.st.strings = s.unlisted.st.strings :=
      stands.strings.trans s.unlisted_unlists.stands.strings.symm
    have phase : s.relinked.st.lockage = s.unlisted.st.lockage := by
      obtain ⟨_, _, _, state⟩ := drops.same
      rewrite [lockage, state]
      rfl
    have place : s.relinked.st.place? = s.unlisted.st.place? := by
      funext h
      rw [State.place?, State.place?, barges]
    have entry : s.relinked.st.entry = s.unlisted.st.entry := by
      funext k
      rw [State.entry, State.entry, strings]
    have string : s.relinked.st.stringAt = s.unlisted.st.stringAt := by
      funext p
      rw [State.stringAt, State.stringAt, strings]
    have rankAt : s.relinked.st.rankAt = s.unlisted.st.rankAt := by
      funext p
      rw [State.rankAt, State.rankAt, entry, string]
    have rank : s.relinked.st.rank? = s.unlisted.st.rank? := by
      funext h
      rw [State.rank?, State.rank?, place, rankAt]
    have ends : s.relinked.st.endsCross = s.unlisted.st.endsCross := by
      funext a b
      simp only [State.endsCross, State.cut?, rank, phase]
    simp only [State.crossingRemaining, State.crossing, couplings, phase, ends]
  have start : s.opened.st.lockage.phase = .remaking → s.opened.st.crossingRemaining ≠ 0 := goes
  have still : (s.relinked.on State.dropResults).st.lockage.phase = .remaking →
      (s.relinked.on State.dropResults).st.crossingRemaining ≠ 0 := by
    intro phase
    show s.relinked.st.crossingRemaining ≠ 0
    rewrite [remaining]
    refine drops.remaining start ?_
    have before : s.relinked.st.lockage.phase = .remaking := phase
    obtain ⟨_, _, _, state⟩ := drops.same
    rewrite [state]
    rwa [lockage] at before
  obtain ⟨l, n, made, breaks⟩ := Txn.commit_emptied (x := s.relinked.on State.dropResults) (s.take .console) clean
    s.relinked_spec.2.1 commands still
  exact ⟨l, n, made, breaks.trans (congrArg Lockage.breaks lockage)⟩

theorem relinkedEnd_engines {c : Context} (once : (s.link.contexts.map (·.address)).Nodup)
    (hc : c ∈ s.link.contexts) : s.relinkedEnd.served c := by
  have results : s.relinked.st.Stands (s.relinked.on State.dropResults).st := { State.Stands.refl _ with }
  exact (s.relinked_served once hc).stands (results.trans s.relinkedEnd_quiet.stands)

/-- R175: a transfer in flight whose pump's context is reset. -/
theorem relinkedEnd_pump (free : s.errorFree = true) (law : s.recordLaw = true)
    (once : (s.link.contexts.map (·.address)).Nodup) {c : Context} (hc : c ∈ s.link.contexts)
    (inside : c.state = .exchange) (pump : c.kind = .pump) {tr : Transfer} (found : s.transfer? c.key = some tr)
    (undamaged : tr.header.damaged = false) (flight : tr.state.inFlight = true) :
    ∃ u, s.relinked.st.transfer? c.key = some u ∧ u.pumpRun = false ∧
      u.state = if tr.pendingAbort then .ended .aborted else .held .pumpLost := by
  obtain ⟨-, -, -, -, -, lost, pumps⟩ := State.relinked_free free law
  obtain ⟨-, -, -, -, -, unique, -⟩ := s.recordLaw_iff.mp law
  obtain ⟨number, mem⟩ := find?_key (key := Transfer.number) found
  have settled := pumps c (find?_eq_some_of_nodup (key := Context.address) once hc) hc inside pump
  have numbers : s.relinked.st.transfers.map (·.number) = s.transfers.map (·.number) :=
    map_eq_of_forall₂ lost fun _ _ h => h.number
  obtain ⟨u, hu, key⟩ : ∃ u ∈ s.relinked.st.transfers, u.number = c.key := by
    have listed : c.key ∈ s.relinked.st.transfers.map (·.number) := by
      rewrite [numbers, ← number]
      exact List.mem_map_of_mem mem
    exact List.mem_map.mp listed
  obtain ⟨v, hv, rel⟩ := exists_of_mem_forall₂ lost hu
  obtain rfl : v = tr := eq_of_nodup_key unique hv mem (rel.number.symm.trans (key.trans number.symm))
  have made : u = v.pumpLost := by
    have sound : v.lostIfSound = v.pumpLost := if_neg (by simp [undamaged])
    rcases rel with rfl | rfl
    · exact ((settled u hu key).symm).trans sound
    · exact sound
  refine ⟨u, ?_, ?_, ?_⟩
  · rewrite [← key]
    exact find?_eq_some_of_nodup (key := Transfer.number) (by rewrite [numbers]; exact unique) hu
  · rw [made, Transfer.pumpLost, if_pos flight]
  · rw [made, Transfer.pumpLost, if_pos flight]

end State

/-- R183, R186: the completion test writes no transfer. -/
theorem Txn.lockageTest_transfers {x : Txn} (free : x.st.errorFree = true) (announce : Bool) :
    (x.lockageTest announce).st.transfers = x.st.transfers := by
  have raised (y : Txn) (b : Bool) (c : Cause) : (y.raiseIf b c).st.transfers = y.st.transfers := by cases b <;> rfl
  have whole (y : Txn) : y.returnWhole.st.transfers = y.st.transfers :=
    Txn.forKeys_keeps (fun z => z.st.transfers = y.st.transfers) _ _ _ rfl fun _ _ _ hz => hz
  have complete (y : Txn) : (y.complete announce).st.transfers = y.st.transfers := by
    unfold Txn.complete
    dsimp only
    split
    · rfl
    · rfl
    · split
      · exact raised _ _ _
      · rfl
    · split
      · exact (raised _ _ _).trans (whole _)
      · rfl
  have boat (y : Txn) : y.evaluateBoatCut.st.transfers = y.st.transfers := by
    unfold Txn.evaluateBoatCut
    split
    · rfl
    · exact raised _ _ _
  unfold Txn.lockageTest
  split
  · rfl
  · rw [Txn.readAll_errorFree x free, boat, complete]

namespace State

theorem relinkedEnd_transfers (free : s.errorFree = true) (law : s.recordLaw = true) :
    s.relinkedEnd.transfers = s.relinked.st.transfers := by
  obtain ⟨clean, -⟩ := State.relinked_free free law
  let x := s.relinked.on State.dropResults
  have tested : (if x.touched then x.lockageTest true else x).st.transfers = s.relinked.st.transfers := by
    split
    · exact Txn.lockageTest_transfers (x := x) clean true
    · rfl
  obtain ⟨e, t, u, n, settled⟩ := (if x.touched then x.lockageTest true else x).settleBindings_spec (s.take .console)
  obtain ⟨tow, placed⟩ := State.placeCommands_spec
    ((if x.touched then x.lockageTest true else x).settleBindings (s.take .console)).commands
    ((if x.touched then x.lockageTest true else x).settleBindings (s.take .console)).st
  refine (congrArg State.transfers placed).trans ?_
  rewrite [settled]
  exact tested

/-- R23: the state in which RESET LINKS ends, before the blocks go on. -/
def resetEnd (s : State) (q : Request) (qs : List Request) : State := { s.relinkedEnd with
  console := { s.relinkedEnd.console with
    requests := qs
    responses := s.relinkedEnd.console.responses ++
      [{ tag := q.tag, code := q.code, result := .done, items := [] }] } }

end State

theorem exec_resetLinks_end {q : Request} {qs : List Request} (hs : s.serves q qs) (hq : q.carries 0x40 0 []) :
    exec .resetLinks s = .next (settle (s.resetEnd q qs)) := exec_resetLinks hs hq

namespace State

theorem relinkedEnd_contexts (s : State) : s.relinkedEnd.link.contexts = s.link.contexts.map Context.reset := by
  rewrite [s.relinkedEnd_quiet.link]
  exact s.relinked_spec.2.2.2.2.2.2

theorem relinkedEnd_node (s : State) : s.relinkedEnd.notices.node = s.unlisted.st.notices.node :=
  s.relinkedEnd_quiet.node.trans s.relinked_spec.2.2.2.2.2.1

/-- R70: the lines, the readings and the notices at the end. -/
theorem relinkedEnd_lines (s : State) : s.relinkedEnd.tow.nodes = [] ∧ s.relinkedEnd.tow.sweep = none ∧
    s.relinkedEnd.tow.pointer = 1 ∧ s.relinkedEnd.tow.round = 0 ∧ s.relinkedEnd.link.results = [] ∧
    s.relinkedEnd.readings = [] ∧
    s.relinkedEnd.notices.node.count % 256 = (s.notices.node.count + s.tow.nodes.length) % 256 ∧
    (s.tow.nodes ≠ [] → s.relinkedEnd.notices.node.pending = true) := by
  obtain ⟨-, nodes, sweep, pointer, round, -, -⟩ := s.relinked_spec
  have quiet := s.relinkedEnd_quiet
  rewrite [quiet.tow, quiet.link, quiet.readings, s.relinkedEnd_node]
  refine ⟨nodes, sweep, pointer, round, rfl, rfl, ?_, fun some => s.unlisted_unlists.pending (.inr ?_)⟩
  · simpa using s.unlisted_unlists.count
  · simpa using some

/-- R89: the couplings that listed nodes served. -/
theorem relinkedEnd_couplings (free : s.errorFree = true) (law : s.recordLaw = true)
    (goes : s.lockage.phase = .remaking → s.crossingRemaining ≠ 0) :
    s.relinkedEnd.lockage.breaks = s.lockage.breaks ∧
    s.relinkedEnd.couplings = s.couplings.map fun c =>
      match c.tending with
      | .hand => c
      | .winch m _ => if (s.nodeOf m).isSome then c.nodeLost else c := by
  obtain ⟨l, n, made, breaks⟩ := State.relinkedEnd_free free law goes
  obtain ⟨-, -, -, drops, couplings, -, -⟩ := State.relinked_free free law
  refine ⟨(congrArg (fun t : State => t.lockage.breaks) made).trans breaks, ?_⟩
  refine (congrArg State.couplings made).trans ((couplings.trans drops.couplings).trans ?_)
  refine List.map_congr_left fun c _ => ?_
  have served : (s.tow.nodes.map (·.address)).any (s.opened.st.loses · c) = match c.tending with
    | .hand => false
    | .winch m _ => (s.nodeOf m).isSome := s.opened.st.any_loses c
  rewrite [served]
  cases c.tending with
  | hand => rfl
  | winch m k => rfl

end State

end

/-- Settles O29: the drops of the nodes, the resets of the contexts, and the completion test. -/
theorem resetLinksStartsTheLinksAfresh : Obligations.ResetLinksStartsTheLinksAfresh := by
  intro s q qs hs hq
  have stands := s.relinkedEnd_stands
  have contexts : (settle (s.resetEnd q qs)).link.contexts = s.link.contexts.map Context.reset :=
    (settle_link_contexts _).trans s.relinkedEnd_contexts
  obtain ⟨nodes, sweep, pointer, round, results, readings, count, pending⟩ := s.relinkedEnd_lines
  have notices : (settle (s.resetEnd q qs)).notices = s.relinkedEnd.notices := settle_notices _
  refine ⟨_, exec_resetLinks_end hs hq, (settle_tow_nodes _).trans nodes, (settle_tow_sweep _).trans sweep,
    (settle_tow_pointer _).trans pointer, (settle_tow_round _).trans round, ?_, ?_,
    (settle_link_results _).trans results, (settle_readings _).trans readings, (settle_link_timer _).trans stands.timer,
    (settle_barges _).trans stands.barges, (settle_strings _).trans stands.strings,
    (settle_policy _).trans stands.policy, settle_console_requests _, ?_, ?_, ?_, ?_, ?_, ?_, ?_⟩
  · rewrite [contexts]
    intro c hc
    obtain ⟨d, -, rfl⟩ := List.mem_map.mp hc
    exact ⟨rfl, rfl, rfl⟩
  · rewrite [contexts, List.map_map]
    rfl
  · rewrite [settle_console_responses]
    exact congrArg (fun c : ConsolePort => c.responses ++ _) stands.console
  · rewrite [notices]
    exact stands.station
  · rewrite [notices]
    exact count
  · rewrite [notices]
    exact pending
  · intro free law goes
    rewrite [settle_lockage, settle_couplings]
    exact State.relinkedEnd_couplings free law goes
  · intro h bow bound
    rewrite [settle_engines]
    exact offline_of_calms s.relinkedEnd_quiet.stands.engines (s.relinked_bow bow bound)
  · intro once c hc
    obtain ⟨engine, rudder, gauge⟩ := State.relinkedEnd_engines once hc
    refine ⟨?_, ?_, ?_, fun pump inside free law tr found undamaged flight => ?_⟩
    · rewrite [settle_engines]
      exact engine
    · rewrite [settle_rudders]
      exact rudder
    · rewrite [settle_tanks]
      exact gauge
    · have same : (settle (s.resetEnd q qs)).transfer? c.key = s.relinked.st.transfer? c.key := by
        rewrite [State.transfer?, State.transfer?, settle_transfers]
        exact congrArg (fun l : List Transfer => l.find? (·.number == c.key)) (State.relinkedEnd_transfers free law)
      rewrite [same]
      exact State.relinkedEnd_pump free law once hc inside pump found undamaged flight

/-! The Patrol's round and its visits (R15, R16): which record it visits, what the reads of a visit count, and what a
visit of a record with an uncorrectable word leaves. -/

/-! ## The round -/

/-- A stop as table, place and key. -/
def Stop.triple (p : Stop) : Tbl × Nat × Nat := (p.table, p.place, p.key)

theorem roundIndex_eq (t : Tbl) : roundIndex t = turnOf t := by cases t <;> rfl

/-- R16: the stops of one table's undamaged records. -/
theorem stops_triple {α : Type} (l : List α) (stop : α → Stop) (header : α → Header) :
    (l.filterMap fun p => if (header p).damaged then none else some (stop p)).map Stop.triple =
      ((l.map fun p => ((stop p).triple, header p)).filter fun p => !p.2.damaged).map (·.1) := by
  induction l with
  | nil => rfl
  | cons a l ih =>
    cases h : (header a).damaged <;> simp [h, ih]

theorem State.round_triple (s : State) : s.round.map Stop.triple = s.soundRound := by
  rewrite [State.round, State.soundRound]
  simp only [List.map_append, List.filter_append]
  have barges := stops_triple s.barges.zipIdx (fun p => ⟨.barges, p.2 + 1, p.1.hull⟩) (·.1.header)
  have others (t : Tbl) (l : List (Nat × Header)) := stops_triple l (fun p => ⟨t, p.1, p.1⟩) (·.2)
  rewrite [barges, others, others, others, others, others]
  simp only [List.map_map]
  rfl

theorem Stop.after_eq (p : Stop) (position : Option (Tbl × Nat)) : p.after position = (match position with
    | none => true
    | some (t, place) => decide (turnOf t < turnOf p.triple.1 ∨ t = p.triple.1 ∧ place < p.triple.2.1)) := by
  cases position with
  | none => rfl
  | some here =>
    by_cases same : here.1 = p.table <;> by_cases before : turnOf here.1 < turnOf p.table <;>
      simp [Stop.after, roundIndex_eq, Stop.triple, same, before]

/-- R16: the next stop is the first behind the position, or the first of the round. -/
theorem State.nextStop_triple (s : State) : s.nextStop.map Stop.triple = (s.soundBehind ++ s.soundRound).head? := by
  have behind : (s.round.find? (·.after s.patrol.position)).map Stop.triple = s.soundBehind.head? := by
    rewrite [State.soundBehind, ← State.round_triple, List.head?_filter, List.find?_map]
    refine congrArg (fun p => (s.round.find? p).map Stop.triple) (funext fun p => ?_)
    exact p.after_eq _
  rewrite [State.nextStop, List.head?_append, ← behind]
  cases s.round.find? (·.after s.patrol.position) with
  | some p => rfl
  | none =>
    rewrite [← State.round_triple, List.head?_map]
    rfl

/-! ## The reads of a visit -/

namespace TowStatus

/-- R11: `n` corrected reads counted. -/
def counting (u : TowStatus) (n : Nat) : TowStatus :=
  { u with corrected := if n = 0 then u.corrected else min 65535 (u.corrected + n) }

theorem counting_succ (u : TowStatus) (n : Nat) :
    ({ u with corrected := saturate u.corrected 1 } : TowStatus).counting n = u.counting (n + 1) := by
  have sum : min 65535 (saturate u.corrected 1 + n) = min 65535 (u.corrected + (n + 1)) := by
    rewrite [saturate, Config.countMax, ← Nat.add_assoc, Nat.add_right_comm]
    obtain h | h := Nat.le_total 65535 (u.corrected + 1)
    · rewrite [Nat.min_eq_left h, Nat.min_eq_left (Nat.le_add_right _ n)]
      exact (Nat.min_eq_left (h.trans (Nat.le_add_right _ n))).symm
    · rw [Nat.min_eq_right h, Nat.add_right_comm]
  cases n with
  | zero => rfl
  | succ n =>
    simp only [TowStatus.counting, Nat.add_one_ne_zero, if_false, sum]

end TowStatus

namespace Txn

/-- R11: words that each hold one bad bit are delivered, and each is counted. -/
theorem scan_corrected (h : Header) : ∀ (ws : List Nat) (x : Txn), (∀ w ∈ ws, h.check w = .corrected) →
    x.scan h ws = (x.modStatus (·.counting ws.length), true)
  | [], _, _ => rfl
  | w :: ws, x, single => by
    rewrite [Txn.scan, single w (by simp)]
    refine (Txn.scan_corrected h ws x.countCorrected fun v hv => single v (by simp [hv])).trans ?_
    exact congrArg (fun u => ({ x with st := { x.st with status := u } }, true)) (TowStatus.counting_succ _ _)

/-- R12: among words that need no correction, the first with two bad bits ends the reading. -/
theorem scan_failing (h : Header) (x : Txn) : ∀ ws : List Nat, (∀ w ∈ ws, h.check w ≠ .corrected) →
    (∃ w ∈ ws, h.check w = .failed) → x.scan h ws = (x, false)
  | [], _, ⟨_, mem, _⟩ => nomatch mem
  | w :: ws, single, ⟨v, mem, fails⟩ => by
    rewrite [Txn.scan]
    cases check : h.check w with
    | corrected => exact absurd check (single w (by simp))
    | failed => rfl
    | clean =>
      have other : v ≠ w := fun same => by simp [same ▸ fails] at check
      exact Txn.scan_failing h x ws (fun u hu => single u (by simp [hu])) ⟨v, by simpa [other] using mem, fails⟩

end Txn

section
variable {x y : Txn} {t : Tbl} {key : Nat} {h : Header} {ws : List Nat}

namespace Txn

theorem read_of_scan (found : x.st.header? t key = some h) (undamaged : h.damaged = false)
    (scan : x.scan h ws = (y, true)) : x.read t key ws = (y, true) := by
  simp [Txn.read, Txn.readRecord, found, undamaged, scan]

/-- R12: the words ahead of a failing one, none of which needs correction, leave no trace. -/
theorem read_failing {w : Nat} (found : x.st.header? t key = some h) (undamaged : h.damaged = false)
    (scan : x.scan h ws = (x, false)) (fails : h.check w = .failed) : x.read t key ws = x.read t key [w] := by
  have one : x.scan h [w] = (x, false) := by rw [Txn.scan, fails]
  simp [Txn.read, Txn.readRecord, found, undamaged, scan, one]

end Txn

theorem State.header?_status (s : State) (u : TowStatus) : ({ s with status := u } : State).header? t key =
    s.header? t key := by cases t <;> rfl

/-- R15: the reads of a visit. -/
theorem Txn.readEvery_eq (found : x.st.header? t key = some h) (undamaged : h.damaged = false) :
    x.readEvery t key ws =
      (x.modStatus (·.counting (ws.filter fun w => h.check w == .corrected).length)).read t key
        (ws.filter fun w => !(h.check w == .corrected)) := by
  have single := Txn.scan_corrected h (ws.filter fun w => h.check w == .corrected) x fun w hw => by
    simpa using (List.mem_filter.mp hw).2
  rewrite [Txn.readEvery, found]
  exact congrArg (fun z : Txn × Bool => z.1.read t key (ws.filter fun w => !(h.check w == .corrected)))
    (Txn.read_of_scan found undamaged single)

end

/-! ## Bindings and headers -/

/-- R56: a change of barges that keeps hull and node address keeps every binding. -/
theorem bound_of_update {s t : State} {p : Barge → Bool} {f : Barge → Barge} (hull : ∀ b, (f b).hull = b.hull)
    (node : ∀ b, (f b).node = b.node) (barges : t.barges = update p f s.barges) (policy : t.policy = s.policy) :
    t.bound = s.bound := by
  have same (b : Barge) : (if p b then f b else b).node = b.node ∧ (if p b then f b else b).hull = b.hull := by
    split <;> simp [hull, node]
  funext a
  simp only [State.bound, policy, barges, update, List.find?_map, Option.map_map]
  have pick : ((fun b : Barge => b.node == some a) ∘ fun b => if p b then f b else b) = fun b => b.node == some a :=
    funext fun b => by simp [(same b).1]
  rewrite [pick]
  have name : ((fun b : Barge => Member.barge b.hull) ∘ fun b => if p b then f b else b) = fun b => .barge b.hull :=
    funext fun b => by simp [(same b).2]
  rw [name]

theorem State.bound_modHeader (s : State) (t : Tbl) (key : Nat) (f : Header → Header) :
    (s.modHeader t key f).bound = s.bound := by
  cases t with
  | barges => exact bound_of_update (f := fun r : Barge => { r with header := f r.header }) (fun _ => rfl) (fun _ => rfl) rfl rfl
  | couplings | engines | rudders | tanks | transfers => rfl

/-! ## A record found damaged (R12) -/

/-- R12: what the work after a read that fails has left of the record, of the figures and of the bindings. -/
structure Txn.Strikes (x : Txn) (t : Tbl) (key : Nat) (h : Header) (z : Txn) : Prop where
  header : ∃ after, z.st.header? t key = some after ∧ after.damaged = true ∧
    (t ≠ .engines → t ≠ .rudders → after.bad = h.bad)
  status : z.st.status = { x.st.status with damagedEvents := min 65535 (x.st.status.damagedEvents + 1) }
  store : z.st.notices.store = (x.st.notices.raise .store).store
  bound : z.st.bound = x.st.bound
  phase : z.st.lockage = x.st.lockage
  barges : t = .barges → z = (x.markDamaged .barges key)

theorem foldl_raise_store {c : Cause} (hc : c ≠ .store) {α : Type} : ∀ (l : List α) (u : NoticeUnit),
    (l.foldl (fun n _ => n.raise c) u).store = u.store
  | [], _ => rfl
  | _ :: l, u => (foldl_raise_store hc l (u.raise c)).trans (by cases c <;> first | exact absurd rfl hc | rfl)

section
variable {x : Txn} {t : Tbl} {key word : Nat} {h : Header}

theorem State.header?_found {s : State} (found : s.header? t key = some h) (f : Header → Header) :
    (s.modHeader t key f).header? t key = some (f h) := by
  rw [State.header?_modHeader, found, Option.map_some, if_pos rfl]

namespace Txn

/-- R12: what follows in the record itself touches no other figure than those of the record. -/
theorem Strikes.of_marked {z : Txn} {words : List Nat} (found : x.st.header? t key = some h) (other : t ≠ .barges)
    (header : z.st.header? t key =
      ((x.markDamaged t key).st.header? t key).map fun h => if key = key then h.renew words else h)
    (kept : t ≠ .engines → t ≠ .rudders → words = []) (status : z.st.status = (x.markDamaged t key).st.status)
    (store : z.st.notices.store = (x.markDamaged t key).st.notices.store)
    (bound : z.st.bound = (x.markDamaged t key).st.bound) (phase : z.st.lockage = (x.markDamaged t key).st.lockage) :
    x.Strikes t key h z := by
  have marked : (x.markDamaged t key).st.header? t key = some { h with damaged := true } := by
    refine (?_ : _ = (x.st.modHeader t key fun h => { h with damaged := true }).header? t key).trans
      (State.header?_found found _)
    cases t <;> rfl
  rewrite [marked, Option.map_some, if_pos rfl] at header
  have same : (x.st.modHeader t key fun h => { h with damaged := true }).status = x.st.status ∧
      (x.st.modHeader t key fun h => { h with damaged := true }).notices = x.st.notices ∧
      (x.st.modHeader t key fun h => { h with damaged := true }).lockage = x.st.lockage := by
    cases t <;> exact ⟨rfl, rfl, rfl⟩
  obtain ⟨figures, notices, lockage⟩ := same
  refine ⟨⟨_, header, rfl, fun engine rudder => ?_⟩, ?_, ?_, ?_, ?_, fun barge => absurd barge other⟩
  · simp [kept engine rudder, Header.renew]
  · rewrite [status]
    exact congrArg (fun u : TowStatus => { u with damagedEvents := saturate u.damagedEvents 1 }) figures
  · rewrite [store]
    exact congrArg (fun u : NoticeUnit => (u.raise .store).store) notices
  · rewrite [bound]
    exact State.bound_modHeader _ t key _
  · rewrite [phase]
    exact lockage

theorem read_strikes (found : x.st.header? t key = some h) (undamaged : h.damaged = false)
    (once : (x.st.transfers.map (·.number)).Nodup)
    (clean : t = .tanks → ∀ u ∈ x.st.transfers, u.header.errorFree = true) (fails : h.check word = .failed) :
    x.Strikes t key h (x.read t key [word]).1 ∧ (x.read t key [word]).2 = false := by
  cases t with
  | barges =>
    rewrite [Txn.read_failed found undamaged fails Tbl.noConfusion]
    exact ⟨⟨⟨{ h with damaged := true }, State.header?_found found fun h => { h with damaged := true }, rfl,
      fun _ _ => rfl⟩, rfl, rfl, State.bound_modHeader x.st .barges key fun h => { h with damaged := true },
      rfl, fun _ => rfl⟩, rfl⟩
  | couplings =>
    rewrite [Txn.read_failed found undamaged fails Tbl.noConfusion, Txn.damageFollows, Txn.couplingDamaged]
    refine ⟨?_, rfl⟩
    split
    · exact .of_marked (words := []) found Tbl.noConfusion (by simp [Header.renew]) (fun _ _ => rfl) rfl rfl rfl rfl
    · dsimp only
      rewrite [Txn.placeFor_spec]
      exact .of_marked (words := []) found Tbl.noConfusion
        (find?_update_map Coupling.number Coupling.header _ (·.renew []) _ key key (fun _ => rfl) fun _ => rfl)
        (fun _ _ => rfl) rfl rfl rfl rfl
  | engines =>
    rewrite [Txn.read_failed found undamaged fails Tbl.noConfusion]
    exact ⟨.of_marked (words := [11, 12]) found Tbl.noConfusion
      (find?_update_map Engine.number Engine.header _ (·.renew [11, 12]) _ key key (fun _ => rfl) fun _ => rfl)
      (fun engine _ => absurd rfl engine) rfl rfl rfl rfl, rfl⟩
  | rudders =>
    rewrite [Txn.read_failed found undamaged fails Tbl.noConfusion]
    exact ⟨.of_marked (words := [10, 11]) found Tbl.noConfusion
      (find?_update_map Rudder.channel Rudder.header _ (·.renew [10, 11]) _ key key (fun _ => rfl) fun _ => rfl)
      (fun _ rudder => absurd rfl rudder) rfl rfl rfl rfl, rfl⟩
  | tanks =>
    rewrite [Txn.read_tank_failed found undamaged fails, Txn.tankDamaged_clean (x.markDamaged .tanks key) key once (clean rfl)]
    exact ⟨.of_marked (words := []) found Tbl.noConfusion
      (by simp [Header.renew, State.header?, State.tank?]; rfl) (fun _ _ => rfl) rfl (foldl_raise_store (by decide) _ _) rfl rfl, rfl⟩
  | transfers =>
    rewrite [Txn.read_failed found undamaged fails Tbl.noConfusion]
    exact ⟨.of_marked (words := []) found Tbl.noConfusion
      (find?_update_map Transfer.number Transfer.header _ (·.renew []) _ key key (fun _ => rfl) fun _ => rfl)
      (fun _ _ => rfl) rfl rfl rfl rfl, rfl⟩

end Txn

end

/-! ## Visits -/

section
variable {s : State} {t : Tbl} {place key : Nat} {h : Header}

/-- R16: the position names the record visited. -/
def State.visiting (s : State) (t : Tbl) (place : Nat) : State :=
  { s with patrol := { s.patrol with position := some (t, place) } }

theorem Txn.visit_eq (next : (s.soundBehind ++ s.soundRound).head? = some (t, place, key)) :
    (Txn.start (s.take .patrol)).visit =
      (let read := (Txn.start (s.take .patrol)).readEvery t key (wordsOf t)
       (if read.2 then read.1.on fun s => s.modHeader t key fun h => h.renew (wordsOf t) else read.1).on
         (·.visiting t place)) := by
  obtain ⟨p, stop, triple⟩ := Option.map_eq_some_iff.mp (s.nextStop_triple.trans next)
  obtain ⟨rfl, rfl, rfl⟩ : p.table = t ∧ p.place = place ∧ p.key = key := by simpa [Stop.triple] using triple
  have stop : (Txn.start (s.take .patrol)).st.nextStop = some p := stop
  rewrite [Txn.visit, stop]
  rfl

theorem State.placeCommands_header (u : State) (cs : List (Member × Nat × WinchCommand)) (t : Tbl) (key : Nat) :
    (u.placeCommands cs).header? t key = u.header? t key := by
  obtain ⟨tow, e⟩ := State.placeCommands_spec cs u
  rewrite [e]
  cases t <;> rfl

theorem settle_header? (u : State) (t : Tbl) (key : Nat) : (settle u).header? t key = u.header? t key := by
  obtain ⟨_, _, _, _, _, e⟩ := settle_spec u
  rewrite [e]
  cases t <;> rfl

end

/-- The end of a transaction in WHOLE that keeps every listed node's binding places its winch commands. -/
theorem Txn.commit_whole {x : Txn} {before : State} (whole : x.st.lockage.phase = .whole)
    (bound : ∀ n ∈ x.st.tow.nodes, before.bound n.address = x.st.bound n.address) :
    x.commit before = x.st.placeCommands x.commands := by
  have tested : (if x.touched then x.lockageTest true else x) = x := by simp [Txn.lockageTest, whole]
  rw [Txn.commit, tested, x.settleBindings_same before bound]

theorem State.transfers_clean {s : State} {key : Nat}
    (clean : (s.modHeader .tanks key fun h => { h with bad := [] }).errorFree = true) :
    ∀ u ∈ s.transfers, u.header.errorFree = true := by
  simp only [State.errorFree, Bool.and_eq_true, List.all_eq_true] at clean
  exact clean.2

/-- Settles O32: the visit counts the words with one bad bit, and the others are clean or damage the record. -/
theorem patrolRepairsWhatItVisits : Obligations.PatrolRepairsWhatItVisits := by
  refine ⟨fun s => rfl, fun s free => ⟨fun empty => ?_, fun t place key h next found undamaged => ?_⟩⟩
  · have stop : (Txn.start (s.take .patrol)).st.nextStop = none := by
      refine Option.map_eq_none_iff.mp (s.nextStop_triple.trans ?_)
      simp [State.soundBehind, empty]
    have e : exec .patrolVisit s = .next (s.transact .patrol Txn.visit) := rfl
    rewrite [e, State.transact_quiet s .patrol Txn.visit free (Txn.start (s.take .patrol)) (by rw [Txn.visit, stop]) rfl rfl
      rfl rfl]
    rfl
  · intro badBits single counted
    have corrects (w : Nat) : (h.check w == .corrected) = (badBits w == 1) := by
      rewrite [Bool.eq_iff_iff, beq_iff_eq, h.check_corrected]
      simp [badBits]
    have count : ((wordsOf t).filter fun w => h.check w == .corrected).length = single :=
      congrArg List.length (List.filter_congr fun w _ => corrects w)
    have e : exec .patrolVisit s = .next (s.transact .patrol Txn.visit) := rfl
    let x : Txn := Txn.start { s.take .patrol with status := s.status.counting single }
    let rest := (wordsOf t).filter fun w => !(h.check w == .corrected)
    have here : (s.take .patrol).header? t key = some h := (by cases t <;> rfl : _ = s.header? t key).trans found
    have foundNow : x.st.header? t key = some h := (State.header?_status _ _).trans here
    have every : (Txn.start (s.take .patrol)).readEvery t key (wordsOf t) = x.read t key rest :=
      (Txn.readEvery_eq here undamaged).trans (by rewrite [count]; rfl)
    have visit := Txn.visit_eq next
    rewrite [every] at visit
    rewrite [e, State.transact_granted _ _ _ free, visit]
    refine ⟨fun atMost => ?_, fun twice atMost whole law clean => ?_⟩
    · have scan : x.scan h rest = (x, true) := by
        refine Txn.scan_clean x h rest fun w hw => (h.check_clean w).mp ?_
        obtain ⟨mem, other⟩ := List.mem_filter.mp hw
        have once := atMost w mem
        cases check : h.check w with
        | clean => rfl
        | corrected => simp [check] at other
        | failed =>
          have two := (h.check_failed w).mp check
          exact absurd once (Nat.not_le.mpr two)
      rewrite [Txn.read_of_scan foundNow undamaged scan]
      rewrite [Txn.commit_bound rfl rfl fun n _ => ?_]
      · cases t <;> rfl
      · exact congrFun (State.bound_modHeader x.st t key fun h => h.renew (wordsOf t)).symm _
    · obtain ⟨w, mem, two⟩ := twice
      have fails : h.check w = .failed := (h.check_failed w).mpr two.ge
      have scan : x.scan h rest = (x, false) :=
        Txn.scan_failing h x rest (fun v hv => by simpa using (List.mem_filter.mp hv).2)
          ⟨w, List.mem_filter.mpr ⟨mem, by rewrite [fails]; rfl⟩, fails⟩
      obtain ⟨-, -, -, -, -, once, -⟩ := s.recordLaw_iff.mp law
      obtain ⟨strikes, failed⟩ := Txn.read_strikes foundNow undamaged once
        (by rintro rfl; exact State.transfers_clean clean) fails
      rewrite [Txn.read_failing foundNow undamaged scan fails]
      generalize x.read t key [w] = read at strikes failed
      obtain ⟨z, b⟩ := read
      obtain rfl : b = false := failed
      have commits : (z.on (·.visiting t place)).commit (s.take .patrol) =
          (z.st.visiting t place).placeCommands z.commands :=
        Txn.commit_whole (by exact (congrArg Lockage.phase strikes.phase).trans whole)
          fun n _ => congrFun strikes.bound.symm _
      obtain ⟨after, header, damaged, bad⟩ := strikes.header
      obtain ⟨tow, placed⟩ := State.placeCommands_spec z.commands (z.st.visiting t place)
      have header' : ((z.st.visiting t place).placeCommands z.commands).header? t key = some after :=
        (State.placeCommands_header _ _ _ _).trans ((by cases t <;> rfl : _ = z.st.header? t key).trans header)
      refine ⟨_, after, congrArg (Host.Outcome.next ∘ settle) commits, ?_, damaged, bad, ?_, ?_, ?_, ?_, ?_⟩
      · exact (settle_header? _ _ _).trans header'
      · rewrite [settle_status, placed]
        exact congrArg TowStatus.corrected strikes.status
      · rewrite [settle_status, placed]
        exact congrArg TowStatus.damagedEvents strikes.status
      · rewrite [settle_notices, placed]
        exact strikes.store
      · rewrite [settle_patrol, placed]
        rfl
      · rintro rfl
        obtain rfl := strikes.barges rfl
        have same : s.status.counting single = { s.status with corrected := counted } := rfl
        refine congrArg (fun u => Host.Outcome.next (settle u)) (commits.trans ?_)
        simp only [x, same]
        rfl

/-! The Coupling Supervisor over a coupling that stands alone under its number, free of error (R79 to R85), and the Lockage
Unit's test over such couplings (R183, R186). -/

/-! ## One coupling written -/

namespace Txn

/-- The transaction with `c` in the place of the coupling of its number. -/
def putCoupling (x : Txn) (c : Coupling) : Txn :=
  x.on fun s => { s with couplings := update (·.number == c.number) (fun _ => c) s.couplings }

/-- What a transaction finds under a coupling's number: this coupling, alone, and free of error. -/
structure HasCoupling (x : Txn) (c : Coupling) : Prop where
  found : x.st.coupling? c.number = some c
  once : (x.st.couplings.map (·.number)).Nodup
  clean : c.header.bad = []

/-- The command of a move, for the coupling's winch. -/
def orders (x : Txn) (c : Coupling) : Option WinchCommand → Txn
  | none => x
  | some w => x.placeFor c w

end Txn

section
variable {x : Txn} {c d : Coupling}

namespace Txn

theorem HasCoupling.put (h : x.HasCoupling c) (number : d.number = c.number) (clean : d.header.bad = []) :
    (x.putCoupling d).HasCoupling d where
  found := find?_put (key := Coupling.number) (k := d.number) (b := c) (number ▸ h.found) rfl
  once := by
    have same : (x.putCoupling d).st.couplings.map (·.number) = x.st.couplings.map (·.number) :=
      map_update_key (key := Coupling.number) x.st.couplings rfl
    rewrite [same]
    exact h.once
  clean := clean

theorem putCoupling_put (number : d.number = c.number) : (x.putCoupling c).putCoupling d = x.putCoupling d := by
  have twice := update_put (key := Coupling.number) (k := c.number) rfl (fun _ => d) x.st.couplings
  simp only [Txn.putCoupling, Txn.on, number, twice]

namespace HasCoupling

theorem putCoupling_self (h : x.HasCoupling c) : x.putCoupling c = x := by
  have stands := put_self (key := Coupling.number) h.once h.found
  exact congrArg (fun l => ({ x with st := { x.st with couplings := l } } : Txn)) stands

theorem modCoupling (h : x.HasCoupling c) {f : Coupling → Coupling} (number : (f c).number = c.number)
    (header : (f c).header = c.header) (ws : List Nat) : x.modCoupling c.number ws f = x.putCoupling (f c) := by
  have written : update (·.number == c.number) (fun r => (f r).renew ws) x.st.couplings =
      update (·.number == c.number) (fun _ => f c) x.st.couplings :=
    update_congr (key := Coupling.number) fun r hr same => by
      obtain ⟨-, mem⟩ := find?_key (key := Coupling.number) h.found
      rewrite [eq_of_nodup_key h.once hr mem same]
      exact Coupling.renew_clean _ _ (header ▸ h.clean)
  rewrite [Txn.modCoupling, Txn.putCoupling, number, Txn.on, written]
  rfl

end HasCoupling

theorem placeFor_congr (x : Txn) {c d : Coupling} (tending : d.tending = c.tending) (w : WinchCommand) :
    x.placeFor d w = x.placeFor c w := by rw [Txn.placeFor, Txn.placeFor, tending]

theorem orders_congr (x : Txn) {c d : Coupling} (tending : d.tending = c.tending) (o : Option WinchCommand) :
    x.orders d o = x.orders c o := by
  cases o with
  | none => rfl
  | some w => exact x.placeFor_congr tending w

theorem placeFor_raise (x : Txn) (c : Coupling) (w : WinchCommand) (u : Cause) :
    (x.placeFor c w).raise u = (x.raise u).placeFor c w := by
  rewrite [Txn.placeFor, Txn.placeFor]
  split <;> rfl

theorem hasCoupling_of_law (free : x.st.errorFree = true) (law : x.st.recordLaw = true)
    (found : x.st.coupling? c.number = some c) (undamaged : c.header.damaged = false) : x.HasCoupling c where
  found := found
  once := by
    obtain ⟨-, once, -⟩ := (State.recordLaw_iff _).mp law
    exact once
  clean := by
    obtain ⟨-, couplings, -⟩ := x.st.errorFree_iff.mp free
    exact Header.bad_eq_nil (couplings c (find?_key (key := Coupling.number) found).2) undamaged

end Txn

/-! ## The tension evaluation and the reading (R79 to R82) -/

/-- R80, R81: the outcome of a tension evaluation where no HEAVE is suppressed. -/
theorem evaluateTension_eq {p : Policy} {phase : Phase} {clock t : Nat} (free : ¬(c.crossing = true ∧ phase = .split)) :
    let o := evaluateTension p phase clock c t
    { c with state := o.state, slackTimer := o.slackTimer } = (c.tensioned p clock t).1 ∧
      o.command = (c.tensioned p clock t).2 ∧ o.raised = c.entersAlarm (c.tensioned p clock t).1 := by
  have timer : elapsed c.slackTimer clock p.slackTime =
      c.slackTimer.any fun start => decide (p.slackTime * 1000 ≤ clock - start) := by cases c.slackTimer <;> rfl
  simp only [evaluateTension, Coupling.tensioned, strainThreshold, slackThreshold, makeUpTension, timer, free, if_false]
  split
  · split
    · next overload => simp [Coupling.entersAlarm, overload]
    · next other => simp [Coupling.entersAlarm, other]
  · split
    · simp [Coupling.entersAlarm]
    · split
      · split
        · next slack => exact ⟨by rw [← slack], rfl, by simp [Coupling.entersAlarm]⟩
        · next other =>
          split
          · simp [Coupling.entersAlarm, other]
          · simp [Coupling.entersAlarm]
      · simp [Coupling.entersAlarm]

theorem Coupling.tensioned_keeps (c : Coupling) (p : Policy) (clock t : Nat) :
    (c.tensioned p clock t).1.number = c.number ∧ (c.tensioned p clock t).1.header = c.header ∧
      (c.tensioned p clock t).1.tending = c.tending := by
  unfold Coupling.tensioned
  dsimp only
  split
  · exact ⟨rfl, rfl, rfl⟩
  · split
    · exact ⟨rfl, rfl, rfl⟩
    · split
      · split
        · exact ⟨rfl, rfl, rfl⟩
        · split <;> exact ⟨rfl, rfl, rfl⟩
      · exact ⟨rfl, rfl, rfl⟩

/-- R80 to R82: a coupling takes the outcome of a tension evaluation. -/
theorem Txn.HasCoupling.takeTension {held : CouplingState} (h : x.HasCoupling { c with state := held }) (t : Nat)
    (free : ¬(c.crossing = true ∧ x.st.lockage.phase = .split)) :
    let after := c.tensioned x.st.policy x.st.clock t
    x.takeTension c.number c t = ((x.putCoupling after.1).raiseIf (c.entersAlarm after.1) .coupling).orders c after.2 := by
  intro after
  obtain ⟨state, command, raised⟩ := evaluateTension_eq (p := x.st.policy) (clock := x.st.clock) (t := t) free
  rewrite [Txn.takeTension]
  generalize evaluateTension x.st.policy x.st.lockage.phase x.st.clock c t = o at state command raised ⊢
  have moved : (x.modCoupling c.number [11] fun c => { c with state := o.state, slackTimer := o.slackTimer }) =
      x.putCoupling after.1 :=
    (h.modCoupling (f := fun c => { c with state := o.state, slackTimer := o.slackTimer }) rfl rfl _).trans
      (congrArg x.putCoupling state)
  rewrite [moved, raised, command]
  cases (c.tensioned x.st.policy x.st.clock t).2 <;> rfl

end

/-! ## A reading (R79) -/

namespace Coupling

/-- R60: a coupling with a reading written. -/
def reading (c : Coupling) (t : Nat) (seated : Bool) : Coupling :=
  { c with tension := some t, seated := some seated }

/-- R79: a coupling that enters SETTLING on a reading. -/
def settling (c : Coupling) (clock t : Nat) (seated : Bool) : Coupling :=
  { c.reading t seated with state := .settling, debounce := some clock }

/-- R79: a coupling that leaves for UNLASHED on a reading. -/
def loosed (c : Coupling) (t : Nat) (seated : Bool) (o : TendOrder) : Coupling :=
  { c.reading t seated with state := .unlashed, tendOrder := o, debounce := none }

/-- R79: a settling coupling made on a reading. -/
def madeFast (c : Coupling) (t : Nat) (seated : Bool) : Coupling :=
  { c.reading t seated with
    state := .made, tendOrder := if c.tendOrder = .make then .none else c.tendOrder, debounce := none, slackTimer := none }

/-- R79: a coupling of the MADE group that parts on a reading. -/
def partedOn (c : Coupling) (t : Nat) (seated : Bool) : Coupling :=
  { c.reading t seated with state := .lost, debounce := none, slackTimer := none }

end Coupling

section
variable {c : Coupling} {p : Policy} {clock t : Nat} {seated : Bool}

namespace Coupling

theorem posted_grouped (grouped : c.state.inMadeGroup = true) : c.posted p clock t seated =
    if seated then (c.reading t seated).tensioned p clock t else (c.partedOn t seated, some .stop) := by
  rewrite [Coupling.posted]
  split <;> first | rfl | (rename_i state; simp [state, CouplingState.inMadeGroup] at grouped)

theorem posted_unlashed (state : c.state = .unlashed) : c.posted p clock t seated =
    (if seated then c.settling clock t seated else c.reading t seated, none) := by
  simp only [Coupling.posted, Coupling.settling, Coupling.reading, state]

theorem posted_settling (state : c.state = .settling) : c.posted p clock t seated =
    if !seated then (c.loosed t seated c.tendOrder, none)
    else if elapsed c.debounce clock p.debounceTime then (c.madeFast t seated).tensioned p clock t
    else (c.reading t seated, none) := by
  have timer : elapsed c.debounce clock p.debounceTime =
      c.debounce.any fun start => decide (p.debounceTime * 1000 ≤ clock - start) := by cases c.debounce <;> rfl
  simp only [Coupling.posted, Coupling.loosed, Coupling.madeFast, Coupling.reading, state, timer]

theorem posted_lost (state : c.state = .lost) : c.posted p clock t seated =
    match c.tendOrder with
    | .none => (if seated then c.settling clock t seated else c.reading t seated, none)
    | .release =>
      if seated then ({ c.reading t seated with state := .releasing }, some .payOut)
      else (c.loosed t seated .none, none)
    | .make =>
      (if seated then c.settling clock t seated else { c.reading t seated with state := .unlashed },
        some (.heave (makeUpTension p c))) := by
  simp only [Coupling.posted, Coupling.settling, Coupling.loosed, Coupling.reading, state, makeUpTension] <;> rfl

theorem posted_releasing (state : c.state = .releasing) : c.posted p clock t seated =
    (if seated then c.reading t seated else c.loosed t seated .none, none) := by
  simp only [Coupling.posted, Coupling.loosed, Coupling.reading, state]

theorem posted_keeps (c : Coupling) (p : Policy) (clock t : Nat) (seated : Bool) :
    (c.posted p clock t seated).1.number = c.number ∧ (c.posted p clock t seated).1.header = c.header ∧
      (c.posted p clock t seated).1.tending = c.tending := by
  have group : (if seated then (c.reading t seated).tensioned p clock t else (c.partedOn t seated, some .stop)).1.number =
      c.number ∧ (if seated then (c.reading t seated).tensioned p clock t else (c.partedOn t seated, some .stop)).1.header =
      c.header ∧ (if seated then (c.reading t seated).tensioned p clock t else (c.partedOn t seated, some .stop)).1.tending =
      c.tending := by
    split
    · exact (c.reading t seated).tensioned_keeps p clock t
    · exact ⟨rfl, rfl, rfl⟩
  cases hs : c.state with
  | made | slack | strained | overload =>
    rewrite [Coupling.posted_grouped (by simp [hs, CouplingState.inMadeGroup])]
    exact group
  | unlashed =>
    rewrite [Coupling.posted_unlashed hs]
    cases seated <;> exact ⟨rfl, rfl, rfl⟩
  | releasing =>
    rewrite [Coupling.posted_releasing hs]
    cases seated <;> exact ⟨rfl, rfl, rfl⟩
  | settling =>
    rewrite [Coupling.posted_settling hs]
    split
    · exact ⟨rfl, rfl, rfl⟩
    · split
      · exact (c.madeFast t seated).tensioned_keeps p clock t
      · exact ⟨rfl, rfl, rfl⟩
  | lost =>
    rewrite [Coupling.posted_lost hs]
    cases c.tendOrder <;> cases seated <;> exact ⟨rfl, rfl, rfl⟩

end Coupling

end

section
variable {x : Txn} {c : Coupling} {t : Nat} {seated : Bool}

namespace Txn

/-- R79: a move to a state that raises nothing and orders nothing. -/
theorem orders_none {d : Coupling} (calm : c.entersAlarm d = false) :
    ((x.putCoupling d).raiseIf (c.entersAlarm d) .coupling).orders c none = x.putCoupling d := by
  rewrite [calm]
  rfl

theorem orders_some {d : Coupling} {w : WinchCommand} (calm : c.entersAlarm d = false) :
    ((x.putCoupling d).raiseIf (c.entersAlarm d) .coupling).orders c (some w) = (x.putCoupling d).placeFor c w := by
  rewrite [calm]
  rfl

/-- R79: a reading moves a coupling by its row of the table. -/
theorem HasCoupling.moveCoupling (h : x.HasCoupling (c.reading t seated))
    (free : ¬(c.crossing = true ∧ x.st.lockage.phase = .split)) :
    let move := c.posted x.st.policy x.st.clock t seated
    x.moveCoupling c.number (c.reading t seated) t seated =
      ((x.putCoupling move.1).raiseIf (c.entersAlarm move.1) .coupling).orders c move.2 := by
  intro move
  have stands : x.putCoupling (c.reading t seated) = x := h.putCoupling_self
  have mod (f : Coupling → Coupling) (number : (f (c.reading t seated)).number = c.number)
      (header : (f (c.reading t seated)).header = c.header) (ws : List Nat) :
      x.modCoupling c.number ws f = x.putCoupling (f (c.reading t seated)) := h.modCoupling number header ws
  have group (grouped : c.state.inMadeGroup = true) :
      (if seated then x.takeTension c.number (c.reading t seated) t else
        ((x.modCoupling c.number [11] fun c => { c with state := .lost, debounce := none, slackTimer := none }).placeFor
          (c.reading t seated) .stop).raise .coupling) =
      ((x.putCoupling move.1).raiseIf (c.entersAlarm move.1) .coupling).orders c move.2 := by
    have hm : move = _ := Coupling.posted_grouped grouped
    rewrite [hm]
    split
    · refine (Txn.HasCoupling.takeTension (c := c.reading t seated) h t free).trans ?_
      exact Txn.orders_congr _ rfl _
    · have enters : c.entersAlarm (c.partedOn t seated) = true := by
        have other : c.state ≠ .lost := fun lost => by simp [lost, CouplingState.inMadeGroup] at grouped
        simp [Coupling.entersAlarm, Coupling.partedOn, other]
      rewrite [enters, mod _ rfl rfl, Txn.placeFor_raise]
      exact Txn.placeFor_congr _ rfl _
  have state : (c.reading t seated).state = c.state := rfl
  unfold Txn.moveCoupling
  rewrite [state]
  cases hs : c.state with
  | made | slack | strained | overload => exact group (by simp [hs, CouplingState.inMadeGroup])
  | unlashed =>
    have hm : move = _ := Coupling.posted_unlashed hs
    rewrite [hm, Txn.orders_none (by cases seated <;> simp [Coupling.entersAlarm, Coupling.settling, Coupling.reading, hs])]
    cases seated with
    | false => exact stands.symm
    | true => exact mod _ rfl rfl _
  | settling =>
    have hm : move = _ := Coupling.posted_settling hs
    rewrite [hm]
    cases seated with
    | false =>
      simp only [Bool.not_false, if_true]
      rewrite [Txn.orders_none (by simp [Coupling.entersAlarm, Coupling.loosed])]
      exact mod _ rfl rfl _
    | true =>
      have debounce : (c.reading t true).debounce = c.debounce := rfl
      simp only [Bool.not_true, Bool.false_eq_true, if_true, if_false, debounce]
      split
      · let kept : Coupling := { c.madeFast t true with state := c.state }
        have written : x.modCoupling c.number (if (c.reading t true).tendOrder = .make then [9] else [])
            (fun d => { d with
              tendOrder := if (c.reading t true).tendOrder = .make then .none else (c.reading t true).tendOrder
              debounce := none, slackTimer := none }) = x.putCoupling kept := mod _ rfl rfl _
        have taken := (h.put (d := kept) rfl h.clean).takeTension (c := c.madeFast t true) t free
        rewrite [written]
        refine taken.trans ?_
        obtain ⟨number, -, -⟩ := (c.madeFast t true).tensioned_keeps x.st.policy x.st.clock t
        have twice := Txn.putCoupling_put (x := x) (c := kept) (d := ((c.madeFast t true).tensioned x.st.policy _ t).1)
          number
        have alarm : (c.madeFast t true).entersAlarm = c.entersAlarm := funext fun d => by
          simp only [Coupling.entersAlarm, Coupling.madeFast, hs]
          cases d.state <;> rfl
        refine (Txn.orders_congr (c := c) _ rfl _).trans ?_
        rewrite [alarm]
        exact congrArg (fun y : Txn => (y.raiseIf _ .coupling).orders c _) twice
      · rewrite [Txn.orders_none (by simp [Coupling.entersAlarm, Coupling.reading, hs])]
        exact stands.symm
  | lost =>
    have hm : move = _ := Coupling.posted_lost hs
    rewrite [hm]
    have order : (c.reading t seated).tendOrder = c.tendOrder := rfl
    rewrite [order]
    cases c.tendOrder with
    | none =>
      dsimp only
      rewrite [Txn.orders_none (by cases seated <;> simp [Coupling.entersAlarm, Coupling.settling, Coupling.reading, hs])]
      cases seated with
      | false => exact stands.symm
      | true => exact mod _ rfl rfl _
    | make =>
      dsimp only
      rewrite [Txn.orders_some (by cases seated <;> simp [Coupling.entersAlarm, Coupling.settling, Coupling.reading])]
      cases seated with
      | false => exact congrArg (fun y : Txn => y.placeFor c _) (mod _ rfl rfl _)
      | true => exact congrArg (fun y : Txn => y.placeFor c _) (mod _ rfl rfl _)
    | release =>
      cases seated with
      | false =>
        simp only [Bool.false_eq_true, if_false]
        rewrite [Txn.orders_none (by simp [Coupling.entersAlarm, Coupling.loosed])]
        exact mod _ rfl rfl _
      | true =>
        simp only [if_true]
        rewrite [Txn.orders_some (by simp [Coupling.entersAlarm])]
        exact congrArg (fun y : Txn => y.placeFor c _) (mod _ rfl rfl _)
  | releasing =>
    have hm : move = _ := Coupling.posted_releasing hs
    rewrite [hm, Txn.orders_none (by cases seated <;> simp [Coupling.entersAlarm, Coupling.loosed, Coupling.reading, hs])]
    cases seated with
    | false => exact mod _ rfl rfl _
    | true => exact stands.symm

/-- R60, R79: a reading posted to an undamaged coupling. -/
theorem postReading_clean (free : x.st.errorFree = true) (law : x.st.recordLaw = true)
    (found : x.st.coupling? c.number = some c) (undamaged : c.header.damaged = false)
    (unsuppressed : ¬(c.crossing = true ∧ x.st.lockage.phase = .split)) :
    let move := c.posted x.st.policy x.st.clock t seated
    x.postReading c.number t seated =
      (((x.putCoupling move.1).raiseIf (c.entersAlarm move.1) .coupling).orders c move.2).touch := by
  intro move
  have has := Txn.hasCoupling_of_law free law found undamaged
  have sound : x.st.sound .couplings c.number = true := by simp [State.sound, State.header?, found, undamaged]
  have written : (x.modCoupling c.number [12, 13] fun c => { c with tension := some t, seated := some seated }) =
      x.putCoupling (c.reading t seated) := has.modCoupling rfl rfl _
  have moves := (has.put (d := c.reading t seated) rfl has.clean).moveCoupling unsuppressed
  have twice := Txn.putCoupling_put (x := x) (c := c.reading t seated) (d := move.1) (c.posted_keeps _ _ _ _).1
  rewrite [Txn.postReading, Txn.read_errorFree x free, sound]
  dsimp only
  rewrite [found]
  dsimp only
  rewrite [written]
  refine congrArg Txn.touch (moves.trans ?_)
  exact congrArg (fun y : Txn => (y.raiseIf _ .coupling).orders c _) twice

end Txn

end

/-! The Lockage Unit's completion test and boat cut over couplings free of error, phase by phase (R183, R186). -/

/-! ## The boat cut (R186) -/

theorem CouplingState.holdsBoat_iff (u : CouplingState) :
    u.holdsBoat = true ↔ u = .made ∨ u = .slack ∨ u = .strained := by cases u <;> simp [CouplingState.holdsBoat]

theorem Coupling.presents_holdsBoat (c : Coupling) : c.presents.holdsBoat = true ↔
    c.header.damaged = false ∧ (c.state = .made ∨ c.state = .slack ∨ c.state = .strained) := by
  rewrite [Coupling.presents]
  split
  · next damaged => simp [damaged, CouplingState.holdsBoat]
  · next undamaged => simp [undamaged, CouplingState.holdsBoat_iff]

namespace State

theorem mem_heldCuts {s : State} {k : Nat} : k ∈ s.heldCuts ↔ s.holdsTo k := by
  simp only [State.heldCuts, State.holdsTo, List.mem_filterMap, List.mem_filter, Bool.and_eq_true, beq_iff_eq,
    Coupling.presents_holdsBoat, and_assoc]

/-- R186: the cut decided is the one of the rule. -/
theorem decideBoatCut_spec (s : State) : match s.decideBoatCut with
    | .none => ∀ k, ¬s.holdsTo k
    | .cut k => s.holdsTo k ∧ ∀ j, s.holdsTo j → j = k
    | .conflict => ∃ j k, s.holdsTo j ∧ s.holdsTo k ∧ j ≠ k := by
  simp only [← State.mem_heldCuts, State.decideBoatCut]
  cases cuts : s.heldCuts with
  | nil => simp
  | cons k ks =>
    by_cases same : ks.all (· == k) = true
    · dsimp only
      rewrite [if_pos same]
      simpa using same
    · have other : ∃ j ∈ ks, j ≠ k := by simpa using same
      obtain ⟨j, hj, apart⟩ := other
      dsimp only
      rewrite [if_neg same]
      exact ⟨j, k, by simp [hj], by simp, apart⟩

theorem cut?_congr {s t : State} (barges : t.barges = s.barges) (strings : t.strings = s.strings)
    (breaks : t.lockage.breaks = s.lockage.breaks) : t.cut? = s.cut? := by
  funext h
  have rank : t.rankAt = s.rankAt := by
    funext p
    simp only [State.rankAt, State.stringAt, State.entry, strings]
    rfl
  simp only [State.cut?, State.rank?, State.place?, rank, barges, breaks]

theorem boatCutDecided_of {s t : State} (couplings : t.couplings = s.couplings) (barges : t.barges = s.barges)
    (strings : t.strings = s.strings) (breaks : t.lockage.breaks = s.lockage.breaks)
    (cut : t.lockage.boatCut = s.decideBoatCut) : t.boatCutDecided := by
  have cuts : t.cut? = s.cut? := State.cut?_congr barges strings breaks
  have holds (k : Nat) : t.holdsTo k ↔ s.holdsTo k := by simp only [State.holdsTo, couplings, cuts]
  have spec := s.decideBoatCut_spec
  rewrite [State.boatCutDecided, cut]
  cases decided : s.decideBoatCut <;> simp only [decided, holds] at spec ⊢ <;> exact spec

/-! ## The completion test (R183) -/

/-- R183, R186: the state with the lockage record written, the boat cut decided and the notices raised. -/
def lockageTaken (s : State) (phase : Phase) (left times : Nat) : State :=
  let after : State :=
    { s with lockage := { s.lockage with phase := phase, boatCut := s.decideBoatCut, remaining := left } }
  { after with notices := s.lockageNotices after times }

theorem lockageTaken_decided (s : State) (phase : Phase) (left times : Nat) :
    (s.lockageTaken phase left times).boatCutDecided := State.boatCutDecided_of rfl rfl rfl rfl rfl

/-- R183: the crossing couplings still to be unlashed. -/
def leftToBreak (s : State) : Nat := (s.couplings.filter fun d => s.crossing d && d.presents != .unlashed).length

/-- R183: the crossing couplings still to be made. -/
def leftToMake (s : State) : Nat := (s.couplings.filter fun d => s.crossing d && !d.presents.inMadeGroup).length

/-- R183: the return to WHOLE. -/
def madeWhole (s : State) : State :=
  { s with
    couplings := s.couplings.map fun d => if d.header.damaged then d else { d with crossing := false }
    lockage := { phase := .whole, breaks := [], boatCut := .none, remaining := 0 } }

end State

section
variable {x : Txn}

theorem NoticeUnit.foldl_lockage (u : NoticeUnit) (b : Bool) (n : Nat) :
    (List.replicate (if b then n + 1 else n) Cause.lockage).foldl NoticeUnit.raise u =
      (if b then ((List.replicate n Cause.lockage).foldl NoticeUnit.raise u).raise .lockage
       else (List.replicate n Cause.lockage).foldl NoticeUnit.raise u) := by
  cases b
  · rfl
  · simp [List.replicate_succ', List.foldl_append]

namespace Txn

/-- R183, R186: a lockage record written, and then the boat cut evaluated. -/
theorem lockageTaken_eq {phase : Phase} (outside : phase ≠ .whole) (left times : Nat) (y : Txn)
    (hy : y = x.on fun s => { s with
      lockage := { s.lockage with phase := phase, remaining := left }
      notices := (List.replicate times Cause.lockage).foldl NoticeUnit.raise s.notices }) :
    y.evaluateBoatCut = x.on fun s => s.lockageTaken phase left times := by
  subst hy
  refine (if_neg outside).trans ?_
  have notices := NoticeUnit.foldl_lockage x.st.notices
    (x.st.decideBoatCut == .conflict && x.st.lockage.boatCut != .conflict) times
  simp only [Txn.on, State.lockageTaken, State.lockageNotices, notices]
  refine (?_ : Txn.raiseIf _ (x.st.decideBoatCut == .conflict && x.st.lockage.boatCut != .conflict) .lockage = _)
  cases (x.st.decideBoatCut == .conflict && x.st.lockage.boatCut != .conflict) <;> rfl

theorem lockageTest_outside (free : x.st.errorFree = true) (outside : x.st.lockage.phase ≠ .whole) (announce : Bool) :
    x.lockageTest announce = (x.complete announce).evaluateBoatCut := by
  rw [Txn.lockageTest, if_neg outside, Txn.readAll_errorFree x free]

theorem lockageTest_breaking (free : x.st.errorFree = true) (phase : x.st.lockage.phase = .breaking)
    (announce : Bool) : x.lockageTest announce = x.on fun s =>
      s.lockageTaken (if s.leftToBreak = 0 then .split else .breaking) s.leftToBreak
        (if s.leftToBreak = 0 ∧ announce then 1 else 0) := by
  have left : x.st.crossingRemaining = x.st.leftToBreak := by rewrite [State.crossingRemaining, phase]; rfl
  rewrite [Txn.lockageTest_outside free (by rewrite [phase]; decide)]
  refine Txn.lockageTaken_eq (x := x) ?_ _ _ _ ?_
  · split <;> decide
  · rewrite [Txn.complete, phase, left]
    dsimp only
    by_cases none : x.st.leftToBreak = 0
    · cases announce <;> simp [none] <;> rfl
    · simp only [none, if_false, false_and, ← phase]
      rfl

theorem lockageTest_split (free : x.st.errorFree = true) (phase : x.st.lockage.phase = .split)
    (announce : Bool) : x.lockageTest announce = x.on fun s => s.lockageTaken .split 0 0 := by
  have left : x.st.crossingRemaining = 0 := by rw [State.crossingRemaining, phase]
  rewrite [Txn.lockageTest_outside free (by rewrite [phase]; decide)]
  refine Txn.lockageTaken_eq (x := x) (by decide) _ _ _ ?_
  rewrite [Txn.complete, phase, left]
  simp only [← phase]
  rfl

/-- R183: the crossing flag of every undamaged coupling is cleared. -/
theorem returnWhole_free (free : x.st.errorFree = true) (once : (x.st.couplings.map (·.number)).Nodup) :
    x.returnWhole = x.on State.madeWhole := by
  let g (c : Coupling) : Coupling := Coupling.renew { c with crossing := false } [15]
  have fold : ∀ (keys : List Nat) (y : Txn),
      y.forKeys keys (fun k y => y.modCoupling k [15] fun c => { c with crossing := false }) =
        y.on fun s => { s with couplings := keys.foldl (fun l k => update (·.number == k) g l) s.couplings } := by
    intro keys
    induction keys with
    | nil => exact fun y => rfl
    | cons k keys ih =>
      intro y
      rewrite [Txn.forKeys, List.foldl_cons]
      exact (ih _).trans rfl
  have numbers : ((x.st.couplings.filter fun c => !c.header.damaged).map (·.number)).Nodup :=
    once.sublist (List.filter_sublist.map _)
  rewrite [Txn.returnWhole, fold]
  refine congrArg (fun l => x.on fun s => { s with couplings := l, lockage := Lockage.initial }) ?_
  refine (foldl_update (key := Coupling.number) (g := g) (fun _ => rfl) _ _ numbers).trans ?_
  refine List.map_congr_left fun c hc => ?_
  cases damaged : c.header.damaged with
  | true =>
    refine if_neg fun mem => ?_
    obtain ⟨d, hd, same⟩ := List.mem_map.mp mem
    obtain ⟨hd, sound⟩ := List.mem_filter.mp hd
    rewrite [eq_of_nodup_key once hd hc same, damaged] at sound
    cases sound
  | false =>
    refine (if_pos (List.mem_map.mpr ⟨c, List.mem_filter.mpr ⟨hc, by simp [damaged]⟩, rfl⟩)).trans ?_
    exact Coupling.renew_clean _ _ (Header.bad_eq_nil ((x.st.errorFree_iff.mp free).2.1 c hc) damaged)

theorem lockageTest_remaking (free : x.st.errorFree = true) (once : (x.st.couplings.map (·.number)).Nodup)
    (phase : x.st.lockage.phase = .remaking) (announce : Bool) : x.lockageTest announce =
      if x.st.leftToMake = 0 then (x.on State.madeWhole).raiseIf announce .lockage
      else x.on fun s => s.lockageTaken .remaking s.leftToMake 0 := by
  have left : x.st.crossingRemaining = x.st.leftToMake := by rewrite [State.crossingRemaining, phase]; rfl
  rewrite [Txn.lockageTest_outside free (by rewrite [phase]; decide), Txn.complete, phase, left]
  dsimp only
  split
  · next none =>
    have whole : (x.modLockage fun l => { l with remaining := x.st.leftToMake }).returnWhole = x.on State.madeWhole :=
      Txn.returnWhole_free (x := x.modLockage fun l => { l with remaining := x.st.leftToMake }) free once
    rewrite [whole]
    cases announce <;> rfl
  · refine Txn.lockageTaken_eq (x := x) (by decide) _ _ _ ?_
    simp only [← phase]
    rfl

end Txn

end

/-! The posting transaction of a node's readings and of the bow node's report (R60, R79, R144, R145). -/

/-! ## Bindings and commands (R56, R61) -/

namespace State

/-- R56: a member is bound to one address at most. -/
theorem bound_injective {s : State} (hulls : (s.barges.map (·.hull)).Nodup) {a b : Nat} {m : Member}
    (ha : s.bound a = some m) (hb : s.bound b = some m) : a = b := by
  cases m with
  | boat =>
    have boat (c : Nat) (hc : s.bound c = some .boat) : c = s.policy.boatNode := by
      unfold State.bound at hc
      split at hc
      · next here => exact here.2
      · simp at hc
    rw [boat a ha, boat b hb]
  | barge h =>
    have barge (c : Nat) (hc : s.bound c = some (.barge h)) : ∃ r ∈ s.barges, r.hull = h ∧ r.node = some c := by
      unfold State.bound at hc
      split at hc
      · cases hc
      · obtain ⟨r, found, hull⟩ := Option.map_eq_some_iff.mp hc
        exact ⟨r, List.mem_of_find?_eq_some found, by simpa using hull, by simpa using List.find?_some found⟩
    obtain ⟨r, hr, hull, node⟩ := barge a ha
    obtain ⟨u, hu, hull', node'⟩ := barge b hb
    obtain rfl := eq_of_nodup_key hulls hr hu (hull.trans hull'.symm)
    exact Option.some.inj (node.symm.trans node')

/-- R56: the listed node bound to a member is the one at its address. -/
theorem nodeOf_eq {s : State} (hulls : (s.barges.map (·.hull)).Nodup) {a : Nat} {m : Member}
    (bound : s.bound a = some m) : s.nodeOf m = s.node? a := by
  have same : (fun n : Node => s.bound n.address == some m) = fun n => n.address == a := by
    funext n
    by_cases here : n.address = a
    · simp [here, bound]
    · have other : s.bound n.address ≠ some m := fun h => here (s.bound_injective hulls h bound)
      simp [here, other]
  rw [State.nodeOf, same, State.node?]

/-- R61: a command placed for a listed winch. -/
theorem placeCommand_listed {s : State} (hulls : (s.barges.map (·.hull)).Nodup) {a k : Nat} {m : Member} {n : Node}
    (bound : s.bound a = some m) (listed : s.node? a = some n) (winch : k ≤ n.winches) (w : WinchCommand) :
    s.placeCommand m k w = { s with tow := { s.tow with
      nodes := update (·.address == a) (fun d => { d with
        slots := d.slots.set (k - 1) (some { command := w, stamp := s.tow.stamps, failures := 0 }) }) s.tow.nodes
      stamps := s.tow.stamps + 1 } } := by
  obtain ⟨address, -⟩ := find?_key (key := Node.address) listed
  rewrite [State.placeCommand, State.nodeOf_eq hulls bound, listed]
  dsimp only
  rewrite [if_pos winch, address]
  rfl

end State

namespace Txn

/-- The end of a transaction that touched a coupling, with the completion test known. -/
theorem commit_tested {x : Txn} {before : State} {f : State → State} (touched : x.touched = true)
    (test : x.lockageTest true = x.on f) (bound : ∀ n ∈ (f x.st).tow.nodes, before.bound n.address = (f x.st).bound n.address) :
    x.commit before = (f x.st).placeCommands x.commands := by
  rewrite [Txn.commit, touched, if_pos rfl, test, (x.on f).settleBindings_same before bound]
  rfl

theorem lockageTest_whole {x : Txn} (whole : x.st.lockage.phase = .whole) (announce : Bool) :
    x.lockageTest announce = x.on id := if_pos whole

end Txn

/-! ## One winch that serves one coupling -/

theorem Coupling.tendedByWinch_iff (c : Coupling) (m : Member) (k : Nat) :
    c.tendedByWinch m k = true ↔ c.tending = .winch m k := by
  rewrite [Coupling.tendedByWinch]
  cases c.tending with
  | hand => simp
  | winch m' k' => simp

theorem Txn.putCoupling_free {x : Txn} {c : Coupling} (free : x.st.errorFree = true) (clean : c.header.bad = []) :
    (x.putCoupling c).st.errorFree = true := by
  obtain ⟨h1, h2, h3, h4, h5, h6⟩ := x.st.errorFree_iff.mp free
  have couplings := forall_mem_update (p := fun u : Coupling => u.header.errorFree = true) (f := fun _ => c)
    (q := (·.number == c.number)) (fun _ _ _ _ => by simp [Header.errorFree, clean]) h2
  exact (State.errorFree_iff _).mpr ⟨h1, couplings, h3, h4, h5, h6⟩

section
variable {s : State} {a t : Nat} {n : Node} {m : Member} {c : Coupling} {seated : Bool}

/-- R60, R79: the state that a posting to one coupling leaves, but for the lockage record. -/
def State.postedState (s : State) (a t : Nat) (c : Coupling) (seated : Bool) : State :=
  let move := c.posted s.policy s.clock t seated
  { s with
    couplings := update (·.number == c.number) (fun _ => move.1) s.couplings
    notices := if c.entersAlarm move.1 then s.notices.raise .coupling else s.notices
    tow := { s.tow with phase := .enquiryDue a } }

/-- R61: the commands that a posting to one coupling produces. -/
def Coupling.commands (m : Member) (k : Nat) : Option WinchCommand → List (Member × Nat × WinchCommand)
  | none => []
  | some w => [(m, k, w)]

namespace Txn

theorem orders_winch {x : Txn} {k : Nat} (tending : c.tending = .winch m k) (o : Option WinchCommand) :
    x.orders c o = { x with commands := x.commands ++ Coupling.commands m k o } := by
  cases o with
  | none => simp [Txn.orders, Coupling.commands]
  | some w => simp [Txn.orders, Coupling.commands, Txn.placeFor, tending, Txn.place]

theorem postingWork_one (listed : s.node? a = some n) (bound : s.bound a = some m)
    (apart : s.bowBarge?.map Member.barge ≠ some m) (free : s.errorFree = true) (law : s.recordLaw = true)
    (serves : s.couplings.filter (·.tendedByWinch m 1) = [c]) (undamaged : c.header.damaged = false)
    (phase : s.lockage.phase ≠ .split) :
    Txn.postingWork a [(t, seated)] none (Txn.start s) =
      { st := s.postedState a t c seated
        commands := Coupling.commands m 1 (c.posted s.policy s.clock t seated).2, touched := true } := by
  obtain ⟨mem, tended⟩ := List.mem_filter.mp (serves ▸ List.mem_singleton_self c)
  have tending : c.tending = .winch m 1 := (c.tendedByWinch_iff m 1).mp tended
  obtain ⟨-, once, -⟩ := s.recordLaw_iff.mp law
  have found : s.coupling? c.number = some c := find?_eq_some_of_nodup once mem
  have posted := Txn.postReading_clean (x := Txn.start s) (t := t) (seated := seated) free law found undamaged
    fun suppressed => phase suppressed.2
  have tendedNumbers : s.tendedByWinch m 1 = [c.number] := by rewrite [State.tendedByWinch, serves]; rfl
  have winches : (Txn.start s).postWinches m 1 [(t, seated)] = (Txn.start s).postReading c.number t seated :=
    (congrArg (fun keys => (Txn.start s).forKeys keys fun k y => y.postReading k t seated) tendedNumbers).trans rfl
  dsimp only at posted
  rewrite [Txn.raiseIf_spec, Txn.orders_winch tending] at posted
  have bow : ((Txn.start s).postReading c.number t seated).st.bowBarge? = s.bowBarge? := by
    rewrite [posted]
    rfl
  have work : Txn.postingWork a [(t, seated)] none (Txn.start s) =
      ((Txn.start s).postReading c.number t seated).modTow fun t => { t with phase := .enquiryDue a } := by
    have here : (Txn.start s).st.node? a = some n := listed
    have named : (Txn.start s).st.bound a = some m := bound
    rewrite [Txn.postingWork, here]
    dsimp only
    rewrite [named]
    dsimp only
    rewrite [Txn.postMember, winches]
    dsimp only
    rw [bow, if_neg apart]
  obtain ⟨number, -, -⟩ := c.posted_keeps s.policy s.clock t seated
  rewrite [work, posted, Txn.putCoupling, State.postedState, ← number]
  rfl

end Txn

end

namespace State

/-- R60, R79, R183: the end of a posting to one coupling, with the completion test known. -/
theorem posting_one {s : State} {a t : Nat} {n : Node} {m : Member} {c : Coupling} {seated : Bool}
    (granted : s.granted .towLine = true) (phase : s.tow.phase = .posting a [(t, seated)] none)
    (listed : s.node? a = some n) (winches : 1 ≤ n.winches) (bound : s.bound a = some m)
    (apart : s.bowBarge?.map Member.barge ≠ some m) (free : s.errorFree = true) (law : s.recordLaw = true)
    (serves : s.couplings.filter (·.tendedByWinch m 1) = [c]) (undamaged : c.header.damaged = false)
    (outside : s.lockage.phase ≠ .split) {f : State → State}
    (test : ∀ x : Txn, x.st = (s.take .towLine).postedState a t c seated → x.lockageTest true = x.on f)
    (keeps : ∀ u : State, (f u).barges = u.barges ∧ (f u).policy = u.policy ∧ (f u).tow = u.tow) :
    exec .postingTransaction s = .next (settle { f ((s.take .towLine).postedState a t c seated) with
      tow := match (c.posted s.policy s.clock t seated).2 with
        | none => { s.tow with phase := .enquiryDue a }
        | some w => { s.tow with
          phase := .enquiryDue a
          nodes := update (·.address == a) (fun d => { d with
            slots := d.slots.set 0 (some { command := w, stamp := s.tow.stamps, failures := 0 }) }) s.tow.nodes
          stamps := s.tow.stamps + 1 } }) := by
  have e : exec .postingTransaction s = .next s.posting := rfl
  have work := Txn.postingWork_one (s := s.take .towLine) (t := t) (seated := seated) listed bound apart free law serves
    undamaged outside
  have runs : s.posting = s.transact .towLine (Txn.postingWork a [(t, seated)] none) := by rw [State.posting, phase]
  rewrite [e, runs, State.transact_granted _ _ _ granted, work]
  have hulls : (s.barges.map (·.hull)).Nodup := (s.recordLaw_iff.mp law).1
  obtain ⟨barges, policy, tow⟩ := keeps ((s.take .towLine).postedState a t c seated)
  have bounds : (f ((s.take .towLine).postedState a t c seated)).bound = s.bound := State.bound_congr _ _ barges policy
  rewrite [Txn.commit_tested rfl (test _ rfl) fun n _ => congrFun bounds.symm _]
  generalize f ((s.take .towLine).postedState a t c seated) = after at tow bounds barges
  dsimp only [State.take_policy, State.take_clock]
  cases (c.posted s.policy s.clock t seated).2 with
  | none =>
    have stands : { after with tow := { s.tow with phase := .enquiryDue a } } = after := by
      rw [show { s.tow with phase := .enquiryDue a } = after.tow from tow.symm]
    exact congrArg (Host.Outcome.next ∘ settle) stands.symm
  | some w =>
    have here : after.node? a = some n := by
      rewrite [State.node?, tow]
      exact listed
    have placed := State.placeCommand_listed (s := after) (barges ▸ hulls) ((congrFun bounds a).trans bound) here winches w
    rewrite [tow] at placed
    exact congrArg (Host.Outcome.next ∘ settle) placed

theorem postedState_free {s : State} {a t : Nat} {c : Coupling} {seated : Bool} (free : s.errorFree = true)
    (clean : c.header.bad = []) : (s.postedState a t c seated).errorFree = true := by
  obtain ⟨number, header, -⟩ := c.posted_keeps s.policy s.clock t seated
  have put := Txn.putCoupling_free (x := Txn.start s) (c := (c.posted s.policy s.clock t seated).1) free (header ▸ clean)
  rewrite [Txn.putCoupling, number] at put
  exact put

end State

/-- R60, R79, R183, R186: a posting to one coupling in WHOLE, BREAKING and REMAKING. -/
theorem posting_moves : ∀ (s : State) (a t : Nat) (n : Node) (m : Member) (c : Coupling) (seated : Bool),
    s.granted .towLine = true → s.tow.phase = .posting a [(t, seated)] none → s.node? a = some n → 1 ≤ n.winches →
    s.bound a = some m → s.bowBarge?.map Member.barge ≠ some m → s.errorFree = true → s.recordLaw = true →
    s.couplings.filter (·.tendedByWinch m 1) = [c] → c.header.damaged = false →
    let move := c.posted s.policy s.clock t seated
    let moved : State := { s with
      couplings := update (·.number == c.number) (fun _ => move.1) s.couplings
      notices := if c.entersAlarm move.1 then s.notices.raise .coupling else s.notices
      tow := match move.2 with
        | none => { s.tow with phase := .enquiryDue a }
        | some w => { s.tow with
          phase := .enquiryDue a
          nodes := update (·.address == a) (fun d => { d with
            slots := d.slots.set 0 (some { command := w, stamp := s.tow.stamps, failures := 0 }) }) s.tow.nodes
          stamps := s.tow.stamps + 1 } }
    (s.lockage.phase = .whole → exec .postingTransaction s = .next (s.ended .towLine moved)) ∧
    (s.lockage.phase = .breaking →
      exec .postingTransaction s = .next (s.ended .towLine (moved.lockageTaken
        (if moved.leftToBreak = 0 then .split else .breaking) moved.leftToBreak (if moved.leftToBreak = 0 then 1 else 0)))) ∧
    (s.lockage.phase = .remaking → exec .postingTransaction s = .next (s.ended .towLine
      (if moved.leftToMake = 0 then moved.madeWhole.raise .lockage
        else moved.lockageTaken .remaking moved.leftToMake 0))) := by
  intro s a t n m c seated granted phase listed winches bound apart free law serves undamaged move moved
  have mem : c ∈ s.couplings := (List.mem_filter.mp (serves ▸ List.mem_singleton_self c)).1
  have clean : c.header.bad = [] := Header.bad_eq_nil ((s.errorFree_iff.mp free).2.1 c mem) undamaged
  let y := (s.take .towLine).postedState a t c seated
  have freeNow : y.errorFree = true := State.postedState_free (s := s.take .towLine) free clean
  have once : (y.couplings.map (·.number)).Nodup := by
    obtain ⟨number, -, -⟩ := c.posted_keeps s.policy s.clock t seated
    have same : y.couplings.map (·.number) = s.couplings.map (·.number) :=
      map_update_key (key := Coupling.number) s.couplings number
    rewrite [same]
    exact (s.recordLaw_iff.mp law).2.1
  refine ⟨fun whole => ?_, fun breaking => ?_, fun remaking => ?_⟩
  · refine (State.posting_one (f := id) granted phase listed winches bound apart free law serves undamaged
      (by rewrite [whole]; decide) (fun x hx => ?_) fun u => ⟨rfl, rfl, rfl⟩).trans rfl
    exact Txn.lockageTest_whole (by rewrite [hx]; exact whole) true
  · refine (State.posting_one (f := fun u => u.lockageTaken (if u.leftToBreak = 0 then .split else .breaking) u.leftToBreak
      (if u.leftToBreak = 0 ∧ true then 1 else 0)) granted phase listed winches bound apart free law serves undamaged
      (by rewrite [breaking]; decide) (fun x hx => ?_) fun u => ⟨rfl, rfl, rfl⟩).trans ?_
    · exact Txn.lockageTest_breaking (by rewrite [hx]; exact freeNow) (by rewrite [hx]; exact breaking) true
    · have times : (if moved.leftToBreak = 0 ∧ true then 1 else 0) = if moved.leftToBreak = 0 then 1 else 0 := by simp
      refine congrArg (Host.Outcome.next ∘ settle) ?_
      rewrite [← times]
      rfl
  · refine (State.posting_one (f := fun u => if u.leftToMake = 0 then u.madeWhole.raise .lockage
      else u.lockageTaken .remaking u.leftToMake 0) granted phase listed winches bound apart free law serves undamaged
      (by rewrite [remaking]; decide) (fun x hx => ?_) fun u => ?_).trans ?_
    · rewrite [Txn.lockageTest_remaking (by rewrite [hx]; exact freeNow) (by rewrite [hx]; exact once) (by rewrite [hx]; exact remaking)]
      by_cases none : x.st.leftToMake = 0
      · simp only [Txn.on, none, if_true]
        rfl
      · simp only [Txn.on, none, if_false]
    · split <;> exact ⟨rfl, rfl, rfl⟩
    · refine congrArg (Host.Outcome.next ∘ settle) ?_
      have left : y.leftToMake = moved.leftToMake := rfl
      by_cases none : moved.leftToMake = 0
      · rewrite [if_pos none]
        dsimp only
        rewrite [if_pos (left.trans none)]
        rfl
      · rewrite [if_neg none]
        dsimp only
        rewrite [if_neg fun h => none (left.symm.trans h)]
        rfl

/-! ## The bow node (R144, R145) -/

/-- R109, R144: the two writes of leaving RUNNING for a state. -/
theorem Engine.stopped_eq (e : Engine) (new : UnitState) :
    Engine.renew { Engine.renew { e with allowed := 0, sent := 0, delivered := none, alarm := false, zeroTime := 0 }
      [11, 12, 13, 14, 17] with state := new } [15] = e.stopped new := by
  simp only [Engine.stopped, Engine.renew, Header.renew_renew]
  congr 1
  simp only [Header.renew]
  congr 1
  refine List.filter_congr fun p _ => ?_
  simp [List.contains_eq_mem, Bool.and_comm (!decide (p.1 = 15))]

section
variable {x : Txn} {e : Engine}

/-- Engine 5 written over itself. -/
def Txn.putBow (x : Txn) (e : Engine) : Txn :=
  x.on fun s => { s with engines := update (·.number == 5) (fun _ => e) s.engines }

theorem update_found {α : Type} {key : α → Nat} {k : Nat} {a : α} {l : List α} (once : (l.map key).Nodup)
    (found : l.find? (key · == k) = some a) (f : α → α) : update (key · == k) f l = update (key · == k) (fun _ => f a) l := by
  obtain ⟨rfl, mem⟩ := find?_key (key := key) found
  exact update_congr fun b hb same => by rw [eq_of_nodup_key once hb mem same]

namespace Txn

/-- R144: engine 5 takes a state. -/
theorem setBow_eq (once : (x.st.engines.map (·.number)).Nodup) (found : x.st.engine? 5 = some e) (new : UnitState) :
    x.setBow new = x.putBow (if e.state = .running ∧ new ≠ .running then e.stopped new else e.inState new) := by
  rewrite [Txn.setBow, found]
  dsimp only
  split
  · refine congrArg (fun l => x.on fun s => { s with engines := l }) ?_
    have twice := update_update (·.number == 5) (fun e : Engine => Engine.renew
      { e with allowed := 0, sent := 0, delivered := none, alarm := false, zeroTime := 0 } [11, 12, 13, 14, 17])
      (fun e => Engine.renew { e with state := new } [15]) x.st.engines fun _ => rfl
    refine twice.trans ((update_found (key := Engine.number) once found _).trans ?_)
    exact congrArg (fun d => update (·.number == 5) (fun _ => d) x.st.engines) (e.stopped_eq new)
  · exact congrArg (fun l => x.on fun s => { s with engines := l }) (update_found (key := Engine.number) once found _)

theorem putBow_free (free : x.st.errorFree = true) (clean : e.header.errorFree = true) :
    (x.putBow e).st.errorFree = true := by
  obtain ⟨h1, h2, h3, h4, h5, h6⟩ := x.st.errorFree_iff.mp free
  have engines := forall_mem_update (p := fun u : Engine => u.header.errorFree = true) (f := fun _ => e)
    (q := (·.number == 5)) (fun _ _ _ _ => clean) h3
  exact (State.errorFree_iff _).mpr ⟨h1, h2, engines, h4, h5, h6⟩

/-- R144: what the answer of a node at the bow barge makes of engine 5. -/
theorem bowAnswered_eq (free : x.st.errorFree = true) (once : (x.st.engines.map (·.number)).Nodup)
    (found : x.st.engine? 5 = some e) : x.bowAnswered false = (match e.state with
      | .rejected => x.putBow (e.inState .rejected)
      | .running => (x.putBow (e.stopped .rejected)).raise .node
      | .offline => (x.putBow (e.inState .rejected)).raise .node
      | .admitting => (x.putBow (e.inState .rejected)).raise .node) := by
  have stands : x.readBow = x := by rw [Txn.readBow, Txn.read_errorFree x free]
  rewrite [Txn.bowAnswered, stands, if_neg Bool.false_ne_true]
  dsimp only
  rewrite [found]
  dsimp only
  rewrite [Txn.setBow_eq once found]
  cases state : e.state <;> simp <;> rfl

theorem bowAnswered_running (once : (x.st.engines.map (·.number)).Nodup) (found : x.st.engine? 5 = some e) :
    x.bowAnswered true = x.putBow (e.inState .running) := by
  rw [Txn.bowAnswered, if_pos rfl, Txn.enterBow, if_pos rfl, Txn.setBow_eq once found, if_neg (by simp)]

/-- R145: the report written into engine 5. -/
theorem postBow_eq (free : x.st.errorFree = true) (once : (x.st.engines.map (·.number)).Nodup)
    (found : x.st.engine? 5 = some e) (d : Int) (alarm : Bool) : x.postBow (d, alarm) =
      if e.header.damaged then x
      else (x.putBow { e with delivered := some d, alarm := alarm }).raiseIf (alarm && !e.alarm) .node := by
  have sound : x.st.sound .engines 5 = !e.header.damaged := by simp [State.sound, State.header?, found]
  rewrite [Txn.postBow, Txn.read_errorFree x free, sound]
  cases undamaged : e.header.damaged with
  | true => rfl
  | false =>
    have clean := Header.bad_eq_nil ((x.st.errorFree_iff.mp free).2.2.1 e (find?_key (key := Engine.number) found).2)
      undamaged
    have written : (x.modEngine 5 [13, 14] fun e => { e with delivered := some d, alarm := alarm }) =
        x.putBow { e with delivered := some d, alarm := alarm } :=
      congrArg (fun l => x.on fun s => { s with engines := l }) ((update_found (key := Engine.number) once found _).trans
        (congrArg (fun d => update (·.number == 5) (fun _ => d) x.st.engines)
          (Engine.renew_clean { e with delivered := some d, alarm := alarm } _ clean)))
    simp only [Bool.not_false, Bool.false_eq_true, if_false, found, written]

end Txn

end

/-- R60, R144: a posting of a node at the bow barge that serves no coupling. -/
theorem Txn.postingWork_bow {s : State} {a h : Nat} {n : Node} (listed : s.node? a = some n)
    (bound : s.bound a = some (.barge h)) (bow : s.bowBarge? = some h)
    (idle : ∀ c ∈ s.couplings, c.tendedBy (.barge h) = false) (readings : List (Nat × Bool))
    (report : Option (Int × Bool)) :
    Txn.postingWork a readings report (Txn.start s) =
      (match report with
        | none => (Txn.start s).bowAnswered n.bow
        | some r => ((Txn.start s).bowAnswered n.bow).postBow r).modTow fun t => { t with phase := .enquiryDue a } := by
  have none (k : Nat) : s.tendedByWinch (.barge h) k = [] := by
    refine List.map_eq_nil_iff.mpr (List.filter_eq_nil_iff.mpr fun c hc serves => ?_)
    have tending := (c.tendedByWinch_iff _ k).mp serves
    have tends := idle c hc
    rewrite [Coupling.tendedBy, tending] at tends
    simp at tends
  have winches : ∀ (rs : List (Nat × Bool)) (k : Nat), (Txn.start s).postWinches (.barge h) k rs = Txn.start s := by
    intro rs
    induction rs with
    | nil => exact fun k => rfl
    | cons r rs ih =>
      intro k
      have first : (Txn.start s).postWinch (.barge h) k r = Txn.start s :=
        congrArg (fun keys => (Txn.start s).forKeys keys fun c y => y.postReading c r.1 r.2) (none k)
      rewrite [Txn.postWinches, first]
      exact ih (k + 1)
  have here : (Txn.start s).st.node? a = some n := listed
  have named : (Txn.start s).st.bound a = some (.barge h) := bound
  have atBow : (Txn.start s).st.bowBarge?.map Member.barge = some (.barge h) := by
    rw [show (Txn.start s).st.bowBarge? = some h from bow, Option.map_some]
  rewrite [Txn.postingWork, here]
  dsimp only
  rewrite [named]
  dsimp only
  rewrite [Txn.postMember, winches]
  dsimp only
  rewrite [if_pos atBow] <;> cases report <;> rfl

/-- R60, R144: what a posting at the bow barge leaves. -/
def State.bowWritten (s : State) (a : Nat) (new : Engine) (noticed : Bool) : State :=
  { s with
    engines := update (·.number == 5) (fun _ => new) s.engines
    notices := if noticed then s.notices.raise .node else s.notices
    tow := { s.tow with phase := .enquiryDue a } }

section
variable {s : State} {a h : Nat} {n : Node} {e : Engine} {readings : List (Nat × Bool)} {report : Option (Int × Bool)}

/-- R60: the end of a posting at the bow barge. -/
theorem State.posting_bow (granted : s.granted .towLine = true) (phase : s.tow.phase = .posting a readings report)
    {new : Engine} {noticed : Bool} (work : Txn.postingWork a readings report (Txn.start (s.take .towLine)) =
      Txn.start ((s.take .towLine).bowWritten a new noticed)) :
    exec .postingTransaction s = .next (s.ended .towLine (s.bowWritten a new noticed)) := by
  have e : exec .postingTransaction s = .next s.posting := rfl
  have runs : s.posting = s.transact .towLine (Txn.postingWork a readings report) := by rw [State.posting, phase]
  rewrite [e, runs, State.transact_granted _ _ _ granted, work]
  have ends : (Txn.start ((s.take .towLine).bowWritten a new noticed)).commit (s.take .towLine) =
      (s.take .towLine).bowWritten a new noticed := Txn.commit_bound rfl rfl fun _ _ => rfl
  exact congrArg (Host.Outcome.next ∘ settle) ends

end

/-- Settles O36: one coupling's row of the table with the completion test of each phase, and engine 5's table. -/
theorem postingMovesACoupling : Obligations.PostingMovesACoupling := by
  refine ⟨fun s a t n m c seated granted phase listed winches bound apart free law serves undamaged => ?_,
    fun s a h n e readings report granted phase listed bound bow found free law idle => ?_⟩
  · intro move moved
    obtain ⟨whole, breaking, remaking⟩ :=
      posting_moves s a t n m c seated granted phase listed winches bound apart free law serves undamaged
    refine ⟨whole, ?_, ?_⟩
    · intro phase left
      exact ⟨moved.decideBoatCut, State.boatCutDecided_of (s := moved) rfl rfl rfl rfl rfl, breaking phase⟩
    · intro phase left
      have ends : exec .postingTransaction s = .next (s.ended .towLine
          (if moved.leftToMake = 0 then moved.madeWhole.raise .lockage
            else moved.lockageTaken .remaking moved.leftToMake 0)) := remaking phase
      split
      · next none =>
        refine ends.trans ?_
        rewrite [if_pos (show moved.leftToMake = 0 from none)]
        rfl
      · next some =>
        refine ⟨moved.decideBoatCut, State.boatCutDecided_of (s := moved) rfl rfl rfl rfl rfl, ends.trans ?_⟩
        rewrite [if_neg (show ¬moved.leftToMake = 0 from some), show Phase.remaking = moved.lockage.phase from phase.symm]
        rfl
  · intro write
    have once : (s.engines.map (·.number)).Nodup := (s.recordLaw_iff.mp law).2.2.1
    let x := Txn.start (s.take .towLine)
    have freeNow : x.st.errorFree = true := free
    have foundNow : x.st.engine? 5 = some e := found
    have work := Txn.postingWork_bow (s := s.take .towLine) listed bound bow idle readings report
    refine ⟨fun d alarm kind reported => ?_, fun kind reported => ?_⟩
    · subst reported
      have running := Txn.bowAnswered_running once foundNow
      have freeRunning : (x.putBow (e.inState .running)).st.errorFree = true :=
        Txn.putBow_free freeNow (errorFree_of_renewed ((s.errorFree_iff.mp free).2.2.1 e
          (find?_key (key := Engine.number) found).2))
      have foundRunning : (x.putBow (e.inState .running)).st.engine? 5 = some (e.inState .running) :=
        find?_put (key := Engine.number) foundNow (find?_key (key := Engine.number) found).1
      have onceRunning : ((x.putBow (e.inState .running)).st.engines.map (·.number)).Nodup := by
        have same : (x.putBow (e.inState .running)).st.engines.map (·.number) = s.engines.map (·.number) :=
          map_update_key (key := Engine.number) s.engines (find?_key (key := Engine.number) found).1
        rewrite [same]
        exact once
      rewrite [kind] at work
      dsimp only at work
      rewrite [running, Txn.postBow_eq freeRunning onceRunning foundRunning] at work
      have header : (e.inState .running).header.damaged = e.header.damaged := rfl
      rewrite [header] at work
      cases damaged : e.header.damaged with
      | true =>
        rewrite [damaged, if_pos rfl] at work
        exact State.posting_bow granted phase (noticed := false) (work.trans rfl)
      | false =>
        have clean := Header.bad_eq_nil ((s.errorFree_iff.mp free).2.2.1 e (find?_key (key := Engine.number) found).2)
          damaged
        have renewed : e.inState .running = { e with state := .running } := Engine.renew_clean _ _ clean
        have twice := update_put (key := Engine.number) (k := 5) (a := { e with state := .running })
          (find?_key (key := Engine.number) found).1
          (fun _ => { e with state := .running, delivered := some d, alarm := alarm }) s.engines
        rewrite [damaged, if_neg Bool.false_ne_true, renewed] at work
        rewrite [if_neg Bool.false_ne_true]
        refine State.posting_bow granted phase (work.trans ?_)
        rewrite [State.bowWritten, show (s.take .towLine).engines = s.engines from rfl, ← twice]
        cases (alarm && !e.alarm) <;> rfl
    · subst reported
      rewrite [kind, Txn.bowAnswered_eq freeNow once foundNow] at work
      cases state : e.state with
      | rejected => 
        simp only [state] at work
        exact State.posting_bow granted phase (work.trans rfl)
      | running =>
        simp only [state] at work
        exact State.posting_bow granted phase (noticed := true) (work.trans rfl)
      | offline | admitting => 
        simp only [state] at work
        exact State.posting_bow granted phase (noticed := true) (work.trans rfl)

/-! The orders of a BREAK and of a REMAKE over couplings free of error (R83, R84, R182, R184), and the slots that the
commands of a transaction end in (R61). -/

/-! ## One order given -/

/-- The work on one coupling: its record written, with commands. -/
def Txn.writes (x : Txn) (c : Coupling) (commands : List (Member × Nat × WinchCommand)) (touched : Bool) : Txn :=
  { x.putCoupling c with commands := x.commands ++ commands, touched := touched }

namespace Coupling

/-- A command for a coupling's winch. -/
def command (c : Coupling) (w : WinchCommand) : List (Member × Nat × WinchCommand) :=
  match c.tending with
  | .hand => []
  | .winch m k => [(m, k, w)]

/-- R83: the commands of a RELEASE. -/
def releaseCommands (c : Coupling) : List (Member × Nat × WinchCommand) :=
  if c.state = .unlashed ∧ c.tendOrder ≠ .make then [] else c.command .payOut

/-- R84: the commands of a MAKE. -/
def makeCommands (c : Coupling) (p : Policy) : List (Member × Nat × WinchCommand) :=
  if c.state = .made ∨ c.state = .strained ∨ c.state = .overload then [] else c.command (.heave (makeUpTension p c))

end Coupling

section
variable {x : Txn} {c : Coupling}

namespace Txn

theorem placeFor_eq (x : Txn) (c : Coupling) (w : WinchCommand) :
    x.placeFor c w = { x with commands := x.commands ++ c.command w } := Txn.placeFor_spec x c w

namespace HasCoupling

theorem writes_self (h : x.HasCoupling c) : x.writes c [] x.touched = x := by
  rw [Txn.writes, h.putCoupling_self, List.append_nil]

/-- R83: RELEASE given to a coupling. -/
theorem giveRelease (h : x.HasCoupling c) :
    ∃ b, x.giveRelease c.number = x.writes c.givenRelease c.releaseCommands b := by
  have mod (f : Coupling → Coupling) (ws : List Nat) (number : (f c).number = c.number)
      (header : (f c).header = c.header) : x.modCoupling c.number ws f = x.putCoupling (f c) := h.modCoupling number header ws
  rewrite [Txn.giveRelease, h.found]
  dsimp only
  cases hs : c.state with
  | settling | made | slack | strained | overload =>
    refine ⟨true, ?_⟩
    dsimp only
    rewrite [mod _ _ rfl rfl, Txn.placeFor_eq]
    simp only [Coupling.givenRelease, Coupling.releaseCommands, hs, reduceCtorEq, false_and, if_false]
    rfl
  | releasing =>
    refine ⟨x.touched, ?_⟩
    dsimp only
    rewrite [Txn.placeFor_eq]
    have stands : x.putCoupling c.givenRelease = x := by
      simp only [Coupling.givenRelease, hs]
      exact h.putCoupling_self
    rewrite [Txn.writes, stands]
    simp only [Coupling.releaseCommands, hs, reduceCtorEq, false_and, if_false]
  | lost =>
    refine ⟨true, ?_⟩
    dsimp only
    rewrite [mod _ _ rfl rfl, Txn.placeFor_eq]
    simp only [Coupling.givenRelease, Coupling.releaseCommands, hs, reduceCtorEq, false_and, if_false]
    rfl
  | unlashed =>
    dsimp only
    cases ho : c.tendOrder with
    | make =>
      refine ⟨true, ?_⟩
      dsimp only
      rewrite [mod _ _ rfl rfl, Txn.placeFor_eq]
      simp only [Coupling.givenRelease, Coupling.releaseCommands, hs, ho, ne_eq, not_true_eq_false, and_false, if_false,
        if_true]
      rfl
    | none | release =>
      refine ⟨x.touched, ?_⟩
      have stands : c.givenRelease = c := by simp [Coupling.givenRelease, hs, ho]
      have quiet : c.releaseCommands = [] := by simp [Coupling.releaseCommands, hs, ho]
      rewrite [stands, quiet]
      exact h.writes_self.symm

/-- R84: MAKE given to a coupling. -/
theorem giveMake (h : x.HasCoupling c) :
    ∃ b, x.giveMake c.number = x.writes (c.givenMake x.st.clock) (c.makeCommands x.st.policy) b := by
  have mod (f : Coupling → Coupling) (ws : List Nat) (number : (f c).number = c.number)
      (header : (f c).header = c.header) : x.modCoupling c.number ws f = x.putCoupling (f c) := h.modCoupling number header ws
  rewrite [Txn.giveMake, h.found]
  dsimp only
  rewrite [mod _ _ rfl rfl, mod _ _ rfl rfl, mod _ _ rfl rfl]
  cases hs : c.state with
  | unlashed | lost | releasing =>
    refine ⟨true, ?_⟩
    dsimp only
    rewrite [Txn.placeFor_eq]
    simp only [Coupling.givenMake, Coupling.makeCommands, hs, reduceCtorEq, or_false, if_false]
    split <;> rfl
  | settling =>
    refine ⟨true, ?_⟩
    dsimp only
    rewrite [Txn.placeFor_eq]
    simp only [Coupling.givenMake, Coupling.makeCommands, hs, reduceCtorEq, or_false, if_false]
    rfl
  | slack =>
    refine ⟨x.touched, ?_⟩
    dsimp only
    rewrite [Txn.placeFor_eq]
    have stands : x.putCoupling (c.givenMake x.st.clock) = x := by
      simp only [Coupling.givenMake, hs]
      exact h.putCoupling_self
    rewrite [Txn.writes, stands]
    simp only [Coupling.makeCommands, hs, reduceCtorEq, or_false, if_false]
  | made | strained | overload =>
    refine ⟨x.touched, ?_⟩
    have stands : c.givenMake x.st.clock = c := by simp [Coupling.givenMake, hs]
    have quiet : c.makeCommands x.st.policy = [] := by simp [Coupling.makeCommands, hs]
    rewrite [stands, quiet]
    exact h.writes_self.symm

end HasCoupling

end Txn

end

namespace Coupling

theorem givenRelease_keeps (c : Coupling) : c.givenRelease.number = c.number ∧
    c.givenRelease.header = c.header ∧ c.givenRelease.crossing = c.crossing ∧ c.givenRelease.endA = c.endA ∧
    c.givenRelease.endB = c.endB := by
  unfold Coupling.givenRelease
  split
  case h_8 => split <;> exact ⟨rfl, rfl, rfl, rfl, rfl⟩
  all_goals exact ⟨rfl, rfl, rfl, rfl, rfl⟩

theorem givenMake_keeps (c : Coupling) (clock : Nat) : (c.givenMake clock).number = c.number ∧
    (c.givenMake clock).header = c.header ∧ (c.givenMake clock).crossing = c.crossing ∧
    (c.givenMake clock).endA = c.endA ∧ (c.givenMake clock).endB = c.endB := by
  have followed : ∀ d : Coupling, d = (if c.seated = some true then
      { c with state := .settling, tendOrder := .make, debounce := some clock }
      else { c with state := .unlashed, tendOrder := .make }) →
      d.number = c.number ∧ d.header = c.header ∧ d.crossing = c.crossing ∧ d.endA = c.endA ∧ d.endB = c.endB := by
    intro d hd
    subst hd
    split <;> exact ⟨rfl, rfl, rfl, rfl, rfl⟩
  unfold Coupling.givenMake
  cases c.state with
  | unlashed | lost | releasing => exact followed _ rfl
  | settling | slack | made | strained | overload => exact ⟨rfl, rfl, rfl, rfl, rfl⟩

/-! ## The orders of every crossing coupling (R182, R184) -/

/-- R182, R184: an undamaged winch-tended coupling whose crossing flag is set. -/
def orderable (c : Coupling) : Bool := !c.header.damaged && c.crossing && c.winchTended

end Coupling

/-- An order as a work on a coupling: what it makes of the record and the commands that it produces, in states that
share a clock and a policy with `s`. -/
def Gives (s : State) (give : Nat → Txn → Txn) (g : Coupling → Coupling)
    (commands : Coupling → List (Member × Nat × WinchCommand)) : Prop :=
  (∀ c, (g c).number = c.number ∧ (g c).header = c.header) ∧
    ∀ (y : Txn) (c : Coupling), y.st.clock = s.clock → y.st.policy = s.policy → y.HasCoupling c →
      ∃ b, give c.number y = y.writes (g c) (commands c) b

section
variable {words : List Nat} {give : Nat → Txn → Txn} {g : Coupling → Coupling}
  {commands : Coupling → List (Member × Nat × WinchCommand)}

namespace Txn

/-- R182, R184: the work on one coupling of those ordered. -/
def orderOne (words : List Nat) (give : Nat → Txn → Txn) (k : Nat) (y : Txn) : Txn :=
  match y.read .couplings k [15] with
  | (z, false) => z
  | (z, true) =>
    match z.st.coupling? k with
    | none => z
    | some c =>
      if c.crossing then
        match z.read .couplings k words with
        | (w, false) => w
        | (w, true) => give k w
      else z

theorem orderCrossing_eq (x : Txn) : x.orderCrossing words give =
    x.forKeys x.st.winchCouplings (Txn.orderOne words give) := rfl

theorem orderOne_free {s : State} (gives : Gives s give g commands) {y : Txn} {c : Coupling}
    (clock : y.st.clock = s.clock) (policy : y.st.policy = s.policy) (free : y.st.errorFree = true)
    (once : (y.st.couplings.map (·.number)).Nodup) (found : y.st.coupling? c.number = some c)
    (tended : c.winchTended = true) :
    ∃ b, Txn.orderOne words give c.number y =
      if c.orderable then y.writes (g c) (commands c) b else y := by
  have sound : y.st.sound .couplings c.number = !c.header.damaged := by simp [State.sound, State.header?, found]
  rewrite [Txn.orderOne, Txn.read_errorFree y free, sound]
  cases undamaged : c.header.damaged with
  | true => exact ⟨true, by simp [Coupling.orderable, undamaged]⟩
  | false =>
    have has : y.HasCoupling c := ⟨found, once, Header.bad_eq_nil ((y.st.errorFree_iff.mp free).2.1 c
      (find?_key (key := Coupling.number) found).2) undamaged⟩
    obtain ⟨b, given⟩ := gives.2 y c clock policy has
    refine ⟨b, ?_⟩
    simp only [Bool.not_false, found]
    cases crossing : c.crossing with
    | false => simp [Coupling.orderable, crossing]
    | true =>
      rewrite [if_pos rfl, Txn.read_errorFree y free, sound, undamaged]
      refine given.trans ?_
      simp [Coupling.orderable, crossing, tended, undamaged]

/-- R182, R184: the orders of couplings that stand under their numbers, one after the other. -/
theorem forKeys_orderOne {s : State} (gives : Gives s give g commands) : ∀ (l : List Coupling) (y : Txn),
    (l.map (·.number)).Nodup → (∀ c ∈ l, y.st.coupling? c.number = some c) → (∀ c ∈ l, c.winchTended = true) →
    (y.st.couplings.map (·.number)).Nodup → y.st.errorFree = true → y.st.clock = s.clock → y.st.policy = s.policy →
    ∃ b, y.forKeys (l.map (·.number)) (Txn.orderOne words give) =
      { st := { y.st with
          couplings := update (fun c => decide (c ∈ l.filter Coupling.orderable)) g y.st.couplings }
        commands := y.commands ++ (l.filter Coupling.orderable).flatMap commands
        touched := b }
  | [], y, _, _, _, _, _, _, _ => ⟨y.touched, by simp [Txn.forKeys, update]⟩
  | c :: l, y, keys, found, tended, once, free, clock, policy => by
    obtain ⟨fresh, keys⟩ := List.nodup_cons.mp keys
    have apart : ∀ d ∈ l, d.number ≠ c.number := fun d hd same => fresh (List.mem_map.mpr ⟨d, hd, same⟩)
    have foundHere := found c (by simp)
    have rest := fun z => Txn.forKeys_orderOne gives l z keys
    have first : y.forKeys ((c :: l).map (·.number)) (Txn.orderOne words give) =
        (Txn.orderOne words give c.number y).forKeys (l.map (·.number)) (Txn.orderOne words give) := rfl
    obtain ⟨b, one⟩ := Txn.orderOne_free (words := words) gives clock policy free once foundHere (tended c (by simp))
    rewrite [first, one]
    cases ordered : c.orderable with
    | false =>
      rewrite [if_neg Bool.false_ne_true, List.filter_cons_of_neg (by simp [ordered])]
      exact rest y (fun d hd => found d (by simp [hd])) (fun d hd => tended d (by simp [hd])) once free clock policy
    | true =>
      obtain ⟨number, header⟩ := gives.1 c
      have undamaged : c.header.damaged = false := by
        simp only [Coupling.orderable, Bool.and_eq_true, Bool.not_eq_true'] at ordered
        exact ordered.1.1
      have clean : (g c).header.bad = [] := header ▸ Header.bad_eq_nil ((y.st.errorFree_iff.mp free).2.1 c
        (find?_key (key := Coupling.number) foundHere).2) undamaged
      have others : ∀ d ∈ l, (y.writes (g c) (commands c) b).st.coupling? d.number = some d := fun d hd => by
        have stays := find?_update_of_ne (key := Coupling.number) (a := g c) rfl
          (fun same => apart d hd (same.symm.trans number)) y.st.couplings
        exact stays.trans (found d (by simp [hd]))
      have unique : ((y.writes (g c) (commands c) b).st.couplings.map (·.number)).Nodup := by
        have same : (y.writes (g c) (commands c) b).st.couplings.map (·.number) = y.st.couplings.map (·.number) :=
          map_update_key (key := Coupling.number) y.st.couplings rfl
        rewrite [same]
        exact once
      rewrite [if_pos rfl, List.filter_cons_of_pos ordered]
      obtain ⟨b', ends⟩ := rest _ others (fun d hd => tended d (by simp [hd])) unique
        (Txn.putCoupling_free (x := y) free clean) clock policy
      refine ⟨b', ends.trans ?_⟩
      have table : update (fun d => decide (d ∈ l.filter Coupling.orderable)) g
          (update (·.number == (g c).number) (fun _ => g c) y.st.couplings) =
          update (fun d => decide (d ∈ c :: l.filter Coupling.orderable)) g y.st.couplings := by
        rewrite [number]
        simp only [update, List.map_map]
        refine List.map_congr_left fun u hu => ?_
        by_cases same : u.number = c.number
        · obtain rfl := eq_of_nodup_key once hu (find?_key (key := Coupling.number) foundHere).2 same
          have absent : g u ∉ l := fun h => apart _ h number
          simp [absent]
        · have other : u ≠ c := fun h => same (by rw [h])
          simp [same, other]
      rewrite [List.flatMap_cons, ← List.append_assoc, ← table]
      rfl

/-- R182, R184: the orders of every undamaged winch-tended crossing coupling. -/
theorem orderCrossing_free {x : Txn} (gives : Gives x.st give g commands) (free : x.st.errorFree = true)
    (once : (x.st.couplings.map (·.number)).Nodup) : ∃ b, x.orderCrossing words give =
      { st := { x.st with couplings := x.st.couplings.map fun c => if c.orderable then g c else c }
        commands := x.commands ++ (x.st.couplings.filter Coupling.orderable).flatMap commands
        touched := b } := by
  let l := x.st.couplings.filter Coupling.winchTended
  have members : ∀ c ∈ l, c ∈ x.st.couplings ∧ c.winchTended = true := fun c hc => List.mem_filter.mp hc
  have ordered : l.filter Coupling.orderable = x.st.couplings.filter Coupling.orderable := by
    rewrite [List.filter_filter]
    refine List.filter_congr fun c _ => ?_
    rw [Coupling.orderable, Bool.and_assoc, Bool.and_self]
  obtain ⟨b, work⟩ := Txn.forKeys_orderOne (words := words) gives l x (once.sublist (List.filter_sublist.map _))
    (fun c hc => find?_eq_some_of_nodup once (members c hc).1) (fun c hc => (members c hc).2) once free rfl rfl
  refine ⟨b, work.trans ?_⟩
  have table : update (fun c => decide (c ∈ l.filter Coupling.orderable)) g x.st.couplings =
      x.st.couplings.map fun c => if c.orderable then g c else c :=
    List.map_congr_left fun c hc => by simp [ordered, hc]
  rw [table, ordered]

end Txn

end

theorem gives_release (s : State) :
    Gives s (fun k z => z.giveRelease k) Coupling.givenRelease Coupling.releaseCommands :=
  ⟨fun c => ⟨c.givenRelease_keeps.1, c.givenRelease_keeps.2.1⟩, fun _ _ _ _ has => has.giveRelease⟩

theorem gives_make (s : State) :
    Gives s (fun k w => w.giveMake k) (·.givenMake s.clock) (·.makeCommands s.policy) :=
  ⟨fun c => ⟨(c.givenMake_keeps s.clock).1, (c.givenMake_keeps s.clock).2.1⟩, fun y c clock policy has => by
    rewrite [← clock, ← policy]
    exact has.giveMake⟩

/-! ## Where commands end (R61) -/

section
variable {s : State} {m : Member} {n : Node}

/-- R61: what placing a command makes of the listed node of a member. -/
theorem State.nodeOf_placeCommand (listed : s.nodeOf m = some n) (m' : Member) (j : Nat) (w : WinchCommand) :
    (s.placeCommand m' j w).nodeOf m =
      some (if m' = m ∧ j ≤ n.winches then n.put j w s.tow.stamps else n) := by
  have bound : s.bound n.address = some m := by simpa using List.find?_some listed
  rewrite [State.placeCommand]
  cases other : s.nodeOf m' with
  | none =>
    have apart : m' ≠ m := fun same => by
      rewrite [same, listed] at other
      cases other
    rewrite [if_neg fun h => apart h.1]
    exact listed
  | some n' =>
    have bound' : s.bound n'.address = some m' := by simpa using List.find?_some other
    dsimp only
    by_cases winch : j ≤ n'.winches
    · rewrite [if_pos winch]
      have moved := find?_update (fun d : Node => d.address == n'.address) (fun d => s.bound d.address == some m)
        (fun d => d.put j w s.tow.stamps) s.tow.nodes fun _ => rfl
      have here : s.tow.nodes.find? (fun d => s.bound d.address == some m) = some n := listed
      rewrite [here, Option.map_some] at moved
      refine Eq.trans (b := some (if n.address == n'.address then n.put j w s.tow.stamps else n)) moved ?_
      by_cases same : m' = m
      · subst same
        obtain rfl : n' = n := Option.some.inj (other.symm.trans listed)
        rw [if_pos (by simp), if_pos ⟨rfl, winch⟩]
      · have apart : n.address ≠ n'.address := fun h => same (Option.some.inj (bound'.symm.trans (h ▸ bound)))
        rw [if_neg (by simpa using apart), if_neg fun h => same h.1]
    · rewrite [if_neg winch]
      refine Eq.trans (b := some n) listed ?_
      by_cases same : m' = m
      · subst same
        obtain rfl : n' = n := Option.some.inj (other.symm.trans listed)
        rw [if_neg fun h => winch h.2]
      · rw [if_neg fun h => same h.1]

namespace Node

/-- R61: a winch's slot holds the command, newly placed. -/
def hasCommand (n : Node) (k : Nat) (w : WinchCommand) : Prop :=
  ∃ o : Slot, n.slots[k - 1]? = some (some o) ∧ o.command = w ∧ o.failures = 0

theorem put_hasCommand {k j : Nat} {w v : WinchCommand} (one : 1 ≤ k) (winch : k ≤ n.winches)
    (slots : n.slots.length = n.winches) (same : j - 1 = k - 1 → v = w) (stamp : Nat)
    (before : n.hasCommand k w ∨ j - 1 = k - 1) : (n.put j v stamp).hasCommand k w := by
  by_cases here : j - 1 = k - 1
  · refine ⟨{ command := v, stamp := stamp, failures := 0 }, ?_, same here, rfl⟩
    rewrite [Node.put, here]
    exact List.getElem?_set_self (by omega)
  · obtain ⟨o, held, command, failures⟩ := before.resolve_right here
    exact ⟨o, (List.getElem?_set_ne here).trans held, command, failures⟩

end Node

/-- R61: commands of which every one for the winch is the same leave it in the slot. -/
theorem State.placeCommands_has {k : Nat} {w : WinchCommand} (one : 1 ≤ k) :
    ∀ (cs : List (Member × Nat × WinchCommand)) (s : State) (n : Node), s.nodeOf m = some n → k ≤ n.winches →
      n.slots.length = n.winches → (∀ c ∈ cs, c.1 = m → c.2.1 - 1 = k - 1 → c.2.2 = w) →
      (n.hasCommand k w ∨ (m, k, w) ∈ cs) →
      ∃ d, (s.placeCommands cs).nodeOf m = some d ∧ d.address = n.address ∧ d.hasCommand k w
  | [], s, n, listed, _, _, _, holds => ⟨n, listed, rfl, by simpa using holds⟩
  | (m', j, v) :: cs, s, n, listed, winch, slots, same, holds => by
    have next := State.nodeOf_placeCommand listed m' j v
    have later : ∀ c ∈ cs, c.1 = m → c.2.1 - 1 = k - 1 → c.2.2 = w := fun c hc => same c (by simp [hc])
    by_cases here : m' = m ∧ j ≤ n.winches
    · rewrite [if_pos here] at next
      have first : j - 1 = k - 1 → v = w := fun h => same (m', j, v) (by simp) here.1 h
      refine State.placeCommands_has one cs _ (n.put j v s.tow.stamps) next winch ?_ later ?_
      · exact (List.length_set ..).trans slots
      · by_cases at' : j - 1 = k - 1
        · exact .inl (Node.put_hasCommand one winch slots first _ (.inr at'))
        · refine holds.imp (fun had => Node.put_hasCommand one winch slots first _ (.inl had)) fun mem => ?_
          refine (List.mem_cons.mp mem).resolve_left fun e => at' ?_
          simp only [Prod.mk.injEq] at e
          rw [e.2.1]
    · rewrite [if_neg here] at next
      refine State.placeCommands_has one cs _ n next winch slots later (holds.imp_right fun mem => ?_)
      refine (List.mem_cons.mp mem).resolve_left fun e => here ?_
      simp only [Prod.mk.injEq] at e
      exact ⟨e.1.symm, e.2.1 ▸ winch⟩

end

/-! REMAKE (R183, R184, R186): the makes, the completion test, and the slots that the HEAVEs stand in. -/

/-! ## The end of a BREAK or a REMAKE -/

/-- R182, R184: what the end of a BREAK or a REMAKE that has left the records as in `z` leaves. -/
structure LockageEnd (s : State) (q : Request) (qs : List Request) (z : State)
    (commands : List (Member × Nat × WinchCommand)) (t : State) : Prop where
  barges : t.barges = s.barges
  strings : t.strings = s.strings
  policy : t.policy = s.policy
  requests : t.console.requests = qs
  responses : t.console.responses = s.console.responses ++ [{ tag := q.tag, code := q.code, result := .done, items :=
    [item 1 t.lockage.phase.code, item 5 t.lockage.boatCut.code, item 6 t.lockage.remaining] }]
  lockage : t.lockage = z.lockage
  notices : t.notices = z.notices
  couplings : t.couplings = z.couplings
  nodes : t.tow.nodes = (z.placeCommands commands).tow.nodes

/-- The records that a BREAK or a REMAKE leaves alone. -/
structure LockageKeeps (s z : State) : Prop where
  barges : z.barges = s.barges
  strings : z.strings = s.strings
  policy : z.policy = s.policy
  tow : z.tow = s.tow
  console : z.console = s.console

section
variable {c : Instr} {code : Byte} {body : Request → Txn → Answer} {s z : State} {q : Request} {qs : List Request}
  {commands : List (Member × Nat × WinchCommand)}

theorem exec_lockage (hb : requestBodyOf c = some body) (hc : requestCodeOf c = some code) (hs : s.serves q qs)
    (hq : q.code = code) (hy : body q s.opened = lockageAnswer { st := z, commands := commands, touched := false })
    (keeps : LockageKeeps s z) : ∃ t, exec c s = .next t ∧ LockageEnd s q qs z commands t := by
  have ends : Txn.commit { st := z, commands := commands, touched := false } (s.take .console) =
      z.placeCommands commands := by
    have bound : s.bound = z.bound := State.bound_congr _ _ keeps.barges.symm keeps.policy.symm
    rw [Txn.commit, if_neg Bool.false_ne_true, Txn.settleBindings_same _ _ fun n _ => congrFun bound _]
  refine ⟨_, exec_answer hb hc hs hq hy, ?_⟩
  rewrite [ends]
  obtain ⟨tow, placed⟩ := State.placeCommands_spec commands z
  rewrite [placed]
  exact {
    barges := (settle_barges _).trans keeps.barges
    strings := (settle_strings _).trans keeps.strings
    policy := (settle_policy _).trans keeps.policy
    requests := settle_console_requests _
    responses := by
      rw [settle_console_responses, settle_lockage, keeps.console]
    lockage := settle_lockage _
    notices := settle_notices _
    couplings := settle_couplings _
    nodes := by rw [settle_tow_nodes, placed] }

/-- R61: the slot of a winch whose commands are all the same. -/
theorem LockageEnd.slot {t : State} (ended : LockageEnd s q qs z commands t) (keeps : LockageKeeps s z) {m : Member}
    {k : Nat} {n : Node} {w : WinchCommand} (listed : s.nodeOf m = some n) (one : 1 ≤ k) (winch : k ≤ n.winches)
    (slots : n.slots.length = n.winches) (mem : (m, k, w) ∈ commands)
    (same : ∀ e ∈ commands, e.1 = m → e.2.1 - 1 = k - 1 → e.2.2 = w) :
    ∃ d ∈ t.tow.nodes, d.address = n.address ∧ ∃ o : Slot, d.slots[k - 1]? = some (some o) ∧
      o.command = w ∧ o.failures = 0 := by
  have bound : z.bound = s.bound := State.bound_congr _ _ keeps.barges keeps.policy
  have here : z.nodeOf m = some n := by
    rewrite [State.nodeOf, bound, keeps.tow]
    exact listed
  obtain ⟨d, found, address, has⟩ := State.placeCommands_has one commands z n here winch slots same (.inr mem)
  exact ⟨d, ended.nodes ▸ List.mem_of_find?_eq_some found, address, has⟩

end

namespace Coupling

theorem mem_command {c : Coupling} {w : WinchCommand} {e : Member × Nat × WinchCommand} :
    e ∈ c.command w ↔ c.tending = .winch e.1 e.2.1 ∧ e.2.2 = w := by
  rewrite [Coupling.command]
  cases c.tending with
  | hand => simp
  | winch m k => 
    obtain ⟨m', k', v⟩ := e
    simp only [List.mem_singleton, Prod.mk.injEq, Tending.winch.injEq]
    constructor
    · rintro ⟨rfl, rfl, rfl⟩
      exact ⟨⟨rfl, rfl⟩, rfl⟩
    · rintro ⟨⟨rfl, rfl⟩, rfl⟩
      exact ⟨rfl, rfl, rfl⟩

theorem orderable_iff (c : Coupling) : c.orderable = true ↔
    c.header.damaged = false ∧ c.crossing = true ∧ c.winchTended = true := by
  simp [Coupling.orderable, and_assoc]

theorem winchTended_of {c : Coupling} {m : Member} {k : Nat} (tending : c.tending = .winch m k) :
    c.winchTended = true := by simp [Coupling.winchTended, tending]

end Coupling

/-! ## REMAKE (R184) -/

namespace State

/-- R184: the state with the makes given, before the completion test. -/
def remade (s : State) : State :=
  { s with
    lockage := { s.lockage with phase := .remaking }
    notices := s.notices.raise .lockage
    couplings := s.couplings.map fun c => if c.orderable then c.givenMake s.clock else c }

/-- R183, R184: what a REMAKE leaves. -/
def remakeEnd (s : State) : State :=
  if s.remade.leftToMake = 0 then s.remade.madeWhole.raise .lockage
  else s.remade.lockageTaken .remaking s.remade.leftToMake 0

/-- R184: the commands of the makes. -/
def makes (s : State) : List (Member × Nat × WinchCommand) :=
  (s.couplings.filter Coupling.orderable).flatMap (·.makeCommands s.policy)

end State

theorem errorFree_of_ordered {s t : State} {g : Coupling → Coupling} (free : s.errorFree = true)
    (header : ∀ c ∈ s.couplings, (g c).header = c.header) (barges : t.barges = s.barges)
    (couplings : t.couplings = s.couplings.map g) (engines : t.engines = s.engines) (rudders : t.rudders = s.rudders)
    (tanks : t.tanks = s.tanks) (transfers : t.transfers = s.transfers) : t.errorFree = true := by
  obtain ⟨h1, h2, h3, h4, h5, h6⟩ := s.errorFree_iff.mp free
  refine (State.errorFree_iff _).mpr ⟨barges ▸ h1, ?_, engines ▸ h3, rudders ▸ h4, tanks ▸ h5, transfers ▸ h6⟩
  rewrite [couplings]
  intro d hd
  obtain ⟨c, hc, rfl⟩ := List.mem_map.mp hd
  rewrite [header c hc]
  exact h2 c hc

theorem numbers_of_ordered {l : List Coupling} {g : Coupling → Coupling} (number : ∀ c, (g c).number = c.number) :
    (l.map g).map (·.number) = l.map (·.number) := by
  rewrite [List.map_map]
  exact List.map_congr_left fun c _ => number c

theorem Txn.remakeWork_eq {s : State} (free : s.errorFree = true) (once : (s.couplings.map (·.number)).Nodup) :
    (Txn.start s).remakeWork = { st := s.remakeEnd, commands := s.makes, touched := false } := by
  let y : Txn := ((Txn.start s).modLockage fun l => { l with phase := .remaking }).raise .lockage
  have freeY : y.st.errorFree = true := free
  obtain ⟨b, ordered⟩ := Txn.orderCrossing_free (x := y) (words := [8, 9, 11, 13]) (gives_make y.st) freeY once
  have orders : y.orderCrossing [8, 9, 11, 13] (fun k w => w.giveMake k) =
      { st := s.remade, commands := s.makes, touched := b } := ordered
  have keeps (c : Coupling) : (if c.orderable then c.givenMake s.clock else c).number = c.number ∧
      (if c.orderable then c.givenMake s.clock else c).header = c.header := by
    split
    · exact ⟨(c.givenMake_keeps s.clock).1, (c.givenMake_keeps s.clock).2.1⟩
    · exact ⟨rfl, rfl⟩
  have freeNow : s.remade.errorFree = true :=
    errorFree_of_ordered free (fun c _ => (keeps c).2) rfl rfl rfl rfl rfl rfl
  have onceNow : (s.remade.couplings.map (·.number)).Nodup := by
    rewrite [State.remade, numbers_of_ordered fun c => (keeps c).1]
    exact once
  have test := Txn.lockageTest_remaking (x := { st := s.remade, commands := s.makes, touched := b }) freeNow onceNow rfl true
  rewrite [Txn.remakeWork]
  rewrite [orders, test, State.remakeEnd]
  split <;> rfl

namespace State

theorem remakeEnd_keeps (s : State) : LockageKeeps s (s.take .console).remakeEnd := by
  rewrite [State.remakeEnd]
  split <;> exact ⟨rfl, rfl, rfl, rfl, rfl⟩

theorem mem_makes {s : State} {e : Member × Nat × WinchCommand} (mem : e ∈ s.makes) :
    ∃ c ∈ s.couplings, c.tending = .winch e.1 e.2.1 ∧ e.2.2 = .heave (makeUpTension s.policy c) := by
  obtain ⟨c, hc, he⟩ := List.mem_flatMap.mp mem
  refine ⟨c, (List.mem_filter.mp hc).1, ?_⟩
  unfold Coupling.makeCommands at he
  split at he
  · cases he
  · exact Coupling.mem_command.mp he

theorem makes_of {s : State} {c : Coupling} {m : Member} {k : Nat} (hc : c ∈ s.couplings)
    (ordered : c.orderable = true) (tending : c.tending = .winch m k)
    (moves : ¬(c.state = .made ∨ c.state = .strained ∨ c.state = .overload)) :
    (m, k, WinchCommand.heave (makeUpTension s.policy c)) ∈ s.makes :=
  List.mem_flatMap.mpr ⟨c, List.mem_filter.mpr ⟨hc, ordered⟩, by
    rewrite [Coupling.makeCommands, if_neg moves]
    exact Coupling.mem_command.mpr ⟨tending, rfl⟩⟩

/-- R186: notices raised for the phase before the boat cut is decided. -/
theorem lockageNotices_raised {s u : State} {left : Nat} {phase : Phase}
    (notices : u.notices = s.notices.raise .lockage) (cut : u.lockage.boatCut = s.lockage.boatCut) :
    (u.lockageTaken phase left 0).notices = s.lockageNotices (u.lockageTaken phase left 0) 1 := by
  have decided : (u.lockageTaken phase left 0).lockage.boatCut = u.decideBoatCut := rfl
  rewrite [State.lockageNotices, decided, ← cut]
  show u.lockageNotices _ 0 = _
  rewrite [State.lockageNotices, notices]
  dsimp only
  cases (u.decideBoatCut == .conflict && u.lockage.boatCut != .conflict) <;> rfl

end State

/-- Settles O21: the makes of every crossing coupling, and the test of R183 over what they leave. -/
theorem remakeJoinsTheTow : Obligations.RemakeJoinsTheTow := by
  intro s q qs hs hq free law outside ordered left
  have once : (s.couplings.map (·.number)).Nodup := (s.recordLaw_iff.mp law).2.1
  have body : requestRemake q s.opened = lockageAnswer
      { st := (s.take .console).remakeEnd, commands := (s.take .console).makes, touched := false } := by
    have taken : s.opened.st.lockage.phase = .split ∨ s.opened.st.lockage.phase = .breaking := outside
    rewrite [requestRemake, Request.bare_of_carries hq, if_neg (by decide), if_pos taken]
    exact congrArg lockageAnswer (Txn.remakeWork_eq (s := s.take .console) free once)
  have keeps : LockageKeeps s (s.take .console).remakeEnd := s.remakeEnd_keeps
  obtain ⟨t, runs, ended⟩ := exec_lockage (c := .remake) rfl rfl hs hq.1 body keeps
  refine ⟨t, runs, ended.barges, ended.strings, ended.policy, ended.requests, ended.responses, ?_, ?_⟩
  · have leaves : (s.take .console).remade.leftToMake = left := rfl
    have couplings : (s.take .console).remade.couplings = ordered := rfl
    split
    · next none =>
      have whole : (s.take .console).remakeEnd = (s.take .console).remade.madeWhole.raise .lockage :=
        if_pos (leaves.trans none)
      refine ⟨ended.lockage.trans (by rewrite [whole]; rfl), ?_, ended.couplings.trans (by rewrite [whole]; rfl)⟩
      rewrite [ended.notices, State.lockageNotices, ended.lockage, whole]
      rfl
    · next some =>
      have taken : (s.take .console).remakeEnd = (s.take .console).remade.lockageTaken .remaking left 0 :=
        (if_neg fun h => some (leaves.symm.trans h)).trans (by rw [leaves])
      have lockage := ended.lockage
      rewrite [taken] at lockage
      have breaks : t.lockage.breaks = s.lockage.breaks := by rewrite [lockage]; rfl
      have cut : t.lockage.boatCut = (s.take .console).remade.decideBoatCut := by rewrite [lockage]; rfl
      have table : t.couplings = ordered := ended.couplings.trans (by rewrite [taken]; rfl)
      refine ⟨congrArg Lockage.phase lockage, breaks, congrArg Lockage.remaining lockage,
        State.boatCutDecided_of (s := (s.take .console).remade) table ended.barges ended.strings breaks cut, ?_, table⟩
      rewrite [ended.notices, taken, State.lockageNotices, lockage]
      exact State.lockageNotices_raised rfl rfl
  · intro c hc m k n undamaged tending crossing made strained overload alone listed one winch slots
    have isOrderable := c.orderable_iff.mpr ⟨undamaged, crossing, Coupling.winchTended_of tending⟩
    refine ended.slot keeps listed one winch slots (State.makes_of (s := s.take .console) hc isOrderable tending
      fun h => h.elim made (·.elim strained overload)) fun e he member place => ?_
    obtain ⟨d, hd, tends, command⟩ := State.mem_makes he
    rewrite [member] at tends
    obtain rfl : d = c := (alone d hd e.2.1 tends).resolve_right fun ⟨positive, other⟩ => other (by omega)
    exact command

/-! Ranks and cuts by the order of the tow (R40, R180), and the ranks that a BREAK gives (R181). -/

/-! ## Ranks (R40) -/

/-- Elements picked from a place on, counted up to another. -/
theorem length_filter_take {α : Type} (p : α → Bool) (low : Nat) (l : List α) : ∀ k ≤ l.length,
    (∀ j < k, ∀ a, l[j]? = some a → (p a = true ↔ low ≤ j)) → ((l.take k).filter p).length = k - low
  | 0, _, _ => by simp
  | k + 1, hk, picks => by
    have here : l[k]? = some l[k] := List.getElem?_eq_getElem hk
    have before := length_filter_take p low l k (by omega) fun j hj => picks j (by omega)
    have pick := picks k (by omega) _ here
    rewrite [List.take_add_one, here, Option.toList_some, List.filter_append, List.length_append, before]
    by_cases low ≤ k
    · simp [pick.mpr ‹_›]
      omega
    · have no : p l[k] = false := by simpa using fun h => ‹¬low ≤ k› (pick.mp h)
      simp [no]
      omega

namespace State

/-- R40: the place of a barge. -/
theorem place?_eq {s : State} (hulls : (s.barges.map (·.hull)).Nodup) {i : Nat} {b : Barge}
    (here : s.barges[i]? = some b) : s.place? b.hull = some (i + 1) := by
  obtain ⟨inside, rfl⟩ := List.getElem?_eq_some_iff.mp here
  have mem : s.barges[i].hull ∈ s.barges.map (·.hull) := List.mem_map_of_mem (List.getElem_mem inside)
  have place := hulls.idxOf_getElem i (by rwa [List.length_map])
  rewrite [List.getElem_map] at place
  rw [State.place?, findIdx?_key Barge.hull, if_pos mem, place, Option.map_some]

/-- R40: a barge's rank is its count among the barges of its string, and lies in 1..8. -/
theorem rank?_eq {s : State} (law : s.rosterLaw = true) {i : Nat} {b : Barge} (here : s.barges[i]? = some b) :
    s.rank? b.hull = some ((s.barges.take (i + 1)).filter (·.string == b.string)).length ∧
      1 ≤ ((s.barges.take (i + 1)).filter (·.string == b.string)).length ∧
      ((s.barges.take (i + 1)).filter (·.string == b.string)).length ≤ 8 := by
  obtain ⟨six, bounds, length, few, hulls, names⟩ := s.rosterLaw_iff_entry.mp law
  have inside : i < s.barges.length := (List.getElem?_eq_some_iff.mp here).1
  have held (j : Nat) (d : Barge) (hj : s.barges[j]? = some d) : s.HoldsPlace d.string j :=
    names j d.string (by rw [List.getElem?_map, hj, Option.map_some])
  have own := held i b here
  have string : b.string = s.stringAt (i + 1) := (State.eq_stringAt_iff six bounds (by omega)).mpr own
  obtain ⟨first, last, low, high⟩ := own
  have count : ((s.barges.take (i + 1)).filter (·.string == b.string)).length = i + 1 - s.entry (b.string - 1) := by
    refine length_filter_take _ _ _ _ (by omega) fun j hj d hd => ?_
    rewrite [beq_iff_eq]
    constructor
    · intro same
      obtain ⟨-, -, from', -⟩ := same ▸ held j d hd
      exact from'
    · intro from'
      have place : s.HoldsPlace b.string j := ⟨first, last, from', by omega⟩
      have mine := (State.eq_stringAt_iff six bounds (by omega)).mpr (held j d hd)
      exact mine.trans ((State.eq_stringAt_iff six bounds (by omega)).mpr place).symm
  have bound := (bounds (b.string - 1) (by omega)).2
  rewrite [Nat.sub_add_cancel first] at bound
  rewrite [count]
  refine ⟨?_, by omega, by omega⟩
  rw [State.rank?, State.place?_eq hulls here, Option.map_some, State.rankAt, ← string]

end State

/-! ## Cuts (R180) -/

theorem ascendingRanks_lt : ∀ {l : List Nat} {low : Nat}, ascendingRanks low l = true → ∀ b ∈ l, low < b
  | [], _, _, _, h => nomatch h
  | a :: l, low, h, b, hb => by
    simp only [ascendingRanks, Bool.and_eq_true, decide_eq_true_eq] at h
    obtain ⟨⟨first, -⟩, rest⟩ := h
    rcases List.mem_cons.mp hb with rfl | mem
    · exact first
    · exact first.trans (ascendingRanks_lt rest b mem)

/-- R180: the boundaries of ranks between which a rank lies, by the number of break ranks below it. -/
theorem between_iff {r top : Nat} (above : r ≤ top) : ∀ (l : List Nat) (low : Nat), low < r → ascendingRanks low l = true →
    ∀ k, (l.filter (· < r)).length = k ↔ ∃ a b, (low :: l ++ [top])[k]? = some a ∧
      (low :: l ++ [top])[k + 1]? = some b ∧ a < r ∧ r ≤ b
  | [], low, below, _, k => by
    rcases k with _ | _ | k
    · simp [below, above]
    · simp
    · simp
  | m :: l, low, below, ascends, k => by
    simp only [ascendingRanks, Bool.and_eq_true, decide_eq_true_eq] at ascends
    obtain ⟨-, rest⟩ := ascends
    by_cases under : m < r
    · rewrite [List.filter_cons_of_pos (by simpa using under), List.length_cons]
      cases k with
      | zero => simp [under]
      | succ k =>
        rewrite [Nat.add_right_cancel_iff, between_iff above l m under rest k]
        rfl
    · have none : l.filter (· < r) = [] := List.filter_eq_nil_iff.mpr fun b hb => by
        have beyond := ascendingRanks_lt rest b hb
        simp only [decide_eq_true_eq]
        omega
      rewrite [List.filter_cons_of_neg (by simpa using under), none]
      cases k with
      | zero =>
        have reached : r ≤ m := by omega
        simp [below, reached]
      | succ k =>
        have beyond : ∀ a, (m :: l ++ [top])[k]? = some a → r ≤ a := fun a ha => by
          rcases List.mem_append.mp (List.mem_of_getElem? ha) with mem | mem
          · rcases List.mem_cons.mp mem with rfl | later
            · omega
            · have := ascendingRanks_lt rest a later
              omega
          · rewrite [List.mem_singleton.mp mem]
            exact above
        refine ⟨fun h => absurd h (by simp), ?_⟩
        rintro ⟨a, b, first, -, less, -⟩
        exact absurd (beyond a first) (by omega)

namespace State

/-- R180: a barge's cut, by its rank and the break ranks. -/
theorem cut?_iff {s : State} {hull rank : Nat} (held : s.rank? hull = some rank) (one : 1 ≤ rank) (eight : rank ≤ 8)
    (ascends : ascendingRanks 0 s.lockage.breaks = true) (k : Nat) : s.cut? hull = some k ↔
      1 ≤ k ∧ ∃ low high, (0 :: s.lockage.breaks ++ [8])[k - 1]? = some low ∧
        (0 :: s.lockage.breaks ++ [8])[k]? = some high ∧ low < rank ∧ rank ≤ high := by
  rewrite [State.cut?, held, Option.map_some, Option.some.injEq, cutOfRank]
  cases k with
  | zero => simp
  | succ k =>
    rewrite [Nat.add_right_cancel_iff, between_iff eight _ 0 one ascends k]
    simp

theorem cut?_absent {s : State} {hull : Nat} (absent : hull ∉ s.barges.map (·.hull)) : s.cut? hull = none := by
  have nowhere : s.barges.findIdx? (·.hull == hull) = none := List.findIdx?_eq_none_iff.mpr fun b hb => by
    simpa using fun same => absent (List.mem_map.mpr ⟨b, hb, same⟩)
  rewrite [State.cut?, State.rank?, State.place?, nowhere]
  rfl

theorem endsCross_iff (s : State) (endA : Member) (endB : Nat) :
    s.endsCross endA endB = true ↔ ∃ h, endA = .barge h ∧ s.cut? h ≠ s.cut? endB := by
  cases endA with
  | boat => simp [State.endsCross]
  | barge h => simp [State.endsCross]

end State

/-! ## The ranks of a frame (R181) -/

/-- R181: the items of the ranks of a BREAK. -/
def breakFrame (ranks : List Int) : List Item := ranks.zipIdx.map fun p => { field := p.2 + 2, value := p.1 }

theorem mem_breakFrame {ranks : List Int} {i : Item} :
    i ∈ breakFrame ranks ↔ 2 ≤ i.field ∧ ranks[i.field - 2]? = some i.value := by
  obtain ⟨f, v⟩ := i
  simp only [breakFrame, List.mem_map, Prod.exists, List.mem_zipIdx_iff_getElem?, Item.mk.injEq]
  constructor
  · rintro ⟨w, j, held, rfl, rfl⟩
    exact ⟨by omega, held⟩
  · rintro ⟨two, held⟩
    exact ⟨v, f - 2, held, by omega, rfl⟩

theorem breakFrame_fields (ranks : List Int) : ((breakFrame ranks).map (·.field)).Nodup := by
  have fields : (breakFrame ranks).map (·.field) = (ranks.zipIdx.map Prod.snd).map (· + 2) := by
    rewrite [breakFrame, List.map_map, List.map_map]
    rfl
  rewrite [fields]
  exact (List.nodup_zipIdx_map_snd ranks).map fun a b h => by simpa using h

/-- The value of a field given once. -/
theorem valueOf_iff {is : List Item} (once : (is.map (·.field)).Nodup) (f : Nat) (v : Int) :
    valueOf is f = some v ↔ ⟨f, v⟩ ∈ is := by
  constructor
  · intro h
    obtain ⟨i, hi, rfl, rfl⟩ := valueOf_eq_some h
    exact hi
  · intro h
    have found := find?_eq_some_of_nodup (key := Item.field) once h
    rewrite [valueOf, found]
    rfl

theorem valueOf_breakFrame {ranks : List Int} {is : List Item} (perm : is.Perm (breakFrame ranks)) (f : Nat) :
    valueOf is f = if 2 ≤ f then ranks[f - 2]? else none := by
  have once : (is.map (·.field)).Nodup := (perm.map _).nodup_iff.mpr (breakFrame_fields ranks)
  refine Option.ext fun v => ?_
  rewrite [valueOf_iff once, perm.mem_iff, mem_breakFrame]
  by_cases two : 2 ≤ f <;> simp [two]

/-! BREAK (R181 to R186): the checks of its ranks, the releases, and the test of the phase. -/

/-! ## The checks (R181) -/

section
variable {ranks : List Int} {is : List Item}

theorem gives_breakFrame (perm : is.Perm (breakFrame ranks)) (f : Nat) :
    gives is f = decide (2 ≤ f ∧ f - 2 < ranks.length) := by
  rewrite [Bool.eq_iff_iff, gives_iff, valueOf_breakFrame perm, decide_eq_true_eq]
  by_cases two : 2 ≤ f
  · simp only [two, if_true, true_and]
    exact ⟨fun ⟨_, held⟩ => (List.getElem?_eq_some_iff.mp held).1, fun inside => ⟨_, List.getElem?_eq_getElem inside⟩⟩
  · simp [two]

theorem field_of_breakFrame (perm : is.Perm (breakFrame ranks)) {i : Item} (hi : i ∈ is) :
    2 ≤ i.field ∧ i.field - 2 < ranks.length ∧ ranks[i.field - 2]? = some i.value := by
  obtain ⟨two, held⟩ := mem_breakFrame.mp (perm.mem_iff.mp hi)
  exact ⟨two, (List.getElem?_eq_some_iff.mp held).1, held⟩

/-- R181: the ranks are those of the frame, in whatever order it carries them. -/
theorem breakRanks_frame (perm : is.Perm (breakFrame ranks)) (some' : 1 ≤ ranks.length) (few : ranks.length ≤ 3) :
    breakRanks is = some ranks := by
  have length : is.length = ranks.length := by rw [perm.length_eq, breakFrame, List.length_map, List.length_zipIdx]
  have fields : (is.isEmpty || is.any fun i => decide (i.field < 2) || decide (4 < i.field)) = false := by
    rewrite [Bool.or_eq_false_iff]
    constructor
    · cases is with
      | nil => simp at length; omega
      | cons => rfl
    · rewrite [List.any_eq_false]
      intro i hi
      obtain ⟨two, inside, -⟩ := field_of_breakFrame perm hi
      simp only [Bool.or_eq_true, decide_eq_true_eq]
      omega
  have gap : (gives is 4 && !gives is 3) = false := by
    simp only [gives_breakFrame perm]
    simp
    omega
  have first : (!gives is 2) = false := by
    simp only [gives_breakFrame perm]
    simp
    omega
  rewrite [breakRanks, fields, gap, first]
  simp only [Bool.false_eq_true, if_false, valueOf_breakFrame perm]
  match ranks, few, some' with
  | [a], _, _ => rfl
  | [a, b], _, _ => rfl
  | [a, b, c], _, _ => rfl

theorem breakRanks_gap (fields : (∀ i ∈ is, i.field ≠ 2) ∨ (∀ i ∈ is, i.field ≠ 3) ∧ ∃ i ∈ is, i.field = 4) :
    breakRanks is = none := by
  have absent {f : Nat} (none : ∀ i ∈ is, i.field ≠ f) : gives is f = false := by
    rewrite [gives, List.any_eq_false]
    exact fun i hi => by simpa using none i hi
  rewrite [breakRanks]
  rcases fields with two | ⟨three, four⟩
  · rewrite [absent two]
    split
    · rfl
    · split <;> rfl
  · have given : gives is 4 = true := by
      obtain ⟨i, hi, field⟩ := four
      exact List.any_eq_true.mpr ⟨i, hi, by simp [field]⟩
    rewrite [absent three, given]
    split <;> rfl

theorem lt_foldl_max {v : Int} (l : List Nat) (n : Nat) :
    (v < ((l.foldl max n : Nat) : Int)) ↔ v < (n : Int) ∨ ∃ x ∈ l, v < (x : Int) := by
  induction l generalizing n with
  | nil => simp
  | cons a l ih =>
    rewrite [List.foldl_cons, ih]
    simp only [List.mem_cons, exists_eq_or_imp, ← or_assoc]
    refine or_congr_left ?_
    omega

namespace State

/-- R181: what is wrong with the rank at a place of the list. -/
def badRank (s : State) (ranks : List Int) (i : Nat) : Prop := ∃ v, ranks[i]? = some v ∧
  (v < 1 ∨ 7 < v ∨ v ≤ ((0 :: ranks)[i]?).getD 0 ∨ ∀ b ∈ s.barges, (((s.rank? b.hull).getD 0 : Nat) : Int) ≤ v)

theorem highestRank_lt (s : State) {v : Int} (low : 0 ≤ v) : v < (s.highestRank : Int) ↔
    ¬∀ b ∈ s.barges, (((s.rank? b.hull).getD 0 : Nat) : Int) ≤ v := by
  rewrite [State.highestRank, lt_foldl_max]
  simp only [Int.natCast_zero, List.mem_map, exists_exists_and_eq_and, not_forall, Int.not_le, exists_prop]
  have : ¬v < 0 := by omega
  simp [this]

/-- R181: stage 4 of one rank. -/
theorem breakItem_frame (s : State) (perm : is.Perm (breakFrame ranks)) {i : Nat} {v : Int}
    (held : ranks[i]? = some v) :
    (s.badRank ranks i → s.breakItem is ⟨i + 2, v⟩ = some (.badField (i + 2))) ∧
      (¬s.badRank ranks i → s.breakItem is ⟨i + 2, v⟩ = none) := by
  have before : (valueOf is (i + 2 - 1)).getD 0 = ((0 :: ranks)[i]?).getD 0 := by
    rewrite [valueOf_breakFrame perm]
    cases i with
    | zero => rfl
    | succ i => simp
  have verdict : (within v 1 7 && decide (((0 :: ranks)[i]?).getD 0 < v) && decide (v < (s.highestRank : Int))) = true ↔
      ¬s.badRank ranks i := by
    simp only [within, Bool.and_eq_true, decide_eq_true_eq, State.badRank, held, Option.some.injEq, exists_eq_left',
      not_or, Int.not_lt, Int.not_le]
    constructor
    · rintro ⟨⟨⟨low, high⟩, rises⟩, short⟩
      exact ⟨low, high, rises, (s.highestRank_lt (by omega)).mp short⟩
    · rintro ⟨low, high, rises, short⟩
      exact ⟨⟨⟨low, high⟩, rises⟩, (s.highestRank_lt (by omega)).mpr short⟩
  simp only [State.breakItem, before, refuseIf]
  generalize (within v 1 7 && decide (((0 :: ranks)[i]?).getD 0 < v) && decide (v < (s.highestRank : Int))) = fine
    at verdict ⊢
  cases fine with
  | true => exact ⟨fun bad => absurd bad (verdict.mp rfl), fun _ => rfl⟩
  | false => exact ⟨fun _ => rfl, fun good => absurd (verdict.mpr good) Bool.false_ne_true⟩

end State

/-- The first item that fails gives the result. -/
theorem checkItems_first {check : Item → Option Result} {r : Result} : ∀ {is : List Item} (i : Nat) {it : Item},
    is[i]? = some it → check it = some r → (∀ j < i, ∀ jt, is[j]? = some jt → check jt = none) →
    checkItems is check = some r
  | [], _, _, h, _, _ => by simp at h
  | a :: is, 0, it, h, fails, _ => by
    obtain rfl : a = it := by simpa using h
    simp [checkItems, firstFailure, fails]
  | a :: is, i + 1, it, h, fails, before => by
    have passes : check a = none := before 0 (by omega) a rfl
    have rest := checkItems_first (is := is) i (by simpa using h) fails fun j hj jt held =>
      before (j + 1) (by omega) jt (by simpa using held)
    simpa [checkItems, firstFailure, passes] using rest

theorem checkItems_passes {check : Item → Option Result} : ∀ {is : List Item}, (∀ i ∈ is, check i = none) →
    checkItems is check = none
  | [], _ => rfl
  | a :: is, passes => by
    have rest := checkItems_passes (is := is) fun i hi => passes i (by simp [hi])
    simpa [checkItems, firstFailure, passes a (by simp)] using rest

theorem getElem?_breakFrame (ranks : List Int) (i : Nat) :
    (breakFrame ranks)[i]? = (ranks[i]?).map fun v => ⟨i + 2, v⟩ := by
  rewrite [breakFrame, List.getElem?_map, List.getElem?_zipIdx, Option.map_map]
  simp only [Nat.zero_add]
  rfl

namespace State

/-- R181: stage 4 of a frame in ascending order, by its first bad rank. -/
theorem breakItems_bad (s : State) {i : Nat} (bad : s.badRank ranks i) (first : ∀ j < i, ¬s.badRank ranks j) :
    checkItems (breakFrame ranks) (s.breakItem (breakFrame ranks)) = some (.badField (i + 2)) := by
  obtain ⟨v, held, -⟩ := id bad
  refine checkItems_first i (by rewrite [getElem?_breakFrame, held]; rfl) ((s.breakItem_frame (.refl _) held).1 bad)
    fun j hj jt at' => ?_
  rewrite [getElem?_breakFrame] at at'
  obtain ⟨w, heldW, rfl⟩ := Option.map_eq_some_iff.mp at'
  exact (s.breakItem_frame (.refl _) heldW).2 (first j hj)

theorem breakItems_fine (s : State) (perm : is.Perm (breakFrame ranks)) (fine : ∀ i, ¬s.badRank ranks i) :
    checkItems is (s.breakItem is) = none :=
  checkItems_passes fun i hi => by
    obtain ⟨two, -, held⟩ := field_of_breakFrame perm hi
    have passes := (s.breakItem_frame perm held).2 (fine _)
    rwa [Nat.sub_add_cancel two] at passes

end State

/-- R181: the first field at which two lists of ranks differ. -/
theorem firstDifference_of : ∀ {ranks : List Int} {held : List Nat} (field i : Nat),
    ranks[i]? ≠ (held.map fun b : Nat => (b : Int))[i]? →
    (∀ j < i, ranks[j]? = (held.map fun b : Nat => (b : Int))[j]?) → firstDifference field ranks held = some (field + i)
  | [], [], _, _, h, _ => absurd (by simp) h
  | [], _ :: _, field, i, h, before => by
    cases i with
    | zero => rfl
    | succ i => exact absurd (before 0 (by omega)) (by simp)
  | _ :: _, [], field, i, h, before => by
    cases i with
    | zero => rfl
    | succ i => exact absurd (before 0 (by omega)) (by simp)
  | v :: vs, b :: bs, field, i, h, before => by
    rewrite [firstDifference]
    cases i with
    | zero => rewrite [if_neg (by simpa using h)]; rfl
    | succ i =>
      rewrite [if_pos (by simpa using before 0 (by omega)), firstDifference_of (field + 1) i (by simpa using h)
        fun j hj => by simpa using before (j + 1) (by omega)]
      congr 1
      omega

theorem firstDifference_same : ∀ (field : Nat) (held : List Nat),
    firstDifference field (held.map fun b : Nat => (b : Int)) held = none
  | _, [] => rfl
  | field, b :: bs => by
    rewrite [List.map_cons, firstDifference, if_pos rfl]
    exact firstDifference_same (field + 1) bs

end

/-! BREAK (R181 to R186): the releases, the phase, and what the request answers. -/

/-! ## The division of the tow (R182, R185) -/

namespace State

/-- R182: the state with the releases given and the phase BREAKING, before the completion test. -/
def divided (s : State) : State :=
  { s with
    lockage := { s.lockage with phase := .breaking }
    notices := s.notices.raise .lockage
    couplings := s.couplings.map fun c => if c.orderable then c.givenRelease else c }

/-- R182, R183, R185: what the releases of a BREAK leave. -/
def breakEnd (s : State) : State :=
  s.divided.lockageTaken (if s.divided.leftToBreak = 0 then .split else .breaking) s.divided.leftToBreak 0

/-- R182: the commands of the releases. -/
def releases (s : State) : List (Member × Nat × WinchCommand) :=
  (s.couplings.filter Coupling.orderable).flatMap Coupling.releaseCommands

end State

theorem Txn.breakWork_eq {s : State} (free : s.errorFree = true) (once : (s.couplings.map (·.number)).Nodup) :
    (Txn.start s).breakWork = { st := s.breakEnd, commands := s.releases, touched := false } := by
  obtain ⟨b, ordered⟩ := Txn.orderCrossing_free (x := Txn.start s) (words := [9, 11]) (gives_release s) free once
  have keeps (c : Coupling) : (if c.orderable then c.givenRelease else c).number = c.number ∧
      (if c.orderable then c.givenRelease else c).header = c.header := by
    split
    · exact ⟨c.givenRelease_keeps.1, c.givenRelease_keeps.2.1⟩
    · exact ⟨rfl, rfl⟩
  have freeNow : s.divided.errorFree = true :=
    errorFree_of_ordered free (fun c _ => (keeps c).2) rfl rfl rfl rfl rfl rfl
  have test := Txn.lockageTest_breaking (x := { st := s.divided, commands := s.releases, touched := b }) freeNow rfl false
  have orders : (((Txn.start s).orderCrossing [9, 11] fun k z => z.giveRelease k).modLockage
      fun l => { l with phase := .breaking }).raise .lockage =
      { st := s.divided, commands := s.releases, touched := b } := by
    rewrite [ordered]
    rfl
  rewrite [Txn.breakWork]
  rewrite [orders, test]
  simp only [Bool.false_eq_true, and_false, if_false]
  rfl

namespace State

theorem mem_releases {s : State} {e : Member × Nat × WinchCommand} (mem : e ∈ s.releases) : e.2.2 = .payOut := by
  obtain ⟨c, hc, he⟩ := List.mem_flatMap.mp mem
  unfold Coupling.releaseCommands at he
  split at he
  · cases he
  · exact (Coupling.mem_command.mp he).2

theorem releases_of {s : State} {c : Coupling} {m : Member} {k : Nat} (hc : c ∈ s.couplings)
    (ordered : c.orderable = true) (tending : c.tending = .winch m k) (moves : c.state = .unlashed → c.tendOrder = .make) :
    (m, k, WinchCommand.payOut) ∈ s.releases :=
  List.mem_flatMap.mpr ⟨c, List.mem_filter.mpr ⟨hc, ordered⟩, by
    rewrite [Coupling.releaseCommands, if_neg fun h => h.2 (moves h.1)]
    exact Coupling.mem_command.mpr ⟨tending, rfl⟩⟩

end State

namespace Coupling

/-- A coupling with its crossing flag given, where it is undamaged. -/
def flaggedBy (flag : Coupling → Bool) (c : Coupling) : Coupling :=
  if c.header.damaged then c else { c with crossing := flag c }

/-- R182: what a BREAK makes of a coupling. -/
def dividedBy (flag : Coupling → Bool) (c : Coupling) : Coupling :=
  if c.header.damaged then c
  else if flag c && c.winchTended then Coupling.givenRelease { c with crossing := flag c } else { c with crossing := flag c }

theorem dividedBy_eq (flag : Coupling → Bool) (c : Coupling) :
    (if (c.flaggedBy flag).orderable then (c.flaggedBy flag).givenRelease else c.flaggedBy flag) = c.dividedBy flag := by
  cases damaged : c.header.damaged with
  | true => simp [Coupling.flaggedBy, Coupling.dividedBy, Coupling.orderable, damaged]
  | false =>
    simp only [Coupling.flaggedBy, Coupling.dividedBy, Coupling.orderable, damaged, Bool.false_eq_true, if_false,
      Bool.not_false, Bool.true_and]
    rfl

end Coupling

/-- R182, R183, R186: what a BREAK taken with these ranks and these crossing flags leaves. -/
def State.DividesInto (s : State) (q : Request) (qs : List Request) (breaks : List Nat) (flag : Coupling → Bool)
    (t : State) : Prop :=
  t.lockage.breaks = breaks ∧
    (if t.leftToBreak = 0 then t.lockage.phase = .split ∧ t.lockage.remaining = 0
     else t.lockage.phase = .breaking ∧ t.lockage.remaining = t.leftToBreak) ∧
    t.boatCutDecided ∧ t.notices = s.lockageNotices t 1 ∧ t.couplings = s.couplings.map (·.dividedBy flag) ∧
    (∀ c ∈ s.couplings, ∀ m k n, c.header.damaged = false → c.tending = .winch m k →
      flag c = true → (c.state = .unlashed → c.tendOrder = .make) →
      s.nodeOf m = some n → 1 ≤ k → k ≤ n.winches → n.slots.length = n.winches →
      ∃ d ∈ t.tow.nodes, d.address = n.address ∧
        ∃ o : Slot, d.slots[k - 1]? = some (some o) ∧ o.command = .payOut ∧ o.failures = 0) ∧
    t.barges = s.barges ∧ t.strings = s.strings ∧ t.policy = s.policy ∧ t.console.requests = qs ∧
    t.console.responses = s.console.responses ++ [{ tag := q.tag, code := q.code, result := .done, items :=
      [item 1 t.lockage.phase.code, item 5 t.lockage.boatCut.code, item 6 t.lockage.remaining] }]

/-- R182, R185: the outcome of a BREAK taken, from the state whose ranks and crossing flags stand. -/
theorem exec_divides {s w : State} {q : Request} {qs : List Request} {flag : Coupling → Bool} (hs : s.serves q qs)
    (hq : q.code = 0x11) (free : w.errorFree = true) (once : (s.couplings.map (·.number)).Nodup) (kept : LockageKeeps s w)
    (notices : w.notices = s.notices) (cut : w.lockage.boatCut = s.lockage.boatCut)
    (couplings : w.couplings = s.couplings.map (·.flaggedBy flag))
    (body : requestBreak q s.opened = lockageAnswer (Txn.start w).breakWork) :
    ∃ t, exec .breakTow s = .next t ∧ s.DividesInto q qs w.lockage.breaks flag t := by
  have onceNow : (w.couplings.map (·.number)).Nodup := by
    rewrite [couplings, numbers_of_ordered fun c => by unfold Coupling.flaggedBy; split <;> rfl]
    exact once
  rewrite [Txn.breakWork_eq free onceNow] at body
  have keeps : LockageKeeps s w.breakEnd := ⟨kept.barges, kept.strings, kept.policy, kept.tow, kept.console⟩
  obtain ⟨t, runs, ended⟩ := exec_lockage (c := .breakTow) rfl rfl hs hq body keeps
  have table : t.couplings = w.divided.couplings := ended.couplings
  have breaks : t.lockage.breaks = w.lockage.breaks := by rewrite [ended.lockage]; rfl
  have cuts : t.cut? = w.divided.cut? :=
    State.cut?_congr (ended.barges.trans kept.barges.symm) (ended.strings.trans kept.strings.symm) breaks
  have left : t.leftToBreak = w.divided.leftToBreak := by
    rewrite [State.leftToBreak, State.leftToBreak, table]
    refine congrArg List.length (List.filter_congr fun c _ => ?_)
    have crosses : t.crossing c = w.divided.crossing c := by
      simp only [State.crossing, State.endsCross, cuts]
    rw [crosses]
  refine ⟨t, runs, breaks, ?_, ?_, ?_, ?_, ?_, ended.barges, ended.strings, ended.policy,
    ended.requests, ended.responses⟩
  · rewrite [left, ended.lockage]
    split
    · next none => exact ⟨if_pos none, none⟩
    · next some => exact ⟨if_neg some, rfl⟩
  · exact State.boatCutDecided_of (s := w.divided) table (ended.barges.trans kept.barges.symm)
      (ended.strings.trans kept.strings.symm) breaks
      (congrArg Lockage.boatCut ended.lockage)
  · rewrite [ended.notices, State.lockageNotices, ended.lockage]
    exact State.lockageNotices_raised (congrArg (NoticeUnit.raise · .lockage) notices) cut
  · rewrite [table, State.divided, couplings, List.map_map]
    exact List.map_congr_left fun c _ => c.dividedBy_eq flag
  · intro c hc m k n undamaged tending flagged moves listed one winch slots
    have mem : { c with crossing := flag c } ∈ w.couplings := by
      rewrite [couplings]
      exact List.mem_map.mpr ⟨c, hc, by simp [Coupling.flaggedBy, undamaged]⟩
    have orderable : Coupling.orderable { c with crossing := flag c } = true :=
      (Coupling.orderable_iff _).mpr ⟨undamaged, flagged, Coupling.winchTended_of tending⟩
    exact ended.slot keeps listed one winch slots (State.releases_of mem orderable tending moves)
      fun e he _ _ => State.mem_releases he

/-! ## The request (R181) -/

theorem Request.items_of_parse {q : Request} {admits : Nat → Bool} {is : List Item} (h : q.parse admits = some is) :
    q.items? = some is := by
  unfold Request.parse at h
  split at h
  · split at h
    · next js items =>
      split at h
      · rw [items, h]
      · cases h
    · cases h
  · cases h

theorem requestBreak_gap {q : Request} {is : List Item} (hq : q.carries 0x11 0 is)
    (fields : (∀ i ∈ is, i.field ≠ 2) ∨ (∀ i ∈ is, i.field ≠ 3) ∧ ∃ i ∈ is, i.field = 4) (x : Txn) :
    requestBreak q x = refuse x .badRequest := by
  have none : ((q.parse (· == 0)).bind fun is => (breakRanks is).map fun ranks => (is, ranks)) = none := by
    cases parsed : q.parse (· == 0) with
    | none => rfl
    | some js =>
      obtain rfl : is = js := Option.some.inj (hq.2.2.symm.trans (Request.items_of_parse parsed))
      rewrite [Option.bind_some, breakRanks_gap fields]
      rfl
  rw [requestBreak, none]

/-- R181: a BREAK by the ranks that its frame carries. -/
theorem requestBreak_eq {q : Request} {is : List Item} {ranks : List Int} (hq : q.carries 0x11 0 is)
    (perm : is.Perm (breakFrame ranks)) (some' : 1 ≤ ranks.length) (few : ranks.length ≤ 3) (x : Txn)
    (free : x.st.errorFree = true) : requestBreak q x =
      match (if x.st.lockage.phase = .remaking then (firstDifference 2 ranks x.st.lockage.breaks).map Result.badField
        else checkItems is (x.st.breakItem is)) with
      | some r => refuse x r
      | none =>
        if x.st.lockage.phase = .breaking ∨ x.st.lockage.phase = .split then refuse x .wrongState
        else if x.st.overBreakLimit then refuse x .wrongState
        else lockageAnswer (if x.st.lockage.phase = .remaking then x
          else (x.modLockage fun l => { l with breaks := ranks.map Int.toNat }).on State.flagCrossing).breakWork := by
  have once : onceEach (is.map (·.field)) = true :=
    (onceEach_iff _).mpr ((perm.map _).nodup_iff.mpr (breakFrame_fields ranks))
  have parsed : ((q.parse (· == 0)).bind fun is => (breakRanks is).map fun ranks => (is, ranks)) = some (is, ranks) := by
    rewrite [Request.parse_of_carries hq rfl once, Option.bind_some, breakRanks_frame perm some' few]
    rfl
  rewrite [requestBreak, parsed]
  simp only [Txn.readAll_errorFree x free] <;> rfl

namespace State

theorem overBreakLimit_iff (s : State) : s.overBreakLimit = true ↔
    ¬∀ e ∈ s.engines, e.number ≠ 5 → e.header.damaged = false → e.sent.natAbs ≤ s.policy.breakLimit := by
  simp [State.overBreakLimit, and_assoc]

/-- R182: the crossing flags of undamaged couplings free of error. -/
theorem flagCrossing_eq {s : State} (free : s.errorFree = true) : s.flagCrossing = { s with
    couplings := s.couplings.map (·.flaggedBy fun c => s.endsCross c.endA c.endB) } := by
  refine congrArg (fun l => { s with couplings := l }) (List.map_congr_left fun c hc => ?_)
  cases damaged : c.header.damaged with
  | true => simp [Coupling.flaggedBy, damaged]
  | false =>
    have clean := Header.bad_eq_nil ((s.errorFree_iff.mp free).2.1 c hc) damaged
    simp only [damaged, Bool.not_false, if_true, Coupling.flaggedBy, Bool.false_eq_true, if_false]
    exact Coupling.renew_clean _ _ clean

end State

/-- The ranks held, as signed figures. -/
theorem ranks_lifted (l : List Nat) : (List.map (fun b => b) (do let a ← l; pure (a : Int)) : List Int) =
    l.map fun b : Nat => (b : Int) := by
  induction l with
  | nil => rfl
  | cons a l ih => exact congrArg ((a : Int) :: ·) ih

/-- Settles O20: ranks and cuts by the order of the tow, and a BREAK by the ranks of its frame and the phase. -/
theorem breakDividesTheTow : Obligations.BreakDividesTheTow := by
  refine ⟨fun s roster lockage => ⟨fun i b here => ?_, fun h absent => State.cut?_absent absent⟩, State.endsCross_iff,
    fun s q qs hs free law => ?_⟩
  · intro rank
    obtain ⟨held, one, eight⟩ := State.rank?_eq roster here
    have ascends : ascendingRanks 0 s.lockage.breaks = true := by
      simp only [State.lockageLaw, Bool.and_eq_true] at lockage
      exact lockage.1.1.1.2
    exact ⟨held, State.cut?_iff held one eight ascends⟩
  · intro refused frame given fails calm held divides
    have once : (s.couplings.map (·.number)).Nodup := (s.recordLaw_iff.mp law).2.1
    have freeNow : s.opened.st.errorFree = true := free
    have heldIs : held = s.lockage.breaks.map fun b : Nat => (b : Int) := by
      exact ranks_lifted _
    have over' : s.opened.st.overBreakLimit = true ↔ ¬calm := s.opened.st.overBreakLimit_iff
    have refuses (r : Result) (hq : q.code = 0x11) (body : requestBreak q s.opened = refuse s.opened r) : refused r :=
      exec_refused (c := .breakTow) rfl rfl hs hq body
    have conclude {w : State} {flag : State → Coupling → Bool} {flag' : Coupling → Bool}
        (h : ∃ t, exec .breakTow s = .next t ∧ s.DividesInto q qs w.lockage.breaks flag' t)
        (same : ∀ t : State, t.barges = s.barges → t.strings = s.strings → t.lockage.breaks = w.lockage.breaks →
          flag t = flag') : divides w.lockage.breaks flag := by
      obtain ⟨t, runs, breaks, phase, decided, notices, table, slots, barges, strings, rest⟩ := h
      obtain rfl := same t barges strings breaks
      exact ⟨t, runs, breaks, phase, decided, notices, table, slots, barges, strings, rest⟩
    refine ⟨fun is hq fields gap => refuses _ hq.1 (requestBreak_gap hq gap _), fun ranks i hq few phase bad first => ?_,
      fun ranks hgiven phase fine => ?_, fun ranks hgiven phase => ?_⟩
    · obtain ⟨v, at', -⟩ := id bad
      have inside := (List.getElem?_eq_some_iff.mp at').1
      refine refuses _ hq.1 ?_
      have carried : q.carries 0x11 0 (breakFrame ranks) := hq
      rewrite [requestBreak_eq carried (.refl _) (by omega) few s.opened freeNow]
      have check := s.opened.st.breakItems_bad (ranks := ranks) (i := i) bad first
      have outside : s.opened.st.lockage.phase ≠ .remaking := phase
      rw [if_neg outside, check]
    · obtain ⟨some', few, is, perm, hq⟩ := hgiven
      have check := s.opened.st.breakItems_fine (is := is) perm fine
      have outside : s.opened.st.lockage.phase ≠ .remaking := phase
      have body := requestBreak_eq hq perm some' few s.opened freeNow
      rewrite [if_neg outside, check] at body
      dsimp only at body
      refine ⟨fun stopped => ?_, fun whole calms => ?_⟩
      · refine refuses _ hq.1 (body.trans ?_)
        by_cases busy : s.opened.st.lockage.phase = .breaking ∨ s.opened.st.lockage.phase = .split
        · exact if_pos busy
        · have whole : s.lockage.phase = .whole := by
            cases at' : s.lockage.phase with
            | whole => rfl
            | remaking => exact absurd at' phase
            | breaking => exact absurd (.inl at') busy
            | split => exact absurd (.inr at') busy
          rw [if_neg busy, if_pos (over'.mpr (stopped.resolve_left fun h => h whole))]
      · have idle : ¬(s.opened.st.lockage.phase = .breaking ∨ s.opened.st.lockage.phase = .split) := by
          rewrite [show s.opened.st.lockage.phase = .whole from whole]
          decide
        rewrite [if_neg idle, if_neg fun h => over'.mp h calms, if_neg outside] at body
        let v : State := { s.take .console with lockage := { s.lockage with breaks := ranks.map Int.toNat } }
        let w : State := { v with couplings := v.couplings.map (·.flaggedBy fun c => v.endsCross c.endA c.endB) }
        have flagged : (s.opened.modLockage fun l => { l with breaks := ranks.map Int.toNat }).on State.flagCrossing =
            Txn.start w := congrArg Txn.start (State.flagCrossing_eq (s := v) free)
        rewrite [flagged] at body
        have freeW : w.errorFree = true := errorFree_of_ordered (s := v)
          (g := (·.flaggedBy fun c => v.endsCross c.endA c.endB)) free
          (fun c _ => by unfold Coupling.flaggedBy; split <;> rfl) rfl rfl rfl rfl rfl rfl
        exact conclude (exec_divides (w := w) (flag := fun c => v.endsCross c.endA c.endB) hs hq.1 freeW once
          ⟨rfl, rfl, rfl, rfl, rfl⟩ rfl rfl rfl body) fun t barges strings breaks => funext fun c => by
            simp only [State.endsCross, State.cut?_congr (s := v) barges strings breaks]
    · obtain ⟨some', few, is, perm, hq⟩ := hgiven
      have remaking : s.opened.st.lockage.phase = .remaking := phase
      have body := requestBreak_eq hq perm some' few s.opened freeNow
      rewrite [if_pos remaking] at body
      refine ⟨fun i differs before => ?_, fun same => ⟨fun hot => ?_, fun calms => ?_⟩⟩
      · rewrite [heldIs] at differs before
        rewrite [show firstDifference 2 ranks s.opened.st.lockage.breaks = some (2 + i) from
          firstDifference_of 2 i differs before] at body
        refine refuses _ hq.1 (body.trans ?_)
        rewrite [Nat.add_comm 2 i]
        rfl
      all_goals
        have none : firstDifference 2 ranks s.opened.st.lockage.breaks = none := by
          rewrite [same, heldIs]
          exact firstDifference_same 2 _
        have idle : ¬(s.opened.st.lockage.phase = .breaking ∨ s.opened.st.lockage.phase = .split) := by
          rewrite [remaking]
          decide
        rewrite [none] at body
        dsimp only [Option.map_none] at body
        rewrite [if_neg idle] at body
      · exact refuses _ hq.1 (body.trans (if_pos (over'.mpr hot)))
      · rewrite [if_neg fun h => over'.mp h calms, if_pos remaking] at body
        have stands : s.couplings = s.couplings.map (·.flaggedBy fun c => c.crossing) :=
          (List.map_id'' (fun c => by unfold Coupling.flaggedBy; split <;> rfl) _).symm
        exact conclude (exec_divides (w := s.take .console) (flag := fun c => c.crossing) hs hq.1 free once
          ⟨rfl, rfl, rfl, rfl, rfl⟩ rfl rfl stands body) fun _ _ _ _ => rfl

/-! AMEND of a coupling in WHOLE (R74 to R76, R83 to R88). -/

/-! ## Requests on a record (R26, R31) -/

/-- R31: AMEND of a record of a table by the items behind its key. -/
def amendTable (t : Tbl) (key : Nat) (is : List Item) (x : Txn) : Answer :=
  match t with
  | .barges => amendBarge key is x
  | .couplings => amendCoupling key is x
  | .engines => amendEngine key is x
  | .rudders => amendRudder key is x
  | .tanks => amendTank key is x
  | .transfers => amendTransfer key is x

section
variable {s : State} {q : Request} {qs : List Request} {table : Byte} {t : Tbl} {key : Nat} {is : List Item} {h : Header}

theorem storeTable_keyed {n : Nat} (ht : storeTable n = some t) : keyed n = true ∧ 1 ≤ n ∧ n ≤ 12 := by
  unfold storeTable at ht
  split at ht
  all_goals first | exact ⟨rfl, by decide, by decide⟩ | cases ht

/-- R26, R31: AMEND of an enrolled, undamaged record. -/
theorem requestAmend_record (hq : q.carries 0x04 table (⟨1, key⟩ :: is)) (ht : storeTable table.toNat = some t)
    (once : onceEach (is.map (·.field)) = true) (others : ∀ i ∈ is, i.field ≠ 1) (some' : is ≠ [])
    (free : s.errorFree = true) (found : s.header? t key = some h) (undamaged : h.damaged = false) :
    requestAmend q s.opened = amendTable t key is s.opened := by
  obtain ⟨isKeyed, low, high⟩ := storeTable_keyed ht
  have fresh : (is.map (·.field)).contains 1 = false := by simpa using others
  have parsed := Request.parse_of_carries hq (admits := fun t => decide (1 ≤ t) && decide (t ≤ 12)) (by simp [low, high])
    (show onceEach (1 :: is.map (·.field)) = true by rewrite [onceEach, fresh, once]; rfl)
  have rest : ((⟨1, key⟩ :: is : List Item).filter fun i => i.field != 1) = is := by
    rewrite [List.filter_cons_of_neg (by simp), List.filter_eq_self]
    exact fun i hi => by simpa using others i hi
  obtain ⟨-, code, -⟩ := hq
  have sound : s.sound t key = true := by simp [State.sound, found, undamaged]
  have keyOf : (valueOf (⟨1, key⟩ :: is) 1).bind natOf = some key := by simp [valueOf, natOf]
  have some'' : is.isEmpty = false := by
    cases is with
    | nil => exact absurd rfl some'
    | cons => rfl
  have record : amendRecord t (⟨1, key⟩ :: is) s.opened = amendTable t key is s.opened := by
    rewrite [amendRecord, keyOf]
    dsimp only
    rewrite [s.opened_header? t key, found]
    dsimp only
    rewrite [State.opened_read free, sound]
    dsimp only
    rewrite [rest]
    rfl
  have given : gives (⟨1, key⟩ :: is : List Item) 1 = true := rfl
  rewrite [requestAmend, parsed]
  dsimp only
  rewrite [code, isKeyed, if_pos rfl, rest, given, some'', if_pos (by decide), ht]
  exact record

end

/-! ## Ends of requests in WHOLE -/

section
variable {c : Instr} {code : Byte} {body : Request → Txn → Answer} {s : State} {q : Request} {qs : List Request}
  {r : Result} {items : List ResponseItem}

/-- R61: a command placed for a member whose node is listed. -/
theorem State.placeCommands_one {s : State} {m : Member} {k : Nat} {n : Node} (listed : s.nodeOf m = some n)
    (winch : k ≤ n.winches) (w : WinchCommand) : s.placeCommands [(m, k, w)] = s.placed n k w := by
  rewrite [State.placeCommands, List.foldl_cons, List.foldl_nil, State.placeCommand, listed]
  exact if_pos winch

/-- R23: a request in WHOLE that moves no binding, and may touch couplings. -/
theorem exec_whole (hb : requestBodyOf c = some body) (hc : requestCodeOf c = some code) (hs : s.serves q qs)
    (hq : q.code = code) {after : State} {touched : Bool} {cs : List (Member × Nat × WinchCommand)}
    (hy : body q s.opened =
      (({ st := { after with arbiter := s.arbiter.grant .console }, commands := cs, touched := touched } : Txn), r, items)) (whole : after.lockage.phase = .whole) (barges : after.barges = s.barges)
    (policy : after.policy = s.policy) : exec c s = .next (s.answered q qs r items (after.placeCommands cs)) := by
  have bound : s.bound = after.bound := State.bound_congr _ _ barges.symm policy.symm
  rewrite [exec_answer hb hc hs hq hy, Txn.commit_whole whole fun n _ => congrFun bound _]
  have granted : ∀ (cs : List (Member × Nat × WinchCommand)) (u : State),
      ({ u with arbiter := s.arbiter.grant .console } : State).placeCommands cs =
        { u.placeCommands cs with arbiter := s.arbiter.grant .console } := by
    intro cs
    induction cs with
    | nil => exact fun u => rfl
    | cons e cs ih =>
      intro u
      have one : ({ u with arbiter := s.arbiter.grant .console } : State).placeCommand e.1 e.2.1 e.2.2 =
          { u.placeCommand e.1 e.2.1 e.2.2 with arbiter := s.arbiter.grant .console } := by
        have same : ({ u with arbiter := s.arbiter.grant .console } : State).nodeOf e.1 = u.nodeOf e.1 := rfl
        rewrite [State.placeCommand, State.placeCommand, same]
        cases u.nodeOf e.1 with
        | none => rfl
        | some n => dsimp only; split <;> rfl
      rewrite [State.placeCommands, List.foldl_cons, one]
      exact ih _
  rewrite [granted]
  rfl

end

/-! ## AMEND of a coupling -/

namespace Coupling

/-- R75, R76: a coupling with the fields given written, in WHOLE. -/
def amendedBy (c : Coupling) (is : List Item) : Coupling :=
  let tending := givenTending is c.tending
  let changed : Bool := tending != c.tending
  let other : Bool := changed && ((tending.code == 1) != c.winchTended)
  { c with
    kind := ((valueOf is 2).bind couplingKindOf).getD c.kind
    endA := ((valueOf is 3).map memberOf).getD c.endA
    endB := given is 4 c.endB
    tending := tending
    rated := given is 8 c.rated
    tension := if changed then none else c.tension
    seated := if changed then none else c.seated
    winchFault := c.winchFault && !changed
    tendOrder := if other then .none else c.tendOrder
    declaredMade := c.declaredMade && !other }

/-- R76: the ends, the kind or the tending are changed. -/
def movedBy (c : Coupling) (is : List Item) : Bool :=
  (c.amendedBy is).kind != c.kind || (c.amendedBy is).endA != c.endA || (c.amendedBy is).endB != c.endB ||
    (c.amendedBy is).tending != c.tending

end Coupling

/-- R74: what stage 4 finds of the coupling as it will stand. -/
def State.amendedEnds (s : State) (c : Coupling) (is : List Item) : Option Result :=
  if [2, 3, 4, 5, 6, 7].any (gives is) then
    s.endsRefused (c.amendedBy is).kind (c.amendedBy is).endA (c.amendedBy is).endB (c.amendedBy is).tending
  else none

section
variable {x : Txn} {c : Coupling} {is : List Item}

/-- R74 to R76: an AMEND of a coupling in WHOLE that passes the checks of its items. -/
theorem Txn.HasCoupling.amend (h : x.HasCoupling c) (whole : x.st.lockage.phase = .whole)
    (range : checkItems is (couplingRange ((givenTending is c.tending).code == 1)) = none)
    (winch : ((givenTending is c.tending).code == 1 && !c.winchTended) = true → gives is 6 = true ∧ gives is 7 = true) :
    amendCoupling c.number is x = match x.st.amendedEnds c is with
      | some r => refuse x r
      | none =>
        if (c.movedBy is && c.state != .unlashed) || c.ordersRefused is then refuse x .wrongState
        else ((((x.putCoupling (c.amendedBy is)).giveOrders c.number is).touch, .done, []) : Answer) := by
  have inWhole : (x.st.lockage.phase == .whole) = true := by rewrite [whole]; rfl
  have free : ∀ crossing, x.st.makeRefused is crossing = false := fun crossing => by
    rewrite [State.makeRefused, whole]
    rfl
  have member : ((givenTending is c.tending).code == 1 && !c.winchTended && !gives is 6) = false := by
    cases needed : ((givenTending is c.tending).code == 1 && !c.winchTended) with
    | false => rfl
    | true => rewrite [(winch needed).1]; rfl
  have index : ((givenTending is c.tending).code == 1 && !c.winchTended && !gives is 7) = false := by
    cases needed : ((givenTending is c.tending).code == 1 && !c.winchTended) with
    | false => rfl
    | true => rewrite [(winch needed).2]; rfl
  rewrite [amendCoupling, h.found]
  dsimp only
  rewrite [range, member, index]
  dsimp only
  simp only [Bool.false_eq_true, if_false, inWhole, Bool.not_true, Bool.and_false, free]
  rewrite [h.modCoupling (by rfl) (by rfl)]
  have ends : x.st.amendedEnds c is = (if [2, 3, 4, 5, 6, 7].any (gives is) then
    x.st.endsRefused (((valueOf is 2).bind couplingKindOf).getD c.kind) (((valueOf is 3).map memberOf).getD c.endA)
      (given is 4 c.endB) (givenTending is c.tending) else none) := rfl
  rewrite [← ends]
  cases x.st.amendedEnds c is with
  | some r => rfl
  | none =>
    dsimp only
    have moved : c.movedBy is = ((((valueOf is 2).bind couplingKindOf).getD c.kind != c.kind ||
      ((valueOf is 3).map memberOf).getD c.endA != c.endA || given is 4 c.endB != c.endB) ||
      givenTending is c.tending != c.tending) := rfl
    rewrite [← moved]
    cases c.movedBy is && c.state != .unlashed with
    | true => rfl
    | false =>
      cases c.ordersRefused is with
      | true => rfl
      | false => rfl

/-! ### The fields given -/

theorem givenTending_stands {t : Tending} (five : valueOf is 5 = none) (six : valueOf is 6 = none)
    (seven : valueOf is 7 = none) : givenTending is t = t := by
  cases t <;> simp [givenTending, five, six, seven, Sys2Proof.Machine.given]

/-- R75: a request that gives no field but orders and the rated load writes the rated load alone. -/
theorem Coupling.amendedBy_rated (two : valueOf is 2 = none) (three : valueOf is 3 = none) (four : valueOf is 4 = none)
    (five : valueOf is 5 = none) (six : valueOf is 6 = none) (seven : valueOf is 7 = none) :
    c.amendedBy is = { c with rated := Sys2Proof.Machine.given is 8 c.rated } := by
  have stands : givenTending is c.tending = c.tending := givenTending_stands five six seven
  simp [Coupling.amendedBy, stands, two, three, four, Sys2Proof.Machine.given]

end

/-! ### The outcome -/

section
variable {s : State} {q : Request} {qs : List Request} {c new : Coupling} {is : List Item}
  {cs : List (Member × Nat × WinchCommand)}

/-- R74: an AMEND of an undamaged coupling, its key first. -/
structure State.Amends (s : State) (q : Request) (qs : List Request) (c : Coupling) (is : List Item) : Prop where
  serves : s.serves q qs
  carries : q.carries 0x04 3 (⟨1, c.number⟩ :: is)
  free : s.errorFree = true
  law : s.recordLaw = true
  whole : s.lockage.phase = .whole
  found : s.coupling? c.number = some c
  undamaged : c.header.damaged = false
  once : onceEach (is.map (·.field)) = true
  others : ∀ i ∈ is, i.field ≠ 1
  nonempty : is ≠ []

variable (h : s.Amends q qs c is)
include h

namespace State.Amends

theorem has : s.opened.HasCoupling c := Txn.hasCoupling_of_law (x := s.opened) h.free h.law h.found h.undamaged

theorem body : requestAmend q s.opened = amendCoupling c.number is s.opened :=
  requestAmend_record (t := .couplings) h.carries rfl h.once h.others h.nonempty h.free
    (congrArg (Option.map Coupling.header) h.found) h.undamaged

theorem refused {r : Result} (body : amendCoupling c.number is s.opened = refuse s.opened r) :
    exec .amend s = .next (s.answered q qs r [] s) :=
  exec_refused (c := .amend) rfl rfl h.serves h.carries.1 (h.body.trans body)

/-- R74 to R76: an AMEND refused for the state of the coupling. -/
theorem wrongState (range : checkItems is (couplingRange ((givenTending is c.tending).code == 1)) = none)
    (winch : ((givenTending is c.tending).code == 1 && !c.winchTended) = true → gives is 6 = true ∧ gives is 7 = true)
    (ends : s.amendedEnds c is = none)
    (wrong : ((c.movedBy is && c.state != .unlashed) || c.ordersRefused is) = true) :
    exec .amend s = .next (s.answered q qs .wrongState [] s) := by
  refine h.refused ?_
  rewrite [h.has.amend h.whole range winch, show s.opened.st.amendedEnds c is = none from ends]
  exact if_pos wrong

/-- R75, R83 to R88: an AMEND taken. -/
theorem taken (range : checkItems is (couplingRange ((givenTending is c.tending).code == 1)) = none)
    (winch : ((givenTending is c.tending).code == 1 && !c.winchTended) = true → gives is 6 = true ∧ gives is 7 = true)
    (ends : s.amendedEnds c is = none) (calm : (c.movedBy is && c.state != .unlashed) = false)
    (fine : c.ordersRefused is = false) (number : new.number = c.number)
    (orders : ∃ b, (s.opened.putCoupling (c.amendedBy is)).giveOrders c.number is =
      { s.opened.putCoupling new with commands := cs, touched := b }) :
    exec .amend s = .next (s.answered q qs .done []
      (({ s with couplings := update (·.number == c.number) (fun _ => new) s.couplings } : State).placeCommands cs)) := by
  obtain ⟨b, ordered⟩ := orders
  have body : requestAmend q s.opened = (({ st := { ({ s with
      couplings := update (·.number == c.number) (fun _ => new) s.couplings } : State) with
      arbiter := s.arbiter.grant .console }, commands := cs, touched := true } : Txn), .done, []) := by
    rewrite [h.body, h.has.amend h.whole range winch, show s.opened.st.amendedEnds c is = none from ends]
    dsimp only
    rewrite [calm, fine, ordered, Txn.putCoupling, number]
    rfl
  exact exec_whole (c := .amend) rfl rfl h.serves h.carries.1 body h.whole rfl rfl

end State.Amends

end

/-! AMEND of a coupling, request by request (R75, R76, R83 to R88). -/

section
variable {s : State} {q : Request} {qs : List Request} {c : Coupling} {v : Int} {m : Member} {w : Nat}

theorem Tending.code_winch (m : Member) (w : Nat) : ((Tending.winch m w).code == 1) = true := rfl

theorem Coupling.code_winchTended (c : Coupling) : (c.tending.code == 1) = c.winchTended := by
  rewrite [Coupling.winchTended]
  cases c.tending <;> rfl

/-- A request of one item that is neither the kind, an end nor the tending. -/
theorem one_stands {f : Nat} (hf : f = 8 ∨ f = 9 ∨ f = 10) (t : Tending) : givenTending [⟨f, v⟩] t = t := by
  rcases hf with rfl | rfl | rfl <;> exact givenTending_stands rfl rfl rfl

theorem one_ends {f : Nat} (hf : f = 8 ∨ f = 9 ∨ f = 10) (c : Coupling) : s.amendedEnds c [⟨f, v⟩] = none := by
  rcases hf with rfl | rfl | rfl <;> rfl

theorem one_amended {f : Nat} (hf : f = 9 ∨ f = 10) (c : Coupling) : c.amendedBy [⟨f, v⟩] = c := by
  rcases hf with rfl | rfl <;> exact Coupling.amendedBy_rated rfl rfl rfl rfl rfl rfl

theorem one_unmoved {f : Nat} (hf : f = 9 ∨ f = 10) (c : Coupling) : c.movedBy [⟨f, v⟩] = false := by
  simp [Coupling.movedBy, one_amended hf]

theorem one_winch {f : Nat} (hf : f = 8 ∨ f = 9 ∨ f = 10) (c : Coupling) :
    ((givenTending [⟨f, v⟩] c.tending).code == 1 && !c.winchTended) = true →
      gives [⟨f, v⟩] 6 = true ∧ gives [⟨f, v⟩] 7 = true := by
  rewrite [one_stands hf, c.code_winchTended, Bool.and_not_self]
  exact fun h => absurd h Bool.false_ne_true

/-- R83 to R85: a tend order taken. -/
theorem State.Amends.order {new : Coupling} {cs : List (Member × Nat × WinchCommand)} (h : s.Amends q qs c [⟨9, v⟩])
    (tending : c.tending = .winch m w) (low : 0 ≤ v) (high : v ≤ 2) (allowed : ¬(v = 0 ∧ c.tendOrder = .release))
    (number : new.number = c.number) (orders : ∃ b, s.opened.giveTendOrder c.number (tendOrderOf v) =
      { s.opened.putCoupling new with commands := cs, touched := b }) :
    exec .amend s = .next (s.answered q qs .done []
      (({ s with couplings := update (·.number == c.number) (fun _ => new) s.couplings } : State).placeCommands cs)) := by
  have order : (9 : Nat) = 8 ∨ (9 : Nat) = 9 ∨ (9 : Nat) = 10 := by decide
  have range : checkItems [⟨9, v⟩] (couplingRange ((givenTending [⟨9, v⟩] c.tending).code == 1)) = none := by
    rewrite [one_stands order, tending, checkItems_singleton]
    simp [couplingRange, Tending.code_winch, inRange, refuseIf, within, low, high]
  refine h.taken range (one_winch order c) (one_ends order c) (by rewrite [one_unmoved (.inl rfl)]; rfl) ?_ number ?_
  · have none : valueOf [⟨9, v⟩] 10 = none := rfl
    have some : valueOf [⟨9, v⟩] 9 = some v := rfl
    rewrite [Coupling.ordersRefused, none, some]
    by_cases zero : v = 0
    · have other : c.tendOrder ≠ .release := fun released => allowed ⟨zero, released⟩
      simp [zero, other]
    · simp [zero]
  · rewrite [one_amended (.inl rfl), h.has.putCoupling_self]
    exact orders

theorem exec_amends (hs : s.serves q qs) (free : s.errorFree = true) (law : s.recordLaw = true)
    (whole : s.lockage.phase = .whole) (found : s.coupling? c.number = some c) (undamaged : c.header.damaged = false)
    {is : List Item} (hq : q.carries 0x04 3 (⟨1, c.number⟩ :: is))
    (fields : (onceEach (is.map (·.field)) && is.all (·.field != 1) && !is.isEmpty) = true) : s.Amends q qs c is := by
  simp only [Bool.and_eq_true, List.all_eq_true, bne_iff_ne, Bool.not_eq_true', List.isEmpty_eq_false_iff] at fields
  obtain ⟨⟨once, others⟩, some⟩ := fields
  exact ⟨hs, hq, free, law, whole, found, undamaged, once, others, some⟩

/-- R84: MAKE given to a coupling in UNLASHED or LOST. -/
theorem amend_make {k : Nat} {n : Node} (hs : s.serves q qs) (hq : q.carries 0x04 3 [⟨1, k⟩, ⟨9, 1⟩])
    (free : s.errorFree = true) (law : s.recordLaw = true) (whole : s.lockage.phase = .whole)
    (found : s.coupling? k = some c) (undamaged : c.header.damaged = false) (tending : c.tending = .winch m w)
    (loose : c.state = .unlashed ∨ c.state = .lost) (listed : s.nodeOf m = some n) (winch : w ≤ n.winches) :
    exec .amend s = .next (s.answered q qs .done []
      (({ s with couplings := update (·.number == k) (fun _ => c.givenMake s.clock) s.couplings } : State).placed n w
        (.heave (makeUpTension s.policy c)))) := by
  obtain ⟨rfl, -⟩ := find?_key (key := Coupling.number) found
  have h := exec_amends hs free law whole found undamaged hq rfl
  obtain ⟨b, made⟩ := h.has.giveMake
  have commands : c.makeCommands s.policy = [(m, w, .heave (makeUpTension s.policy c))] := by
    rw [Coupling.makeCommands, if_neg (by rcases loose with state | state <;> simp [state]), Coupling.command, tending]
  refine (h.order tending (by decide) (by decide) (by simp) (c.givenMake_keeps s.clock).1
    (cs := c.makeCommands s.policy) ⟨b, made⟩).trans ?_
  rewrite [commands]
  exact congrArg (fun t => Host.Outcome.next (s.answered q qs .done [] t)) (State.placeCommands_one (s := { s with
    couplings := update (·.number == c.number) (fun _ => c.givenMake s.clock) s.couplings }) listed winch _)

/-- R83: RELEASE given to a coupling. -/
theorem amend_release {n : Node} (h : s.Amends q qs c [⟨9, 2⟩]) (tending : c.tending = .winch m w)
    (listed : s.nodeOf m = some n) (winch : w ≤ n.winches) :
    exec .amend s = .next (s.answered q qs .done [] (if c.state = .unlashed ∧ c.tendOrder ≠ .make then s
      else { s.placed n w .payOut with
        couplings := update (·.number == c.number) (fun _ => c.givenRelease) s.couplings })) := by
  obtain ⟨b, released⟩ := h.has.giveRelease
  refine (h.order tending (by decide) (by decide) (by simp) c.givenRelease_keeps.1 (cs := c.releaseCommands)
    ⟨b, released⟩).trans ?_
  refine congrArg (fun t => Host.Outcome.next (s.answered q qs .done [] t)) ?_
  rewrite [Coupling.releaseCommands]
  split
  · next idle =>
    have stands : c.givenRelease = c := by
      rewrite [Coupling.givenRelease, idle.1]
      exact if_neg idle.2
    rewrite [stands]
    exact congrArg (fun l => { s with couplings := l }) (put_self (key := Coupling.number) h.has.once h.found)
  · rewrite [Coupling.command, tending]
    exact State.placeCommands_one (s := { s with
      couplings := update (·.number == c.number) (fun _ => c.givenRelease) s.couplings }) listed winch _

/-- R85: NONE given to a coupling under MAKE. -/
theorem amend_none {n : Node} (h : s.Amends q qs c [⟨9, 0⟩]) (tending : c.tending = .winch m w)
    (listed : s.nodeOf m = some n) (winch : w ≤ n.winches) (make : c.tendOrder = .make) :
    exec .amend s = .next (s.answered q qs .done [] { s.placed n w .hold with
      couplings := update (·.number == c.number) (fun _ => { c with tendOrder := .none }) s.couplings }) := by
  have none : s.opened.giveTendOrder c.number (tendOrderOf 0) =
      { s.opened.putCoupling { c with tendOrder := .none } with commands := [(m, w, .hold)], touched := false } := by
    have found : s.opened.st.coupling? c.number = some c := h.found
    rewrite [show tendOrderOf 0 = .none from rfl, Txn.giveTendOrder, Txn.giveNone, found]
    dsimp only
    rewrite [make]
    dsimp only
    rewrite [h.has.modCoupling rfl rfl, Txn.placeFor_eq, Coupling.command, tending]
    rfl
  refine (h.order (new := { c with tendOrder := .none }) tending (by decide) (by decide) (by simp [make]) rfl
    ⟨false, none⟩).trans ?_
  exact congrArg (fun t => Host.Outcome.next (s.answered q qs .done [] t)) (State.placeCommands_one (s := { s with
    couplings := update (·.number == c.number) (fun _ => { c with tendOrder := .none }) s.couplings }) listed winch _)

/-- R85: NONE given to a coupling under no order. -/
theorem amend_none_idle (h : s.Amends q qs c [⟨9, 0⟩]) (tending : c.tending = .winch m w)
    (idle : c.tendOrder = .none) : exec .amend s = .next (s.answered q qs .done [] s) := by
  have none : s.opened.giveTendOrder c.number (tendOrderOf 0) =
      { s.opened.putCoupling c with commands := [], touched := false } := by
    have found : s.opened.st.coupling? c.number = some c := h.found
    rewrite [show tendOrderOf 0 = .none from rfl, Txn.giveTendOrder, Txn.giveNone, found]
    dsimp only
    rewrite [idle, h.has.putCoupling_self]
    rfl
  refine (h.order tending (by decide) (by decide) (by simp [idle]) rfl ⟨false, none⟩).trans ?_
  exact congrArg (fun l => Host.Outcome.next (s.answered q qs .done [] { s with couplings := l }))
    (put_self (key := Coupling.number) h.has.once h.found)

theorem order_range (tended : c.winchTended = true) (low : 0 ≤ v) (high : v ≤ 2) :
    checkItems [⟨9, v⟩] (couplingRange ((givenTending [⟨9, v⟩] c.tending).code == 1)) = none := by
  rewrite [one_stands (by decide), c.code_winchTended, tended, checkItems_singleton]
  simp [couplingRange, inRange, refuseIf, within, low, high]

/-- R85: NONE given to a coupling under RELEASE. -/
theorem amend_none_refused (h : s.Amends q qs c [⟨9, 0⟩]) (tended : c.winchTended = true)
    (released : c.tendOrder = .release) : exec .amend s = .next (s.answered q qs .wrongState [] s) :=
  h.wrongState (order_range tended (by decide) (by decide)) (one_winch (by decide) c) (one_ends (by decide) c) (by
    rewrite [Coupling.ordersRefused, released]
    simp [valueOf])

/-! ## Declares (R87, R88) -/

theorem declare_range (low : 0 ≤ v) (high : v ≤ if c.winchTended then 0 else 1) :
    checkItems [⟨10, v⟩] (couplingRange ((givenTending [⟨10, v⟩] c.tending).code == 1)) = none := by
  rewrite [one_stands (by decide), c.code_winchTended, checkItems_singleton]
  cases tended : c.winchTended with
  | true =>
    rewrite [tended] at high
    have only : v = 0 := le_antisymm (by simpa using high) low
    subst only
    rfl
  | false =>
    rewrite [tended] at high
    have top : v ≤ 1 := by simpa using high
    simp [couplingRange, inRange, refuseIf, within, low, top]

namespace Coupling

/-- R87, R88: a declare given to a coupling. -/
def declared (c : Coupling) (made : Bool) : Coupling :=
  if c.winchTended then { c with state := .unlashed, tendOrder := .none }
  else { c with declaredMade := made, state := if made then .made else .unlashed }

theorem declared_number (c : Coupling) (made : Bool) : (c.declared made).number = c.number := by
  unfold Coupling.declared
  split <;> rfl

end Coupling

theorem Txn.HasCoupling.giveDeclare {x : Txn} (h : x.HasCoupling c) (made : Bool) :
    x.giveDeclare c.number made = (x.putCoupling (c.declared made)).touch := by
  rewrite [Txn.giveDeclare, h.found, Coupling.declared]
  dsimp only
  split
  · rw [h.modCoupling rfl rfl]
  · rw [h.modCoupling rfl rfl]

theorem amend_declare (h : s.Amends q qs c [⟨10, v⟩]) (low : 0 ≤ v) (high : v ≤ if c.winchTended then 0 else 1)
    (lost : c.winchTended = true → c.state = .lost) : exec .amend s = .next (s.answered q qs .done [] { s with
      couplings := update (·.number == c.number) (fun _ => c.declared (v == 1)) s.couplings }) := by
  refine h.taken (cs := []) (declare_range low high) (one_winch (by decide) c) (one_ends (by decide) c)
    (by rewrite [one_unmoved (.inr rfl)]; rfl) ?_ (c.declared_number _) ⟨true, ?_⟩
  · have none : valueOf [⟨10, v⟩] 9 = none := rfl
    rewrite [Coupling.ordersRefused, none]
    cases tended : c.winchTended with
    | true => simp [lost tended]
    | false => rfl
  · rewrite [one_amended (.inr rfl), h.has.putCoupling_self]
    exact h.has.giveDeclare _

theorem amend_declare_refused (h : s.Amends q qs c [⟨10, 0⟩]) (tended : c.winchTended = true) (held : c.state ≠ .lost) :
    exec .amend s = .next (s.answered q qs .wrongState [] s) :=
  h.wrongState (declare_range (by decide) (by rewrite [tended]; decide)) (one_winch (by decide) c) (one_ends (by decide) c) (by
    rewrite [Coupling.ordersRefused, tended]
    simp [valueOf, held])

/-- R75: a rated load given to a coupling. -/
theorem amend_rated {v : Nat} (h : s.Amends q qs c [⟨8, v⟩]) (low : 10 ≤ v) (high : v ≤ 2000) :
    exec .amend s = .next (s.answered q qs .done [] { s with
      couplings := update (·.number == c.number) (fun _ => { c with rated := v }) s.couplings }) := by
  have amended : c.amendedBy [⟨8, v⟩] = { c with rated := v } := Coupling.amendedBy_rated rfl rfl rfl rfl rfl rfl
  refine h.taken (cs := []) ?_ (one_winch (by decide) c) (one_ends (by decide) c) ?_ ?_ rfl ⟨false, ?_⟩
  · rewrite [one_stands (by decide), checkItems_singleton]
    have within8 : within (v : Int) 10 2000 = true := (within_natCast v 10 2000).trans (by simp [low, high])
    simp [couplingRange, inRange, refuseIf, within8]
  · simp [Coupling.movedBy, amended]
  · simp [Coupling.ordersRefused, valueOf]
  · rewrite [amended]
    rfl

end

/-! AMEND of the ends and of the tending of a coupling that faces the boat (R74, R76). -/

section
variable {s : State} {q : Request} {qs : List Request} {c : Coupling} {is : List Item}

/-- R74: a coupling that faces the boat with an enrolled barge. -/
structure State.Faces (s : State) (c : Coupling) : Prop where
  kind : c.kind = .face
  endA : c.endA = .boat
  endB : (s.barge? c.endB).isSome = true

theorem firstFailure_singleton (r : Option Result) : firstFailure [r] = r := by cases r <;> rfl

theorem firstFailure_cons_none (l : List (Option Result)) : firstFailure (none :: l) = firstFailure l := rfl

/-- R74: the ends of a coupling that faces the boat. -/
theorem State.endsRefused_face (s : State) (v : Nat) (t : Tending) : s.endsRefused .face .boat v t =
    if (s.barge? v).isSome then
      match t with
      | .hand => none
      | .winch m _ => refuseIf (!(m == .boat || m == .barge v)) (.badField 6)
    else some (.badField 4) := by
  cases enrolled : (s.barge? v).isSome with
  | false => simp [State.endsRefused, State.enrolledMember, enrolled, refuseIf, firstFailure]
  | true =>
    cases t with
    | hand => simp [State.endsRefused, State.enrolledMember, enrolled, refuseIf, firstFailure, State.adjacent]
    | winch m k =>
      simp only [State.endsRefused, State.enrolledMember, enrolled, refuseIf, State.adjacent, Bool.not_true,
        Bool.false_eq_true, if_false, if_true, show (Member.boat == Member.barge v) = false from rfl,
        firstFailure_cons_none, Bool.or_false]
      exact firstFailure_singleton _

/-! ## End B (R76) -/

section
variable {v : Nat}

theorem amended_endB : c.amendedBy [⟨4, v⟩] = { c with endB := v } := by
  have stands : givenTending [⟨4, v⟩] c.tending = c.tending := givenTending_stands rfl rfl rfl
  simp [Coupling.amendedBy, stands, valueOf, given]

theorem endB_range (low : 1 ≤ v) (high : v ≤ 65535) :
    checkItems [⟨4, v⟩] (couplingRange ((givenTending [⟨4, v⟩] c.tending).code == 1)) = none := by
  have inside : within (v : Int) 1 65535 = true := (within_natCast v 1 65535).trans (by simp [low, high])
  rewrite [checkItems_singleton]
  simp [couplingRange, inRange, refuseIf, inside]

theorem endB_winch (hand : c.tending = .hand) :
    ((givenTending [⟨4, v⟩] c.tending).code == 1 && !c.winchTended) = true →
      gives [⟨4, (v : Int)⟩] 6 = true ∧ gives [⟨4, (v : Int)⟩] 7 = true := by
  have stands : givenTending [⟨4, v⟩] c.tending = c.tending := givenTending_stands rfl rfl rfl
  rewrite [stands, hand]
  exact fun h => absurd h Bool.false_ne_true

theorem endB_ends (faces : s.Faces c) (hand : c.tending = .hand) : s.amendedEnds c [⟨4, v⟩] =
    if (s.barge? v).isSome then none else some (.badField 4) := by
  have any : [2, 3, 4, 5, 6, 7].any (gives [⟨4, (v : Int)⟩]) = true := rfl
  rewrite [State.amendedEnds, any, if_pos rfl, amended_endB]
  dsimp only
  rewrite [faces.kind, faces.endA, hand]
  exact s.endsRefused_face v .hand

theorem endB_moved : c.movedBy [⟨4, v⟩] = decide (v ≠ c.endB) := by
  by_cases same : v = c.endB <;> simp [Coupling.movedBy, amended_endB, same]

variable (h : s.Amends q qs c [⟨4, v⟩]) (faces : s.Faces c) (hand : c.tending = .hand)
include h faces hand

theorem amend_endB_absent (low : 1 ≤ v) (high : v ≤ 65535) (absent : s.barge? v = none) :
    exec .amend s = .next (s.answered q qs (.badField 4) [] s) := by
  have ends : s.opened.st.amendedEnds c [⟨4, v⟩] = some (.badField 4) :=
    (endB_ends faces hand).trans (by rewrite [absent]; rfl)
  refine h.refused ?_
  rw [h.has.amend h.whole (endB_range low high) (endB_winch hand), ends]

theorem amend_endB (low : 1 ≤ v) (high : v ≤ 65535) (enrolled : (s.barge? v).isSome = true)
    (allowed : v = c.endB ∨ c.state = .unlashed) : exec .amend s = .next (s.answered q qs .done [] { s with
      couplings := update (·.number == c.number) (fun _ => { c with endB := v }) s.couplings }) := by
  refine h.taken (cs := []) (endB_range low high) (endB_winch hand) ((endB_ends faces hand).trans (if_pos enrolled)) ?_ ?_
    rfl ⟨false, ?_⟩
  · rewrite [endB_moved]
    rcases allowed with same | unlashed
    · simp [same]
    · simp [unlashed]
  · simp [Coupling.ordersRefused, valueOf]
  · rewrite [amended_endB]
    rfl

theorem amend_endB_refused (low : 1 ≤ v) (high : v ≤ 65535) (enrolled : (s.barge? v).isSome = true)
    (moves : v ≠ c.endB) (held : c.state ≠ .unlashed) : exec .amend s = .next (s.answered q qs .wrongState [] s) :=
  h.wrongState (endB_range low high) (endB_winch hand) ((endB_ends faces hand).trans (if_pos enrolled)) (by
    rewrite [endB_moved]
    simp [moves, held])

end

/-! ## Tending (R76) -/

/-- R76: a coupling with another tending: its readings, its winch fault and the orders of the other kind go. -/
def Coupling.retended (c : Coupling) (t : Tending) : Coupling :=
  let other : Bool := (t == .hand) != (c.tending == .hand)
  { c with
    tending := t, tension := none, seated := none, winchFault := false
    tendOrder := if other then .none else c.tendOrder
    declaredMade := c.declaredMade && !other }

theorem Tending.code_eq (t : Tending) : (t.code == 1) = !(t == .hand) := by cases t <;> rfl

theorem Coupling.winchTended_eq (c : Coupling) : c.winchTended = !(c.tending == .hand) := by
  rw [← c.code_winchTended, Tending.code_eq]

theorem amended_tending {t : Tending} (tending : givenTending is c.tending = t) (changed : t ≠ c.tending)
    (two : valueOf is 2 = none) (three : valueOf is 3 = none) (four : valueOf is 4 = none) (eight : valueOf is 8 = none) :
    c.amendedBy is = c.retended t := by
  have other : ((t.code == 1) != c.winchTended) = ((t == .hand) != (c.tending == .hand)) := by
    rewrite [t.code_eq, c.winchTended_eq]
    cases t == .hand <;> cases c.tending == .hand <;> rfl
  have moved : (t != c.tending) = true := by simpa using changed
  rewrite [Coupling.amendedBy, tending, moved, other, two, three, given, four, given, eight]
  simp [Coupling.retended]

/-- R76: what the items of a new tending pass. -/
structure State.Retends (s : State) (c : Coupling) (is : List Item) (t : Tending) : Prop where
  tending : givenTending is c.tending = t
  changed : t ≠ c.tending
  two : valueOf is 2 = none
  three : valueOf is 3 = none
  four : valueOf is 4 = none
  eight : valueOf is 8 = none
  nine : valueOf is 9 = none
  range : checkItems is (couplingRange (t.code == 1)) = none
  winch : (t.code == 1 && !c.winchTended) = true → gives is 6 = true ∧ gives is 7 = true
  own : ∀ m k, t = .winch m k → m = .boat ∨ m = .barge c.endB

section
variable {t : Tending}

namespace State.Retends

theorem amended (r : s.Retends c is t) : c.amendedBy is = c.retended t :=
  amended_tending r.tending r.changed r.two r.three r.four r.eight

theorem ends (faces : s.Faces c) (r : s.Retends c is t) : s.amendedEnds c is = none := by
  rewrite [State.amendedEnds, r.amended]
  split
  · refine (?_ : s.endsRefused c.kind c.endA c.endB t = none)
    rewrite [faces.kind, faces.endA, s.endsRefused_face, if_pos faces.endB]
    cases t with
    | hand => rfl
    | winch m k =>
      rcases r.own m k rfl with rfl | rfl
      · rfl
      · simp [refuseIf]
  · rfl

theorem moved (r : s.Retends c is t) : c.movedBy is = true := by
  have changed : (t != c.tending) = true := by simpa using r.changed
  rewrite [Coupling.movedBy, r.amended]
  exact (congrArg (fun b => _ || b) changed).trans (Bool.or_true _)

end State.Retends

variable (h : s.Amends q qs c is) (faces : s.Faces c) (r : s.Retends c is t)
include h faces r

theorem amend_tending_refused (held : c.state ≠ .unlashed ∨ c.winchTended = true ∧ valueOf is 10 = some 0) :
    exec .amend s = .next (s.answered q qs .wrongState [] s) := by
  refine h.wrongState (by rewrite [r.tending]; exact r.range) (by rewrite [r.tending]; exact r.winch) (r.ends faces) ?_
  rewrite [r.moved]
  by_cases unlashed : c.state = .unlashed
  · obtain ⟨tended, ten⟩ := held.resolve_left fun other => other unlashed
    simp [Coupling.ordersRefused, tended, ten, unlashed]
  · simp [unlashed]

theorem amend_tending (unlashed : c.state = .unlashed) (ten : valueOf is 10 = none ∨
    valueOf is 10 = some 0 ∧ c.tending = .hand ∧ t ≠ .hand) : exec .amend s = .next (s.answered q qs .done [] { s with
      couplings := update (·.number == c.number) (fun _ => c.retended t) s.couplings }) := by
  refine h.taken (cs := []) (by rewrite [r.tending]; exact r.range) (by rewrite [r.tending]; exact r.winch) (r.ends faces)
    (by simp [unlashed]) ?_ rfl ?_
  · rewrite [Coupling.ordersRefused, r.nine]
    rcases ten with none | ⟨-, hand, -⟩
    · simp [none]
    · simp [c.winchTended_eq, hand]
  · rewrite [r.amended, Txn.giveOrders, r.nine]
    rcases ten with none | ⟨zero, hand, other⟩
    · rewrite [none]
      exact ⟨_, rfl⟩
    · rewrite [zero]
      have has : (s.opened.putCoupling (c.retended t)).HasCoupling (c.retended t) := h.has.put rfl h.has.clean
      have tended : (c.retended t).winchTended = true := by
        rewrite [Coupling.winchTended_eq]
        simpa [Coupling.retended] using other
      have stands : (c.retended t).declared false = c.retended t := by
        rewrite [Coupling.declared, if_pos tended]
        have order : (c.retended t).tendOrder = .none := by simp [Coupling.retended, hand, other]
        have state : (c.retended t).state = .unlashed := unlashed
        rw [← order, ← state]
      refine ⟨true, (has.giveDeclare false).trans ?_⟩
      rewrite [stands, has.putCoupling_self]
      rfl

end

end

/-! AMEND of a coupling: the requests of the obligation (R75, R76, R83 to R88). -/

section
variable {s : State} {q : Request} {qs : List Request} {c : Coupling} {m : Member} {w k : Nat} {n : Node}

/-- The item of a declare UNLASHED, where one is given. -/
def declares (declared : Bool) : List Item := if declared then [⟨10, 0⟩] else []

/-- R76: a winch-tended coupling becomes a HAND one. -/
theorem retends_hand (tending : c.tending = .winch m w) (declared : Bool) :
    s.Retends c (⟨5, 0⟩ :: declares declared) .hand where
  tending := by rewrite [tending]; cases declared <;> rfl
  changed := by rewrite [tending]; exact Tending.noConfusion
  two := by cases declared <;> rfl
  three := by cases declared <;> rfl
  four := by cases declared <;> rfl
  eight := by cases declared <;> rfl
  nine := by cases declared <;> rfl
  range := by cases declared <;> rfl
  winch := fun h => absurd h Bool.false_ne_true
  own := fun _ _ h => Tending.noConfusion h

theorem memberOf_code (own : m = .boat ∨ m = .barge c.endB) (low : 1 ≤ c.endB) : memberOf m.code = m := by
  rcases own with rfl | rfl
  · rfl
  · simp [memberOf, Member.code, Nat.ne_of_gt low]

theorem winch_range {v : Int} (low : 0 ≤ v) (high : v ≤ 65535) (lowest : 1 ≤ w) (highest : w ≤ 4) (declared : Bool) :
    checkItems (⟨5, 1⟩ :: ⟨6, v⟩ :: ⟨7, (w : Int)⟩ :: declares declared) (couplingRange true) = none := by
  have index : within (w : Int) 1 4 = true := (within_natCast w 1 4).trans (by simp [lowest, highest])
  refine checkItems_passes ?_
  have five : couplingRange true ⟨5, 1⟩ = none := rfl
  have six : couplingRange true ⟨6, v⟩ = none := inRange_eq_none.mpr ⟨low, high⟩
  have seven : couplingRange true ⟨7, (w : Int)⟩ = none := by simp [couplingRange, inRange, refuseIf, index]
  have ten : ∀ i ∈ declares declared, couplingRange true i = none := by
    cases declared
    · exact fun i hi => absurd hi List.not_mem_nil
    · exact fun i hi => by rewrite [List.mem_singleton.mp hi]; rfl
  intro i hi
  simp only [List.mem_cons] at hi
  obtain rfl | rfl | rfl | hi := hi
  · exact five
  · exact six
  · exact seven
  · exact ten i hi

/-- R76: a coupling comes to be tended by a winch of the boat or of end B. -/
theorem retends_winch (own : m = .boat ∨ m = .barge c.endB) (lowest : 1 ≤ w) (highest : w ≤ 4) (high : c.endB ≤ 65535)
    (low : 1 ≤ c.endB) (changed : c.tending ≠ .winch m w) (declared : Bool) :
    s.Retends c (⟨5, 1⟩ :: ⟨6, m.code⟩ :: ⟨7, (w : Int)⟩ :: declares declared) (.winch m w) where
  tending := by
    have tending : ∀ t, givenTending (⟨5, 1⟩ :: ⟨6, m.code⟩ :: ⟨7, (w : Int)⟩ :: declares declared) t =
        .winch (memberOf m.code) w := fun t => by cases t <;> rfl
    rw [tending, memberOf_code own low]
  changed := changed.symm
  two := by cases declared <;> rfl
  three := by cases declared <;> rfl
  four := by cases declared <;> rfl
  eight := by cases declared <;> rfl
  nine := by cases declared <;> rfl
  range := by
    refine winch_range ?_ ?_ lowest highest declared
    · rcases own with rfl | rfl <;> simp [Member.code]
    · rcases own with rfl | rfl <;> simp [Member.code, high]
  winch := fun _ => ⟨rfl, rfl⟩
  own := fun m' k' same => by
    obtain ⟨rfl, rfl⟩ := Tending.winch.inj same
    exact own

theorem declares_ten (declared : Bool) : valueOf (⟨5, 0⟩ :: declares declared) 10 = if declared then some 0 else none := by
  cases declared <;> rfl

theorem declares_ten_winch (v : Int) (declared : Bool) :
    valueOf (⟨5, 1⟩ :: ⟨6, v⟩ :: ⟨7, (w : Int)⟩ :: declares declared) 10 = if declared then some 0 else none := by
  cases declared <;> rfl

/-- R76: WINCH tending of a HAND coupling without its member. -/
theorem amend_memberless (h : s.Amends q qs c [⟨5, 1⟩, ⟨7, 1⟩]) (hand : c.tending = .hand) :
    exec .amend s = .next (s.answered q qs (.badField 6) [] s) := by
  refine h.refused ?_
  have untended : c.winchTended = false := by rewrite [c.winchTended_eq, hand]; rfl
  have found : s.opened.st.coupling? c.number = some c := h.found
  rewrite [amendCoupling, found]
  dsimp only
  rewrite [hand, untended]
  rfl

/-- R85: NONE given, by the tend order held. -/
theorem amend_none_cases (h : s.Amends q qs c [⟨9, 0⟩]) (tending : c.tending = .winch m w)
    (listed : s.nodeOf m = some n) (winch : w ≤ n.winches) :
    match c.tendOrder with
    | .release => exec .amend s = .next (s.answered q qs .wrongState [] s)
    | .make => exec .amend s = .next (s.answered q qs .done [] { s.placed n w .hold with
        couplings := update (·.number == c.number) (fun _ => { c with tendOrder := .none }) (s.placed n w .hold).couplings })
    | .none => exec .amend s = .next (s.answered q qs .done [] s) := by
  have tended : c.winchTended = true := by rewrite [c.winchTended_eq, tending]; rfl
  cases order : c.tendOrder with
  | release => exact amend_none_refused h tended order
  | make => exact amend_none h tending listed winch order
  | none => exact amend_none_idle h tending order

/-- R76: end B given to a HAND coupling that faces the boat. -/
theorem amend_endB_cases {v : Nat} (h : s.Amends q qs c [⟨4, v⟩]) (faces : s.Faces c) (hand : c.tending = .hand)
    (low : 1 ≤ v) (high : v ≤ 65535) :
    (s.barge? v = none → exec .amend s = .next (s.answered q qs (.badField 4) [] s)) ∧
    (v = c.endB → exec .amend s = .next (s.answered q qs .done [] s)) ∧
    ((s.barge? v).isSome = true → v ≠ c.endB → if c.state = .unlashed then
        exec .amend s = .next (s.answered q qs .done [] { s with
          couplings := update (·.number == c.number) (fun _ => { c with endB := v }) s.couplings })
      else exec .amend s = .next (s.answered q qs .wrongState [] s)) := by
  refine ⟨amend_endB_absent h faces hand low high, fun same => ?_, fun enrolled moves => ?_⟩
  · subst same
    refine (amend_endB h faces hand low high faces.endB (.inl rfl)).trans ?_
    exact congrArg (fun l => Host.Outcome.next (s.answered q qs .done [] { s with couplings := l }))
      (put_self (key := Coupling.number) h.has.once h.found)
  · split
    · next unlashed => exact amend_endB h faces hand low high enrolled (.inr unlashed)
    · next held => exact amend_endB_refused h faces hand low high enrolled moves held

/-- R76, R88: HAND tending, and a declare with it, given to a winch-tended coupling. -/
theorem amend_hand_cases {declared : Bool} (h : s.Amends q qs c (⟨5, 0⟩ :: declares declared)) (faces : s.Faces c)
    (tending : c.tending = .winch m w) : if c.state = .unlashed ∧ declared = false then
        exec .amend s = .next (s.answered q qs .done [] { s with
          couplings := update (·.number == c.number) (fun _ => c.retended .hand) s.couplings })
      else exec .amend s = .next (s.answered q qs .wrongState [] s) := by
  have tended : c.winchTended = true := by rewrite [c.winchTended_eq, tending]; rfl
  have ten := declares_ten declared
  split
  · next free =>
    obtain ⟨unlashed, rfl⟩ := free
    exact amend_tending h faces (retends_hand tending false) unlashed (.inl ten)
  · next held =>
    refine amend_tending_refused h faces (retends_hand tending declared) ?_
    by_cases unlashed : c.state = .unlashed
    · have given : declared = true := by
        by_contra no
        exact held ⟨unlashed, by simpa using no⟩
      exact .inr ⟨tended, ten.trans (if_pos given)⟩
    · exact .inl unlashed

/-- R76, R88: WINCH tending, and a declare with it, given to a coupling. -/
theorem amend_winch_cases {declared : Bool} (own : m = .boat ∨ m = .barge c.endB) (lowest : 1 ≤ w) (highest : w ≤ 4)
    (high : c.endB ≤ 65535) (low : 1 ≤ c.endB)
    (h : s.Amends q qs c (⟨5, 1⟩ :: ⟨6, m.code⟩ :: ⟨7, (w : Int)⟩ :: declares declared)) (faces : s.Faces c)
    (changed : c.tending ≠ .winch m w) : if c.state = .unlashed ∧ (c.winchTended = false ∨ declared = false) then
        exec .amend s = .next (s.answered q qs .done [] { s with
          couplings := update (·.number == c.number) (fun _ => c.retended (.winch m w)) s.couplings })
      else exec .amend s = .next (s.answered q qs .wrongState [] s) := by
  have r := retends_winch (s := s) own lowest highest high low changed declared
  have ten := declares_ten_winch (w := w) m.code declared
  split
  · next free =>
    obtain ⟨unlashed, plain⟩ := free
    refine amend_tending h faces r unlashed ?_
    cases declared with
    | false => exact .inl ten
    | true =>
      have untended := plain.resolve_right (by decide)
      have hand : c.tending = .hand := by
        rewrite [c.winchTended_eq] at untended
        simpa using untended
      exact .inr ⟨ten, hand, Tending.noConfusion⟩
  · next held =>
    refine amend_tending_refused h faces r ?_
    by_cases unlashed : c.state = .unlashed
    · have both : c.winchTended = true ∧ declared = true := by
        constructor
        · by_contra no
          exact held ⟨unlashed, .inl (by simpa using no)⟩
        · by_contra no
          exact held ⟨unlashed, .inr (by simpa using no)⟩
      exact .inr ⟨both.1, ten.trans (if_pos both.2)⟩
    · exact .inl unlashed

end

/-- R84: MAKE as it is written to the couplings of a number. -/
def Coupling.makes (on : Bool) (clock : Nat) (d : Coupling) : Coupling :=
  { d with
    tendOrder := .make
    state := if on then .settling else .unlashed
    debounce := if on then some clock else d.debounce }

theorem makes_found {c : Coupling} {k : Nat} {l : List Coupling} (once : (l.map (·.number)).Nodup)
    (found : l.find? (·.number == k) = some c) (on : Bool) (clock : Nat) :
    update (·.number == k) (Coupling.makes on clock) l = update (·.number == k) (fun _ => c.makes on clock) l :=
  update_found once found _

/-- R84: the fields that MAKE writes to a coupling in UNLASHED or LOST. -/
theorem Coupling.givenMake_loose {c : Coupling} (loose : c.state = .unlashed ∨ c.state = .lost) (clock : Nat) :
    c.givenMake clock = c.makes (c.seated == some true) clock := by
  have order : c.givenMake clock = if c.seated = some true then
      { c with state := .settling, tendOrder := .make, debounce := some clock }
      else { c with state := .unlashed, tendOrder := .make } := by
    rcases loose with state | state <;> rw [Coupling.givenMake, state]
  rewrite [order]
  by_cases on : c.seated = some true <;> simp [on, Coupling.makes]

theorem declare_cases {s : State} {q : Request} {qs : List Request} {c : Coupling} (made : Bool)
    (h : s.Amends q qs c [⟨10, if made then 1 else 0⟩]) (hand : c.winchTended = false) :
    exec .amend s = .next (s.answered q qs .done [] { s with
      couplings := update (·.number == c.number)
        (fun _ => { c with declaredMade := made, state := if made then .made else .unlashed }) s.couplings }) := by
  have value : ((if made then 1 else 0 : Int) == 1) = made := by cases made <;> rfl
  refine (amend_declare h (by cases made <;> decide) ?_ fun tended => absurd tended (by simp [hand])).trans ?_
  · rewrite [hand]
    cases made <;> decide
  · rewrite [value, Coupling.declared, hand]
    rfl

/-- Settles O16, request by request: each is an AMEND in WHOLE that passes its checks or is refused for its state. -/
theorem amendMakesACoupling : Obligations.AmendMakesACoupling := by
  refine ⟨fun s q qs k w c m n hs hq free law whole found undamaged tending loose listed winch => ?_,
    fun s q qs c v hs free law whole found undamaged => ?_⟩
  · have once : (s.couplings.map (·.number)).Nodup := ((s.recordLaw_iff).mp law).2.1
    rewrite [amend_make hs hq free law whole found undamaged tending loose listed winch, Coupling.givenMake_loose loose,
      ← makes_found once found]
    rfl
  · have amends {is : List Item} (hq : q.carries 0x04 3 (⟨1, c.number⟩ :: is))
        (fields : (onceEach (is.map (·.field)) && is.all (·.field != 1) && !is.isEmpty) = true) : s.Amends q qs c is :=
      exec_amends hs free law whole found undamaged hq fields
    refine ⟨fun hq low high => amend_rated (amends hq rfl) low high, fun m w n tending listed winch =>
      ⟨fun hq => ?_, fun hq => amend_none_cases (amends hq rfl) tending listed winch⟩, fun tended hq => ?_,
      fun hand made hq => declare_cases made (amends hq rfl) hand, fun kind endA endB => ?_⟩
    · refine (amend_release (amends hq rfl) tending listed winch).trans ?_
      rfl
    · split
      · next lost =>
        refine (amend_declare (amends hq rfl) (by decide) (by rewrite [tended]; decide) fun _ => lost).trans ?_
        rw [Coupling.declared, if_pos tended]
      · next held => exact amend_declare_refused (amends hq rfl) tended held
    · have faces : s.Faces c := ⟨kind, endA, endB⟩
      refine ⟨fun hand hq low high => amend_endB_cases (amends hq rfl) faces hand low high, fun declared =>
        ⟨fun m w tending hq => ?_, fun m w own lowest highest high low hq changed => ?_⟩,
        fun hand hq => amend_memberless (amends hq rfl) hand⟩
      · exact amend_hand_cases (amends (is := ⟨5, 0⟩ :: declares declared) hq (by cases declared <;> rfl)) faces tending
      · exact amend_winch_cases own lowest highest high low
          (amends (is := ⟨5, 1⟩ :: ⟨6, m.code⟩ :: ⟨7, (w : Int)⟩ :: declares declared) hq (by cases declared <;> rfl))
          faces changed

/-! Requests that move the binding of one address (R56). -/

section
variable {before : State} {x : Txn} {a : Nat}

/-- R56: the listed addresses that a change of one binding concerns. -/
theorem rebound_contains {after : State} (nodes : before.tow.nodes = after.tow.nodes)
    (moved : before.bound a ≠ after.bound a) (kept : ∀ d, d ≠ a → before.bound d = after.bound d) (d : Nat) :
    (rebound before after).contains d = (d == a && after.tow.nodes.any (·.address == a)) := by
  rewrite [Bool.eq_iff_iff]
  simp only [rebound, nodes, List.contains_iff_mem, List.mem_map, List.mem_filter, Bool.and_eq_true, List.any_eq_true,
    beq_iff_eq, bne_iff_ne]
  constructor
  · rintro ⟨n, ⟨mem, -, change⟩, rfl⟩
    have here : n.address = a := by
      by_contra other
      exact change (kept _ other)
    exact ⟨here, n, mem, here⟩
  · rintro ⟨rfl, n, mem, here⟩
    exact ⟨n, ⟨mem, ⟨n, mem, rfl⟩, by rewrite [here]; exact moved⟩, here⟩

namespace TowPhase

/-- R69: what a delivery with the node at one address still acts on. -/
def without (p : TowPhase) (a : Nat) : TowPhase := p.forget [a]

theorem forget_eq {as : List Nat} (p : TowPhase) (only : ∀ d, as.contains d = (d == a)) :
    p.forget as = p.without a := by
  have single (d : Nat) : [a].contains d = as.contains d := by
    rw [only, List.contains_cons, List.contains_nil, Bool.or_false]
  cases p <;> simp only [TowPhase.without, TowPhase.forget, single]

end TowPhase

namespace State

theorem winchNodeAtBow_emptied (s : State) (p : Node → Bool) (phase : TowPhase) :
    ({ s with tow := { s.tow with nodes := update p Node.emptied s.tow.nodes, phase := phase } } : State).winchNodeAtBow =
      s.winchNodeAtBow := by
  have bound : ({ s with tow := { s.tow with nodes := update p Node.emptied s.tow.nodes, phase := phase } } : State).bound =
      s.bound := State.bound_congr _ _ rfl rfl
  have bow : ({ s with tow := { s.tow with nodes := update p Node.emptied s.tow.nodes, phase := phase } } : State).bowBarge? =
      s.bowBarge? := rfl
  unfold State.winchNodeAtBow
  rewrite [bound, bow]
  cases s.bowBarge? with
  | none => rfl
  | some h =>
    dsimp only
    rewrite [update, List.any_map]
    refine congrArg (fun f => s.tow.nodes.any f) (funext fun n => ?_)
    dsimp only [Function.comp]
    split <;> rfl

/-- R56, R69, R144: an address listed whose binding has changed. -/
theorem reboundAt_listed (s : State) (listed : s.tow.nodes.any (·.address == a) = true) :
    s.reboundAt a = { s with
      tow := { s.tow with nodes := update (·.address == a) Node.emptied s.tow.nodes, phase := s.tow.phase.without a }
      engines := if s.winchNodeAtBow then s.engines
        else update (fun e => e.number == 5 && e.state == .rejected) (·.inState .offline) s.engines } := by
  have bow : s.winchNodeAtBow = (match s.bowBarge? with
      | none => false
      | some h => s.tow.nodes.any fun n => !n.bow && s.bound n.address == some (.barge h)) := rfl
  rewrite [State.reboundAt, if_pos listed, bow]
  cases s.tow.phase <;>
    simp only [TowPhase.without, TowPhase.forget, List.contains_cons, List.contains_nil, Bool.or_false, beq_iff_eq] <;> rfl

end State

namespace Txn

theorem releaseBow_free (free : x.st.errorFree = true) : x.releaseBow = x.on fun s => { s with
    engines := if s.winchNodeAtBow then s.engines
      else update (fun e => e.number == 5 && e.state == .rejected) (·.inState .offline) s.engines } := by
  rewrite [Txn.releaseBow, Txn.readBow, Txn.read_errorFree x free]
  cases bow : x.st.winchNodeAtBow with
  | true => simp [Txn.on, bow]
  | false => simp [Txn.on, bow, Engine.inState]

/-- R56: the end of a transaction that has moved the binding of one address. -/
theorem commit_rebound (untouched : x.touched = false) (uncommanded : x.commands = [])
    (nodes : before.tow.nodes = x.st.tow.nodes) (moved : before.bound a ≠ x.st.bound a)
    (kept : ∀ d, d ≠ a → before.bound d = x.st.bound d)
    (free : x.st.errorFree = true ∨ ∀ n ∈ x.st.tow.nodes, n.address ≠ a) : x.commit before = x.st.reboundAt a := by
  have settled : x.settleBindings before = { x with st := x.st.reboundAt a } := by
    have contains := rebound_contains nodes moved kept
    cases listed : x.st.tow.nodes.any (·.address == a) with
    | false =>
      rewrite [State.reboundAt_unlisted x.st a (by simpa using listed)]
      exact x.settleBindings_same before fun n mem => kept _ fun here => by
        have := List.any_eq_false.mp listed n mem
        exact this (by simpa using here)
    | true =>
      simp only [listed, Bool.and_true] at contains
      have free : x.st.errorFree = true := free.resolve_right fun unlisted => by
        obtain ⟨n, mem, here⟩ := List.any_eq_true.mp listed
        exact unlisted n mem (by simpa using here)
      cases addresses : rebound before x.st with
      | nil =>
        have := contains a
        simp [addresses] at this
      | cons d ds =>
        rewrite [addresses] at contains
        have only : (fun n : Node => (d :: ds).contains n.address) = fun n => n.address == a := funext fun n => contains _
        rewrite [Txn.settleBindings, addresses]
        dsimp only
        dsimp only [Txn.on]
        rewrite [only, TowPhase.forget_eq _ contains, Txn.releaseBow_free (by exact free), State.reboundAt_listed _ listed]
        dsimp only [Txn.on]
        rw [State.winchNodeAtBow_emptied]
  simp [Txn.commit, untouched, settled, uncommanded, State.placeCommands]

end Txn

end

section
variable {c : Instr} {code : Byte} {body : Request → Txn → Answer} {s : State} {q : Request} {qs : List Request}
  {r : Result} {items : List ResponseItem}

/-- R23, R56: a request that moves the binding of one address. -/
theorem exec_rebound {after : State} {a : Nat} (hb : requestBodyOf c = some body) (hc : requestCodeOf c = some code)
    (hs : s.serves q qs) (hq : q.code = code)
    (hy : body q s.opened = (({ s.opened with st := { after with arbiter := s.arbiter.grant .console } } : Txn), r, items))
    (nodes : after.tow.nodes = s.tow.nodes) (moved : s.bound a ≠ after.bound a)
    (kept : ∀ d, d ≠ a → s.bound d = after.bound d)
    (free : after.errorFree = true ∨ ∀ n ∈ after.tow.nodes, n.address ≠ a) :
    exec c s = .next (s.answered q qs r items (after.reboundAt a)) := by
  have ends := Txn.commit_rebound (x := ({ s.opened with st := { after with arbiter := s.arbiter.grant .console } } : Txn))
    (before := s.take .console) rfl rfl nodes.symm moved kept free
  rewrite [exec_answer hb hc hs hq hy, ends]
  have granted : ({ after with arbiter := s.arbiter.grant .console } : State).reboundAt a =
      { after.reboundAt a with arbiter := s.arbiter.grant .console } := by
    by_cases listed : after.tow.nodes.any (·.address == a) = true
    · rewrite [State.reboundAt, State.reboundAt, if_pos listed, if_pos listed]
      rfl
    · rw [State.reboundAt, State.reboundAt, if_neg listed, if_neg listed]
  dsimp only
  rewrite [granted]
  rfl

end

/-! RETIRE: the contexts that a record takes with it (R98). -/

/-! ## Requests (R32) -/

/-- R32: RETIRE of a record of a table. -/
def retireTable (t : Tbl) (key : Nat) (x : Txn) : Answer :=
  match t with
  | .barges => retireBarge key x
  | .couplings => retireCoupling key x
  | .engines => retireEngine key x
  | .rudders => retireRudder key x
  | .tanks => retireTank key x
  | .transfers => retireTransfer key x

theorem requestRetire_record {q : Request} {table : Byte} {t : Tbl} {key : Nat} (hq : q.carries 0x05 table [⟨1, key⟩])
    (ht : storeTable table.toNat = some t) (x : Txn) : requestRetire q x = retireTable t key x := by
  have parsed := Request.exactly_of_carries hq (t := q.table.toNat) (fields := [1]) (by rw [hq.2.1]) rfl rfl
  have keyOf : (valueOf [(⟨1, key⟩ : Item)] 1).bind natOf = some key := by simp [valueOf, natOf]
  rewrite [requestRetire, parsed, hq.2.1, ht]
  dsimp only
  rewrite [keyOf]
  rfl

/-! ## A context removed (R98) -/

theorem MachineryLink.without_context_ne (l : MachineryLink) {a d : Nat} (other : d ≠ a) :
    (l.without a).contexts.find? (·.address == d) = l.contexts.find? (·.address == d) := by
  rewrite [MachineryLink.without, List.find?_filter]
  refine congrArg (fun p => l.contexts.find? p) (funext fun c => ?_)
  by_cases here : c.address = d <;> simp [here, other]

theorem State.context?_without (s : State) {a d : Nat} (other : d ≠ a) :
    (s.withoutContext a).context? d = s.context? d := s.link.without_context_ne other

theorem filter_ne_twice {α : Type} (key : α → Nat) (a : Nat) (l : List α) :
    (l.filter (key · != a)).filter (key · != a) = l.filter (key · != a) :=
  List.filter_eq_self.mpr fun _ mem => (List.mem_filter.mp mem).2

namespace State

/-- R98: the address holds no context, and nothing of one. -/
theorem withoutContext_twice (s : State) (a : Nat) :
    (s.withoutContext a).withoutContext a = s.withoutContext a ∧ (s.withoutContext a).context? a = none := by
  constructor
  · have exchange (o : Option LinkExchange) : ((o.map fun e => { e with stale := e.stale || e.address == a }).map
        fun e => { e with stale := e.stale || e.address == a }) =
        o.map fun e => { e with stale := e.stale || e.address == a } := by
      cases o <;> simp
    have cycle (o : Option Cycle) : ((o.map fun c => { c with slots := c.slots.filter (· != a) }).map
        fun c => { c with slots := c.slots.filter (· != a) }) = o.map fun c => { c with slots := c.slots.filter (· != a) } := by
      cases o <;> simp
    rewrite [State.withoutContext, State.withoutContext, filter_ne_twice, MachineryLink.without, MachineryLink.without]
    dsimp only
    rw [filter_ne_twice, filter_ne_twice, exchange, cycle]
  · exact List.find?_eq_none.mpr fun c mem => by simpa using (List.mem_filter.mp mem).2

/-- R98: the record that a context served has gone. -/
def orphaned (s : State) (c : Context) : Prop :=
  match c.kind with
  | .engine => ∀ e ∈ s.engines, e.number ≠ c.key
  | .rudder => ∀ r ∈ s.rudders, r.channel ≠ c.key
  | .meter => True
  | .pump => ∀ t ∈ s.transfers, t.number ≠ c.key
  | .gauge => ∀ t ∈ s.tanks, t.number ≠ c.key

end State

theorem update_absent {α : Type} {key : α → Nat} {k : Nat} {l : List α} (gone : ∀ a ∈ l, key a ≠ k) (f : α → α) :
    update (key · == k) f l = l := update_none _ _ _ fun a mem => by simpa using gone a mem

namespace Txn

theorem pumpLost_absent (x : Txn) {k : Nat} (gone : ∀ t ∈ x.st.transfers, t.number ≠ k) : x.pumpLost k = x := by
  have nowhere : x.st.transfer? k = none := List.find?_eq_none.mpr fun t mem => by simpa using gone t mem
  have unsound : x.st.sound .transfers k = false := by simp [State.sound, State.header?, nowhere]
  rw [Txn.pumpLost, Txn.read_unsound x _ _ _ unsound]

/-- R98: what a context does to the records when it goes, where its record has gone before. -/
theorem leaveExchange_orphaned {x : Txn} {c : Context} (gone : x.st.orphaned c) :
    x.leaveExchange c = x ∨
      x.leaveExchange c = (x.modContext c.address fun c => { c with baseline := none, lastTemperature := none }).withdraw
        c.address := by
  rewrite [State.orphaned] at gone
  rewrite [Txn.leaveExchange]
  cases kind : c.kind with
  | engine =>
    rewrite [kind] at gone
    have stands : x.engineLeavesRunning c.key = x := by
      rw [Txn.engineLeavesRunning, Txn.modEngine, Txn.on, update_absent (key := Engine.number) gone]
    exact .inl stands
  | rudder =>
    rewrite [kind] at gone
    dsimp only
    rewrite [Txn.modRudder, Txn.on, update_absent (key := Rudder.channel) gone]
    exact .inl rfl
  | meter => exact .inr rfl
  | pump =>
    rewrite [kind] at gone
    exact .inr (Txn.pumpLost_absent _ gone)
  | gauge =>
    rewrite [kind] at gone
    dsimp only
    rewrite [Txn.modTank, Txn.on, update_absent (key := Tank.number) gone]
    exact .inl rfl

end Txn

theorem filter_update_ne {α : Type} {key : α → Nat} {f : α → α} (a : Nat) (stays : ∀ x, key (f x) = key x) (l : List α) :
    (update (key · == a) f l).filter (key · != a) = l.filter (key · != a) := by
  rewrite [update, List.filter_map]
  have same : (fun x => key x != a) ∘ (fun x => if (key x == a) = true then f x else x) = fun x => key x != a :=
    funext fun x => by by_cases here : key x = a <;> simp [here, stays]
  rewrite [same]
  refine (List.map_congr_left fun x mem => ?_).trans (List.map_id _)
  have other : key x ≠ a := by simpa using (List.mem_filter.mp mem).2
  simp [other]

namespace Txn

/-- R98: a context whose record has gone is removed. -/
theorem removeContext_orphaned {x : Txn} {a : Nat} {c : Context} (found : x.st.context? a = some c)
    (gone : x.st.orphaned c) : x.removeContext a = x.on fun s => s.withoutContext a := by
  obtain ⟨rfl, -⟩ := find?_key (key := Context.address) found
  rewrite [Txn.removeContext, found]
  dsimp only
  split
  · rcases Txn.leaveExchange_orphaned gone with same | left
    · rewrite [same]
      rfl
    · rewrite [left]
      simp only [Txn.on, Txn.withdraw, Txn.modContext, State.withoutContext, MachineryLink.without]
      rw [filter_update_ne (key := Context.address) _ (by exact fun _ => rfl), filter_ne_twice]
  · rfl

/-- R98: the contexts at addresses whose record has gone are removed. -/
theorem removeContexts_orphaned : ∀ (addresses : List Nat) {x : Txn},
    (∀ a ∈ addresses, (∃ c, x.st.context? a = some c ∧ x.st.orphaned c) ∨
      x.st.withoutContext a = x.st ∧ x.st.context? a = none) →
    x.forKeys addresses (fun a w => w.removeContext a) = x.on fun s => addresses.foldl State.withoutContext s
  | [], _, _ => rfl
  | a :: as, x, serves => by
    have removed : x.removeContext a = x.on fun s => s.withoutContext a := by
      rcases serves a (by simp) with ⟨c, found, gone⟩ | ⟨same, nowhere⟩
      · exact Txn.removeContext_orphaned found gone
      · rw [Txn.removeContext, nowhere, Txn.on, same]
    rewrite [Txn.forKeys, List.foldl_cons, removed]
    refine Txn.removeContexts_orphaned as (x := x.on fun s => s.withoutContext a) fun d mem => ?_
    by_cases here : d = a
    · rewrite [here]
      exact .inr (x.st.withoutContext_twice a)
    · rcases serves d (by simp [mem]) with ⟨c, found, gone⟩ | ⟨same, nowhere⟩
      · exact .inl ⟨c, (x.st.context?_without here).trans found, gone⟩
      · refine .inr ⟨?_, (x.st.context?_without here).trans nowhere⟩
        have commutes : (x.st.withoutContext a).withoutContext d = (x.st.withoutContext d).withoutContext a := by
          have exchange (o : Option LinkExchange) : ((o.map fun e => { e with stale := e.stale || e.address == a }).map
              fun e => { e with stale := e.stale || e.address == d }) =
              (o.map fun e => { e with stale := e.stale || e.address == d }).map
                fun e => { e with stale := e.stale || e.address == a } := by
            cases o <;> simp [Bool.or_right_comm]
          have cycle (o : Option Cycle) : ((o.map fun c => { c with slots := c.slots.filter (· != a) }).map
              fun c => { c with slots := c.slots.filter (· != d) }) =
              (o.map fun c => { c with slots := c.slots.filter (· != d) }).map
                fun c => { c with slots := c.slots.filter (· != a) } := by
            cases o <;> simp [Bool.and_comm]
          simp only [State.withoutContext, MachineryLink.without]
          rw [List.filter_comm (p := fun x : Reading => x.address != d), List.filter_comm (p := fun x : Context => x.address != d),
            List.filter_comm (p := fun x : SlotResult => x.address != d), exchange, cycle]
        exact commutes.trans (congrArg (fun t => State.withoutContext t a) same)

end Txn

/-! RETIRE of the records of each table (R44, R77, R115, R136, R143, R151, R166). -/

/-! ## The outcome -/

namespace State

theorem withoutContexts_arbiter (b : Arbiter) : ∀ (addresses : List Nat) (s : State),
    addresses.foldl State.withoutContext { s with arbiter := b } =
      { addresses.foldl State.withoutContext s with arbiter := b }
  | [], _ => rfl
  | a :: as, s => State.withoutContexts_arbiter b as (s.withoutContext a)

theorem withoutContexts_roster : ∀ (addresses : List Nat) (s : State),
    (addresses.foldl State.withoutContext s).barges = s.barges ∧ (addresses.foldl State.withoutContext s).policy = s.policy
  | [], _ => ⟨rfl, rfl⟩
  | a :: as, s => State.withoutContexts_roster as (s.withoutContext a)

end State

section
variable {s : State} {q : Request} {qs : List Request} {table : Byte} {t : Tbl} {key : Nat}

/-- R98: a record that is retired with the contexts at addresses. -/
theorem exec_retired {after : State} {addresses : List Nat} (hs : s.serves q qs) (hq : q.carries 0x05 table [⟨1, key⟩])
    (ht : storeTable table.toNat = some t)
    (body : retireTable t key s.opened =
      ((({ s.opened with st := { after with arbiter := s.arbiter.grant .console } } : Txn).forKeys addresses
        fun a w => w.removeContext a), .done, []))
    (serves : ∀ a ∈ addresses, ∃ c, after.context? a = some c ∧ after.orphaned c) (barges : after.barges = s.barges)
    (policy : after.policy = s.policy) :
    exec .retire s = .next (s.answered q qs .done [] (addresses.foldl State.withoutContext after)) := by
  obtain ⟨sameBarges, samePolicy⟩ := State.withoutContexts_roster addresses after
  refine exec_quiet (c := .retire) rfl rfl hs hq.1 ?_ (sameBarges.trans barges) (samePolicy.trans policy)
  rewrite [requestRetire_record hq ht, body, Txn.removeContexts_orphaned addresses (by
    exact fun a mem => .inl (serves a mem)), Txn.on]
  dsimp only
  rw [State.withoutContexts_arbiter]

/-- R32: a RETIRE refused. -/
theorem exec_retire_refused {r : Result} (hs : s.serves q qs) (hq : q.carries 0x05 table [⟨1, key⟩])
    (ht : storeTable table.toNat = some t) (body : retireTable t key s.opened = refuse s.opened r) :
    exec .retire s = .next (s.answered q qs r [] s) :=
  exec_refused (c := .retire) rfl rfl hs hq.1 ((requestRetire_record hq ht _).trans body)

theorem filter_absent {α : Type} {key : α → Nat} {k : Nat} {l : List α} : ∀ a ∈ l.filter (key · != k), key a ≠ k :=
  fun a mem => by simpa using (List.mem_filter.mp mem).2

/-! ## Rudder channels, engines, couplings and transfers -/

/-- R136. -/
theorem exec_retire_rudder {r : Rudder} {c : Context} (hs : s.serves q qs) (hq : q.carries 0x05 5 [⟨1, r.channel⟩])
    (free : s.errorFree = true) (found : s.rudder? r.channel = some r) (served : s.context? r.station = some c)
    (kind : c.kind = .rudder) (serves : c.key = r.channel) :
    (r.header.damaged = false → r.sent ≠ 0 → exec .retire s = .next (s.answered q qs .wrongState [] s)) ∧
    (r.header.damaged = true ∨ r.sent = 0 → exec .retire s = .next (s.answered q qs .done []
      (State.withoutContext { s with rudders := s.rudders.filter (·.channel != r.channel) } r.station))) := by
  have body : retireTable .rudders r.channel s.opened = if !r.header.damaged && r.sent != 0 then refuse s.opened .wrongState
      else ((s.opened.on fun s => { s with rudders := s.rudders.filter (·.channel != r.channel) }).removeContext r.station,
        .done, []) := by
    have read : (s.opened.read .rudders r.channel [11]).1 = s.opened := by rw [State.opened_read free]
    have here : s.opened.st.rudder? r.channel = some r := found
    rewrite [retireTable, retireRudder, read]
    rw [here]
  constructor
  · intro undamaged turned
    exact exec_retire_refused hs hq (t := .rudders) rfl (body.trans (if_pos (by simp [undamaged, turned])))
  · intro fit
    refine exec_retired (after := { s with rudders := s.rudders.filter (·.channel != r.channel) })
      (addresses := [r.station]) hs hq (t := .rudders) rfl (body.trans (if_neg ?_)) ?_ rfl rfl
    · rcases fit with damaged | zero <;> simp [*]
    · intro a mem
      obtain rfl := List.mem_singleton.mp mem
      refine ⟨c, served, ?_⟩
      rewrite [State.orphaned, kind, serves]
      exact filter_absent

/-- R115, R143. -/
theorem exec_retire_engine {e : Engine} (hs : s.serves q qs) (hq : q.carries 0x05 4 [⟨1, e.number⟩])
    (free : s.errorFree = true) (found : s.engine? e.number = some e)
    (served : ∀ a ∈ e.station.toList ++ e.meter.toList,
      ∃ c, s.context? a = some c ∧ (c.kind = .engine ∨ c.kind = .meter) ∧ c.key = e.number) :
    exec .retire s = .next (if e.header.damaged = true ∨ e.sent = 0 then
        s.answered q qs .done [] ((e.station.toList ++ e.meter.toList).foldl State.withoutContext
          { s with engines := s.engines.filter (·.number != e.number) })
      else s.answered q qs .wrongState [] s) := by
  have body : retireTable .engines e.number s.opened = if !e.header.damaged && e.sent != 0 then refuse s.opened .wrongState
      else ((s.opened.on fun s => { s with engines := s.engines.filter (·.number != e.number) }).forKeys
        (e.station.toList ++ e.meter.toList) fun a w => w.removeContext a, .done, []) := by
    have read : (s.opened.read .engines e.number [12]).1 = s.opened := by rw [State.opened_read free]
    have here : s.opened.st.engine? e.number = some e := found
    rewrite [retireTable, retireEngine, read]
    dsimp only
    rw [here]
  split
  · next fit =>
    refine exec_retired (after := { s with engines := s.engines.filter (·.number != e.number) })
      hs hq (t := .engines) rfl (body.trans (if_neg ?_)) ?_ rfl rfl
    · rcases fit with damaged | zero <;> simp [*]
    · intro a mem
      obtain ⟨c, here, kind, serves⟩ := served a mem
      refine ⟨c, here, ?_⟩
      rewrite [State.orphaned, serves]
      rcases kind with kind | kind <;> rewrite [kind]
      · exact filter_absent
      · trivial
  · next unfit =>
    push Not at unfit
    exact exec_retire_refused hs hq (t := .engines) rfl (body.trans (if_pos (by simp [unfit])))

theorem CouplingState.keepsCoupling_iff (c : CouplingState) : c.keepsCoupling = false ↔ c = .unlashed ∨ c = .lost := by
  cases c <;> decide

/-- R77: a coupling in WHOLE. -/
theorem exec_retire_coupling {c : Coupling} (hs : s.serves q qs) (hq : q.carries 0x05 3 [⟨1, c.number⟩])
    (free : s.errorFree = true) (found : s.coupling? c.number = some c) (whole : s.lockage.phase = .whole) :
    exec .retire s = .next (if c.header.damaged = true ∨ c.state = .unlashed ∨ c.state = .lost then
        s.answered q qs .done [] { s with couplings := s.couplings.filter (·.number != c.number) }
      else s.answered q qs .wrongState [] s) := by
  have body : retireTable .couplings c.number s.opened = if !c.header.damaged && c.state.keepsCoupling then
      refuse s.opened .wrongState
      else ((s.opened.on fun s => { s with couplings := s.couplings.filter (·.number != c.number) }).touch, .done, []) := by
    have read : (s.opened.read .couplings c.number [11]).1 = s.opened := by rw [State.opened_read free]
    have here : s.opened.st.coupling? c.number = some c := found
    rewrite [retireTable, retireCoupling, read]
    rw [here]
  have loose := c.state.keepsCoupling_iff
  by_cases fit : c.header.damaged = true ∨ c.state.keepsCoupling = false
  · rewrite [if_pos (by rwa [← loose])]
    have taken := body.trans (if_neg (by rcases fit with damaged | free <;> simp [*]))
    exact exec_whole (c := .retire) (touched := true) (cs := [])
      (after := { s with couplings := s.couplings.filter (·.number != c.number) }) rfl rfl hs hq.1
      ((requestRetire_record hq (t := .couplings) rfl _).trans taken) whole rfl rfl
  · rewrite [if_neg (by rwa [← loose])]
    push Not at fit
    exact exec_retire_refused hs hq (t := .couplings) rfl (body.trans (if_pos (by simpa using fit)))

/-- R166. -/
theorem exec_retire_transfer {tr : Transfer} {c : Context} (hs : s.serves q qs) (hq : q.carries 0x05 7 [⟨1, tr.number⟩])
    (free : s.errorFree = true) (found : s.transfer? tr.number = some tr) (served : s.context? tr.pump = some c)
    (kind : c.kind = .pump) (serves : c.key = tr.number) :
    exec .retire s = .next (if tr.header.damaged = true ∨ (tr.state.atRest = true ∧ tr.heldVolume = 0) then
        s.answered q qs .done []
          (State.withoutContext { s with transfers := s.transfers.filter (·.number != tr.number) } tr.pump)
      else s.answered q qs .wrongState [] s) := by
  have body : retireTable .transfers tr.number s.opened =
      if !tr.header.damaged && (!tr.state.atRest || tr.heldVolume != 0) then refuse s.opened .wrongState
      else ((s.opened.on fun s => { s with transfers := s.transfers.filter (·.number != tr.number) }).removeContext tr.pump,
        .done, []) := by
    have read : (s.opened.read .transfers tr.number [14, 13]).1 = s.opened := by rw [State.opened_read free]
    have here : s.opened.st.transfer? tr.number = some tr := found
    rewrite [retireTable, retireTransfer, read]
    rw [here]
  split
  · next fit =>
    refine exec_retired (after := { s with transfers := s.transfers.filter (·.number != tr.number) })
      (addresses := [tr.pump]) hs hq (t := .transfers) rfl (body.trans (if_neg ?_)) ?_ rfl rfl
    · rcases fit with damaged | ⟨rest, held⟩ <;> simp [*]
    · intro a mem
      obtain rfl := List.mem_singleton.mp mem
      refine ⟨c, served, ?_⟩
      rewrite [State.orphaned, kind, serves]
      exact filter_absent
  · next unfit =>
    push Not at unfit
    obtain ⟨undamaged, held⟩ := unfit
    refine exec_retire_refused hs hq (t := .transfers) rfl (body.trans (if_pos ?_))
    cases rest : tr.state.atRest with
    | false => simp [undamaged]
    | true => simp [undamaged, held rest]

/-! ## Tanks -/

theorem State.tankNamed_iff (s : State) (key : Nat) : s.tankNamed key = true ↔
    (∃ e ∈ s.engines, e.supply = some key) ∨ ∃ tr ∈ s.transfers, tr.source = key ∨ tr.destination = key := by
  simp [State.tankNamed]

/-- R151. -/
theorem exec_retire_tank {t : Tank} (hs : s.serves q qs) (hq : q.carries 0x05 6 [⟨1, t.number⟩])
    (free : s.errorFree = true) (found : s.tank? t.number = some t)
    (served : ∀ a, t.gauge = some a → ∃ c, s.context? a = some c ∧ c.kind = .gauge ∧ c.key = t.number) :
    (s.tankNamed t.number = true → exec .retire s = .next (s.answered q qs .inUse [] s)) ∧
    (¬s.tankNamed t.number = true → exec .retire s = .next (if t.header.damaged = true ∨ t.content = 0 then
        s.answered q qs .done []
          (t.gauge.toList.foldl State.withoutContext { s with tanks := s.tanks.filter (·.number != t.number) })
      else s.answered q qs .wrongState [] s)) := by
  have here : s.opened.st.tank? t.number = some t := found
  have body : retireTable .tanks t.number s.opened = if s.tankNamed t.number then refuse s.opened .inUse
      else if !t.header.damaged && t.content != 0 then refuse s.opened .wrongState
      else ((s.opened.on fun s => { s with tanks := s.tanks.filter (·.number != t.number) }).forKeys t.gauge.toList
        fun a w => w.removeContext a, .done, []) := by
    have read : (s.opened.read .tanks t.number (wide 6)).1 = s.opened := by rw [State.opened_read free]
    have named : s.opened.st.tankNamed t.number = s.tankNamed t.number := rfl
    rewrite [retireTable, retireTank, read, named, here, Option.isNone_some, if_neg Bool.false_ne_true]
    simp only [here]
  refine ⟨fun named => exec_retire_refused hs hq (t := .tanks) rfl (body.trans (if_pos named)), fun unnamed => ?_⟩
  rewrite [if_neg unnamed] at body
  split
  · next fit =>
    refine exec_retired (after := { s with tanks := s.tanks.filter (·.number != t.number) })
      hs hq (t := .tanks) rfl (body.trans (if_neg ?_)) ?_ rfl rfl
    · rcases fit with damaged | zero <;> simp [*]
    · intro a mem
      obtain ⟨c, found, kind, serves⟩ := served a (by simpa using mem)
      refine ⟨c, found, ?_⟩
      rewrite [State.orphaned, kind, serves]
      exact filter_absent
  · next unfit =>
    push Not at unfit
    exact exec_retire_refused hs hq (t := .tanks) rfl (body.trans (if_pos (by simp [unfit])))

end

/-! RETIRE of a barge (R44, R48, R56). -/

/-! ## The barges of a string from a rank on (R42, R44) -/

namespace State

theorem string?_eq {s : State} (law : s.rosterLaw = true) {i : Nat} {b : Barge} (here : s.barges[i]? = some b) :
    s.string? b.hull = some b.string := by
  obtain ⟨six, bounds, length, -, hulls, names⟩ := s.rosterLaw_iff_entry.mp law
  have inside : i < s.barges.length := (List.getElem?_eq_some_iff.mp here).1
  have own : s.HoldsPlace b.string i := names i b.string (by rw [List.getElem?_map, here, Option.map_some])
  rw [State.string?, State.place?_eq hulls here, Option.map_some,
    ← (State.eq_stringAt_iff six bounds (by omega)).mpr own]

theorem bargeNamed_iff (s : State) (hull : Nat) :
    s.bargeNamed hull = true ↔ ∃ c ∈ s.couplings, c.names hull = true := List.any_eq_true

/-- R42: a coupling names a barge of the string at or after the rank. -/
theorem namedFrom_iff {s : State} (law : s.rosterLaw = true) {string rank : Nat} (one : 1 ≤ rank) :
    s.namedFrom string rank = true ↔ ∃ d ∈ s.barges, d.string = string ∧ rank ≤ (s.rank? d.hull).getD 0 ∧
      ∃ c ∈ s.couplings, c.names d.hull = true := by
  have held (d : Barge) (mem : d ∈ s.barges) : (s.string? d.hull == some string && (match s.rank? d.hull with
      | some r => decide (rank ≤ r)
      | none => false)) = true ↔ d.string = string ∧ rank ≤ (s.rank? d.hull).getD 0 := by
    obtain ⟨i, here⟩ := List.mem_iff_getElem?.mp mem
    rewrite [State.string?_eq law here]
    cases s.rank? d.hull with
    | none => simp; omega
    | some r => simp
  simp only [State.namedFrom, State.hullsFrom, List.any_eq_true, List.mem_filter, List.mem_map, s.bargeNamed_iff]
  constructor
  · rintro ⟨h, ⟨⟨d, mem, rfl⟩, place⟩, named⟩
    obtain ⟨same, after⟩ := (held d mem).mp place
    exact ⟨d, mem, same, after, named⟩
  · rintro ⟨d, mem, same, after, named⟩
    exact ⟨d.hull, ⟨⟨d, mem, rfl⟩, (held d mem).mpr ⟨same, after⟩⟩, named⟩

end State

/-! ## The bindings that a barge takes with it (R56) -/

section
variable {s : State} {b : Barge}

theorem State.bound_removeBarge (hulls : (s.barges.map (·.hull)).Nodup) (mem : b ∈ s.barges) {d : Nat}
    (other : b.node ≠ some d) : s.bound d = (s.removeBarge b).bound d := by
  have found : s.barges.find? (·.node == some d) = (s.removeBarge b).barges.find? (·.node == some d) := by
    rewrite [State.removeBarge, List.find?_filter]
    refine List.find?_congr fun c hc => ?_
    by_cases own : c.hull = b.hull
    · rewrite [eq_of_nodup_key hulls hc mem own]
      simp [other]
    · have away : (c.hull != b.hull) = true := by simpa using own
      rewrite [Bool.eq_iff_iff, decide_eq_true_eq]
      exact ⟨fun h => ⟨away, h⟩, And.right⟩
  have policy : (s.removeBarge b).policy = s.policy := rfl
  rw [State.bound, State.bound, policy, found]

theorem eq_of_nodup_filterMap {α : Type} {f : α → Option Nat} {l : List α} (once : (l.filterMap f).Nodup) {a b : α} {k : Nat}
    (ha : a ∈ l) (hb : b ∈ l) (fa : f a = some k) (fb : f b = some k) : a = b := by
  by_contra apart
  have pairs : l.Pairwise fun a b => ∀ k, f a = some k → ∀ m, f b = some m → k ≠ m := List.pairwise_filterMap.mp once
  have symm : Std.Symm fun a b => ∀ k, f a = some k → ∀ m, f b = some m → k ≠ m :=
    ⟨fun a b h k hk m hm same => h m hm k hk same.symm⟩
  exact pairs.forall ha hb apart k fa k fb rfl

namespace State

theorem bound_removed {a : Nat} (law : s.nodeLaw = true) (mem : b ∈ s.barges)
    (own : b.node = some a) : s.bound a ≠ (s.removeBarge b).bound a := by
  simp only [State.nodeLaw, Bool.and_eq_true, decide_eq_true_eq, List.all_eq_true, bne_iff_ne] at law
  obtain ⟨nodes, apart⟩ := law
  have boat : ¬(s.policy.boatNode ≠ 0 ∧ a = s.policy.boatNode) := fun h => (apart b mem).2 (own.trans (congrArg some h.2))
  have policy : (s.removeBarge b).policy = s.policy := rfl
  have before : (s.barges.find? (·.node == some a)).isSome = true := List.find?_isSome.mpr ⟨b, mem, by simp [own]⟩
  have after : (s.removeBarge b).barges.find? (·.node == some a) = none := by
    refine List.find?_eq_none.mpr fun c hc same => ?_
    obtain ⟨here, away⟩ := List.mem_filter.mp hc
    have twin : c = b := eq_of_nodup_filterMap nodes here mem (by simpa using same) own
    rewrite [twin] at away
    simp at away
  rewrite [State.bound, State.bound, policy, if_neg boat, if_neg boat, after]
  intro same
  rewrite [Option.map_none, Option.map_eq_none_iff] at same
  rewrite [same] at before
  exact Bool.false_ne_true before

theorem errorFree_removeBarge (free : s.errorFree = true) : (s.removeBarge b).errorFree = true := by
  simp only [State.errorFree, Bool.and_eq_true, List.all_eq_true] at free ⊢
  obtain ⟨⟨⟨⟨⟨barges, couplings⟩, engines⟩, rudders⟩, tanks⟩, transfers⟩ := free
  exact ⟨⟨⟨⟨⟨fun c hc => barges c (List.mem_of_mem_filter hc), couplings⟩, engines⟩, rudders⟩, tanks⟩, transfers⟩

end State

end

/-! ## The outcome -/

section
variable {s : State} {q : Request} {qs : List Request} {b : Barge}

/-- R44: what makes a barge in use. -/
theorem State.retireNamed_iff (law : s.rosterLaw = true) : (s.bargeNamed b.hull || s.bowBarge? == some b.hull ||
      s.namedFrom b.string ((s.rank? b.hull).getD 0 + 1)) = true ↔
    s.bowBarge? = some b.hull ∨ (∃ c ∈ s.couplings, c.names b.hull = true) ∨
      ∃ d ∈ s.barges, d.string = b.string ∧ (s.rank? b.hull).getD 0 < (s.rank? d.hull).getD 0 ∧
        ∃ c ∈ s.couplings, c.names d.hull = true := by
  rewrite [Bool.or_eq_true, Bool.or_eq_true, s.bargeNamed_iff, beq_iff_eq, State.namedFrom_iff law (Nat.le_add_left _ _)]
  simp only [Nat.succ_le_iff]
  rw [or_comm (b := s.bowBarge? = some b.hull), or_assoc]

theorem retireTable_barge (found : s.barge? b.hull = some b) : retireTable .barges b.hull s.opened =
    if (s.bargeNamed b.hull || s.bowBarge? == some b.hull || s.namedFrom b.string ((s.rank? b.hull).getD 0 + 1)) = true then
      refuse s.opened .inUse
    else if s.lockage.phase ≠ .whole then refuse s.opened .wrongState
    else (s.opened.on fun s => s.removeBarge b, .done, []) := by
  have here : s.opened.st.barge? b.hull = some b := found
  rewrite [retireTable, retireBarge, here]
  rfl

/-- R44, R56: a barge that nothing names leaves the roster. -/
theorem exec_retire_barge (hs : s.serves q qs) (hq : q.carries 0x05 1 [⟨1, b.hull⟩]) (found : s.barge? b.hull = some b)
    (law : s.rosterLaw = true) (body : retireTable .barges b.hull s.opened =
      (s.opened.on fun s => s.removeBarge b, .done, []))
    (free : s.errorFree = true ∨ ∀ n ∈ s.tow.nodes, b.node ≠ some n.address) (nodes : s.nodeLaw = true) :
    exec .retire s = .next (s.answered q qs .done [] (match b.node with
      | none => s.removeBarge b
      | some a => (s.removeBarge b).reboundAt a)) := by
  obtain ⟨-, -, -, -, hulls, -⟩ := s.rosterLaw_iff_entry.mp law
  have mem : b ∈ s.barges := List.mem_of_find?_eq_some found
  have answer := (requestRetire_record hq (t := .barges) rfl s.opened).trans body
  cases own : b.node with
  | none =>
    refine exec_bound (c := .retire) rfl rfl hs hq.1 (after := s.removeBarge b) answer fun n _ => ?_
    exact State.bound_removeBarge hulls mem (by rewrite [own]; simp)
  | some a =>
    refine exec_rebound (c := .retire) (after := s.removeBarge b) rfl rfl hs hq.1 answer rfl
      (State.bound_removed nodes mem own) (fun d other => State.bound_removeBarge hulls mem ?_)
      (free.imp State.errorFree_removeBarge fun unlisted n hn here => ?_)
    · rewrite [own]
      exact fun same => other (Option.some.inj same).symm
    · exact unlisted n hn (own.trans (congrArg some here.symm))

end

/-- Settles O17, table by table. -/
theorem retireRemovesABarge : Obligations.RetireRemovesABarge := by
  refine ⟨fun s q qs b hs hq found law => ?_, fun s q qs r c hs hq free _ found served kind serves =>
      exec_retire_rudder hs hq free found served kind serves,
    fun s q qs c hs hq free found whole => exec_retire_coupling hs hq free found whole,
    fun s q qs e hs hq free _ found served => exec_retire_engine hs hq free found served,
    fun s q qs t hs hq free _ found served => ?_,
    fun s q qs tr c hs hq free _ found served kind serves => exec_retire_transfer hs hq free found served kind serves⟩
  · have body := retireTable_barge found
    have named := State.retireNamed_iff (b := b) law
    refine ⟨fun inUse => exec_retire_refused hs hq (t := .barges) rfl (body.trans (if_pos (named.mpr inUse))),
      fun unnamed broken => ?_, fun unnamed whole free nodes => ?_⟩
    · exact exec_retire_refused hs hq (t := .barges) rfl
        ((body.trans (if_neg (fun h => unnamed (named.mp h)))).trans (if_pos broken))
    · exact exec_retire_barge hs hq found law
        ((body.trans (if_neg (fun h => unnamed (named.mp h)))).trans (if_neg (not_not.mpr whole))) free nodes
  · obtain ⟨inUse, taken⟩ := exec_retire_tank hs hq free found served
    rewrite [State.tankNamed_iff] at inUse taken
    exact ⟨inUse, taken⟩

/-! A parameter field given: the admission restarts and the record follows it (R105, R109). -/

/-! ## The records behind a context -/

/-- R105, R109: an engine, damaged or not, whose governor's admission restarts from a state. -/
def Engine.readmitted (e : Engine) (held : ContextState) : Engine :=
  match held with
  | .exchange => e.stopped .admitting
  | .configure => e.inState .admitting
  | .parameterize => e
  | .offline => e
  | .rejected => e.inState .offline

/-- R105, R109: a rudder channel, damaged or not, whose servo's admission restarts from a state. -/
def Rudder.readmitted (r : Rudder) (held : ContextState) : Rudder :=
  match held with
  | .exchange => Rudder.renew { r with allowed := 0, sent := 0, feedback := none, state := .admitting } [10, 11, 12, 13]
  | .configure => r.inState .admitting
  | .parameterize => r
  | .offline => r
  | .rejected => r.inState .offline

namespace Tank

/-- R109: a tank, damaged or not, whose gauge's admission restarts from a state. -/
def readmitted (t : Tank) (held : ContextState) : Tank :=
  if held = .exchange then Tank.renew { t with gauged := none } [15] else t

theorem readmitted_other (t : Tank) {held : ContextState} (outside : held ≠ .exchange) : t.readmitted held = t :=
  if_neg outside

end Tank

/-- R105, R109: the records of a state after the admission of a context restarts. -/
def State.recordReadmitted (s : State) (c : Context) : State :=
  match c.kind with
  | .engine => { s with engines := update (·.number == c.key) (·.readmitted c.state) s.engines }
  | .rudder => { s with rudders := update (·.channel == c.key) (·.readmitted c.state) s.rudders }
  | .gauge => { s with tanks := update (·.number == c.key) (·.readmitted c.state) s.tanks }
  | .meter => s
  | .pump => s

theorem Engine.stopped_then (e : Engine) (new : UnitState) :
    Engine.inState (Engine.renew { e with allowed := 0, sent := 0, delivered := none, alarm := false, zeroTime := 0 }
      [11, 12, 13, 14, 17]) new = e.stopped new := by
  simp only [Engine.stopped, Engine.inState, Engine.renew, Header.renew_renew]
  congr 1
  simp only [Header.renew]
  congr 1
  refine List.filter_congr fun p _ => ?_
  simp [List.contains_eq_mem, Bool.and_comm (!decide (p.1 = 15))]

theorem Rudder.stopped_then (r : Rudder) (new : UnitState) :
    Rudder.inState (Rudder.renew { r with allowed := 0, sent := 0, feedback := none } [10, 11, 12]) new =
      Rudder.renew { r with allowed := 0, sent := 0, feedback := none, state := new } [10, 11, 12, 13] := by
  simp only [Rudder.inState, Rudder.renew, Header.renew_renew]
  rfl

theorem update_id {α : Type} (p : α → Bool) {f : α → α} (same : ∀ a, f a = a) (l : List α) : update p f l = l := by
  rewrite [update]
  exact (List.map_congr_left fun a _ => by split <;> simp [same]).trans (List.map_id _)

namespace State

/-- R109: where no admission begins anew and none ends, the record stands. -/
theorem recordReadmitted_kept (s : State) {c : Context} (kept : c.state = .parameterize ∨ c.state = .offline) :
    s.recordReadmitted c = s := by
  have engine (e : Engine) : e.readmitted c.state = e := by rcases kept with state | state <;> rw [state, Engine.readmitted]
  have rudder (r : Rudder) : r.readmitted c.state = r := by rcases kept with state | state <;> rw [state, Rudder.readmitted]
  have tank (t : Tank) : t.readmitted c.state = t := by
    rcases kept with state | state <;> rewrite [state, Tank.readmitted] <;> rfl
  unfold State.recordReadmitted
  split
  · rw [update_id _ engine]
  · rw [update_id _ rudder]
  · rw [update_id _ tank]
  · rfl
  · rfl

theorem recordReadmitted_link (s : State) (c : Context) :
    (s.recordReadmitted c).link = s.link ∧ (s.recordReadmitted c).clock = s.clock := by
  unfold State.recordReadmitted
  split <;> exact ⟨rfl, rfl⟩

end State

/-! ## The link -/

section
variable {l : MachineryLink} {c : Context} {p : Parameters} {clock : Nat}

theorem restarted_results (l : MachineryLink) {outdated : Nat → ContextState → Bool} (none : ∀ a h, outdated a h = false) :
    (l.results.map fun r => { r with stale := r.stale || outdated r.address r.held }) = l.results ∧
      (l.exchange.map fun e => { e with stale := e.stale || outdated e.address e.held }) = l.exchange := by
  simp only [none, Bool.or_false]
  exact ⟨List.map_id _, by cases l.exchange <;> rfl⟩

namespace MachineryLink

/-- R105: an admission that begins anew. -/
theorem restarted_begun (begun : c.state = .exchange ∨ c.state = .configure) :
    l.restarted c p clock = { l with
      contexts := update (·.address == c.address)
        (fun d => { d with state := .parameterize, parameters := p, retry := some clock }) l.contexts } := by
  have results := restarted_results l (outdated := fun address held =>
    (c.state == .parameterize || c.state == .offline) && address == c.address && (held == .parameterize || held == .offline))
    fun _ _ => by rcases begun with state | state <;> rewrite [state] <;> rfl
  rewrite [MachineryLink.restarted]
  dsimp only
  rewrite [results.1, results.2]
  rcases begun with state | state <;> rewrite [state] <;> rfl

/-- R105: an admission that was refused. -/
theorem restarted_rejected (rejected : c.state = .rejected) :
    l.restarted c p clock = { l with
      contexts := update (·.address == c.address) (fun d => { d with state := .offline, parameters := p })
        l.contexts } := by
  have results := restarted_results l (outdated := fun address held =>
    (c.state == .parameterize || c.state == .offline) && address == c.address && (held == .parameterize || held == .offline))
    fun _ _ => by rewrite [rejected]; rfl
  rewrite [MachineryLink.restarted]
  dsimp only
  rewrite [results.1, results.2, rejected]
  rfl

end MachineryLink

end

section
variable {x : Txn} {c : Context} {p : Parameters}

namespace Txn

/-- R105: the copy is rewritten while no admission has got beyond its parameters. -/
theorem parameters_kept (once : (x.st.link.contexts.map (·.address)).Nodup)
    (found : x.st.context? c.address = some c) (kept : c.state = .parameterize ∨ c.state = .offline) :
    (x.modContext c.address fun d => { d with parameters := p }).markStale c.address =
      x.on fun s => { s with link := s.link.restarted c p s.clock } := by
  have contexts : update (·.address == c.address) (fun d => { d with parameters := p }) x.st.link.contexts =
      update (·.address == c.address) (fun d => { d with
        state := c.state.restarted, parameters := p
        retry := if c.state == .exchange || c.state == .configure then some x.st.clock else d.retry })
        x.st.link.contexts := by
    refine update_congr fun d mem same => ?_
    obtain rfl : d = c := eq_of_nodup_key once mem (List.mem_of_find?_eq_some found) same
    rcases kept with state | state <;> simp [state, ContextState.restarted]
  have keeps : (c.state == .parameterize || c.state == .offline) = true := by rcases kept with state | state <;> rewrite [state] <;> rfl
  have stale (address : Nat) (held : ContextState) :
      (address == c.address && (held == .offline || held == .parameterize)) =
        (true && address == c.address && (held == .parameterize || held == .offline)) := by
    rw [Bool.true_and, Bool.or_comm (held == .offline)]
  have results : update (fun r : SlotResult => r.address == c.address && (r.held == .offline || r.held == .parameterize))
      (fun r => { r with stale := true }) x.st.link.results =
      x.st.link.results.map fun r => { r with
        stale := r.stale || (true && r.address == c.address && (r.held == .parameterize || r.held == .offline)) } := by
    refine List.map_congr_left fun r _ => ?_
    dsimp only
    rewrite [← stale]
    split
    · next hit => rw [hit, Bool.or_true]
    · next miss => rw [Bool.eq_false_iff.mpr miss, Bool.or_false]
  rewrite [Txn.markStale, Txn.modContext, Txn.on, Txn.on, Txn.on]
  dsimp only
  rewrite [MachineryLink.restarted, contexts, results, keeps]
  simp only [stale]

/-! ## The whole change -/

theorem pumpLost_calm {k : Nat} {t : Transfer} (found : x.st.transfer? k = some t) (clean : t.header.bad = [])
    (calm : t.state.inFlight = false) : x.pumpLost k = x := by
  have read : (x.read .transfers k [14]).1 = x := by
    cases damaged : t.header.damaged with
    | true => rw [Txn.read_unsound x _ _ _ (by simp [State.sound, State.header?, found, damaged])]
    | false =>
      rw [Txn.read_clean x .transfers k [14] t.header (by simp [State.header?, found]) damaged fun w _ b hb => by
        rewrite [clean] at hb; exact absurd hb List.not_mem_nil]
  rewrite [Txn.pumpLost]
  rcases h : x.read .transfers k [14] with ⟨y, fine⟩
  rewrite [h] at read
  obtain rfl : y = x := read
  cases fine with
  | false => rfl
  | true =>
    dsimp only
    rewrite [found]
    exact if_neg (by simp [calm])

theorem given_found (found : x.st.context? c.address = some c) :
    (x.modContext c.address fun d => { d with parameters := p }).st.context? c.address =
      some { c with parameters := p } := by
  have here : x.st.link.contexts.find? (·.address == c.address) = some c := found
  rewrite [State.context?, Txn.modContext, Txn.on]
  dsimp only
  rewrite [find?_update _ _ _ _ (by exact fun _ => rfl), here]
  simp

end Txn

theorem State.readmitted_plain (s : State) (plain : ¬(c.state = .exchange ∧ (c.kind = .meter ∨ c.kind = .pump))) :
    s.readmitted c p = { s with link := s.link.restarted c p s.clock } := if_neg plain

namespace Txn

/-- R105: the three writes to a context whose admission begins anew. -/
theorem modContext_thrice (x : Txn) (a : Nat) {f g h : Context → Context} (hf : ∀ d, (f d).address = d.address)
    (hg : ∀ d, (g d).address = d.address) : ((x.modContext a f).modContext a g).modContext a h =
      x.modContext a fun d => h (g (f d)) := by
  rw [Txn.modContext_modContext _ _ hf, Txn.modContext_modContext _ _ (by exact fun d => (hg _).trans (hf _))]

/-- R109, R154: a meter's or a pump's context that leaves EXCHANGE for its parameters. -/
theorem left_metered (inside : c.state = .exchange) (meters : c.kind = .meter ∨ c.kind = .pump) :
    (((((x.modContext c.address fun d => { d with parameters := p }).modContext c.address fun d =>
        { d with state := .parameterize }).modContext c.address fun d =>
        { d with baseline := none, lastTemperature := none }).withdraw c.address).restartRetry c.address) =
      { x with st := x.st.readmitted c p } := by
  have writes := x.modContext_thrice c.address (f := fun d => { d with parameters := p })
    (g := fun d => { d with state := .parameterize })
    (h := fun d => { d with baseline := none, lastTemperature := none, retry := some x.st.clock })
    (fun _ => rfl) (fun _ => rfl)
  have merged := Txn.modContext_modContext ((x.modContext c.address fun d => { d with parameters := p }).modContext
    c.address fun d => { d with state := .parameterize }) c.address
    (f := fun d => { d with baseline := none, lastTemperature := none }) (fun _ => rfl)
    (fun d => { d with retry := some x.st.clock })
  have contexts := update_update (·.address == c.address)
    (fun d : Context => { d with state := .parameterize, parameters := p, retry := some x.st.clock })
    (fun d => { d with baseline := none, lastTemperature := none }) x.st.link.contexts fun _ => rfl
  rewrite [State.readmitted, if_pos ⟨inside, meters⟩, MachineryLink.restarted_begun (.inl inside)]
  dsimp only
  rewrite [contexts]
  exact congrArg (fun y : Txn => y.withdraw c.address) (merged.trans writes)

/-- R105, R109: a context that leaves EXCHANGE for its parameters, and the record behind it. -/
theorem left_readmitted (inside : c.state = .exchange)
    (calm : c.kind = .pump → ∀ y : Txn, y.st.transfers = x.st.transfers → y.pumpLost c.key = y) :
    ((((x.modContext c.address fun d => { d with parameters := p }).modContext c.address fun d =>
        { d with state := .parameterize }).leaveExchange { c with parameters := p }).mirror c.kind c.key
        .parameterize).restartRetry c.address = x.on fun s => (s.recordReadmitted c).readmitted c p := by
  have link := MachineryLink.restarted_begun (l := x.st.link) (p := p) (clock := x.st.clock) (.inl inside)
  have writes := x.modContext_thrice c.address (f := fun d => { d with parameters := p })
    (g := fun d => { d with state := .parameterize }) (h := fun d => { d with retry := some x.st.clock })
    (fun _ => rfl) (fun _ => rfl)
  rewrite [Txn.leaveExchange]
  cases kind : c.kind with
  | engine =>
    have engines : update (·.number == c.key) (·.inState .admitting) (update (·.number == c.key) (fun e : Engine =>
        Engine.renew { e with allowed := 0, sent := 0, delivered := none, alarm := false, zeroTime := 0 }
          [11, 12, 13, 14, 17]) x.st.engines) = update (·.number == c.key) (·.readmitted c.state) x.st.engines := by
      rewrite [update_update _ _ _ _ (by exact fun _ => rfl), inside]
      exact congrArg (fun f => update (·.number == c.key) f x.st.engines) (funext fun e => e.stopped_then _)
    rewrite [Txn.on, State.recordReadmitted, kind, State.readmitted_plain _ (by simp [kind]), link, ← engines]
    exact congrArg (fun y : Txn => (y.engineLeavesRunning c.key).mirror .engine c.key .parameterize) writes
  | rudder =>
    have rudders : update (·.channel == c.key) (·.inState .admitting) (update (·.channel == c.key) (fun r : Rudder =>
        Rudder.renew { r with allowed := 0, sent := 0, feedback := none } [10, 11, 12]) x.st.rudders) =
        update (·.channel == c.key) (·.readmitted c.state) x.st.rudders := by
      rewrite [update_update _ _ _ _ (by exact fun _ => rfl), inside]
      exact congrArg (fun f => update (·.channel == c.key) f x.st.rudders) (funext fun r => r.stopped_then _)
    rewrite [Txn.on, State.recordReadmitted, kind, State.readmitted_plain _ (by simp [kind]), link, ← rudders]
    exact congrArg (fun y : Txn => (y.modRudder c.key [10, 11, 12] fun r =>
      { r with allowed := 0, sent := 0, feedback := none }).mirror .rudder c.key .parameterize) writes
  | meter =>
    rewrite [Txn.on, State.recordReadmitted, kind]
    exact Txn.left_metered inside (.inl kind)
  | pump =>
    rewrite [Txn.on, State.recordReadmitted, kind]
    dsimp only
    rewrite [calm kind _ (by rfl)]
    exact Txn.left_metered inside (.inr kind)
  | gauge =>
    have tanks : update (·.number == c.key) (fun t : Tank => Tank.renew { t with gauged := none } [15]) x.st.tanks =
        update (·.number == c.key) (·.readmitted c.state) x.st.tanks := by
      rewrite [inside]
      rfl
    rewrite [Txn.on, State.recordReadmitted, kind, State.readmitted_plain _ (by simp [kind]), link, ← tanks]
    exact congrArg (fun y : Txn => (y.modTank c.key [15] fun t => { t with gauged := none })) writes

/-- R105, R109: a context in CONFIGURE starts over with its parameters. -/
theorem configured_readmitted (configured : c.state = .configure) :
    (((x.modContext c.address fun d => { d with parameters := p }).modContext c.address fun d =>
        { d with state := .parameterize }).mirror c.kind c.key .parameterize).restartRetry c.address =
      x.on fun s => (s.recordReadmitted c).readmitted c p := by
  have link := MachineryLink.restarted_begun (l := x.st.link) (p := p) (clock := x.st.clock) (.inr configured)
  have writes := x.modContext_thrice c.address (f := fun d => { d with parameters := p })
    (g := fun d => { d with state := .parameterize }) (h := fun d => { d with retry := some x.st.clock })
    (fun _ => rfl) (fun _ => rfl)
  rewrite [Txn.on, State.readmitted_plain _ (by simp [configured]), (x.st.recordReadmitted_link c).1, (x.st.recordReadmitted_link c).2, link]
  rewrite [State.recordReadmitted, configured]
  cases c.kind with
  | engine => exact congrArg (fun y : Txn => y.mirror .engine c.key .parameterize) writes
  | rudder => exact congrArg (fun y : Txn => y.mirror .rudder c.key .parameterize) writes
  | meter => exact writes
  | pump => exact writes
  | gauge =>
    dsimp only
    rewrite [update_id _ fun t => t.readmitted_other ContextState.noConfusion]
    exact writes

/-- R105, R109: a REJECTED context is admitted anew. -/
theorem rejected_readmitted (rejected : c.state = .rejected) :
    ((x.modContext c.address fun d => { d with parameters := p }).modContext c.address fun d =>
        { d with state := .offline }).mirror c.kind c.key .offline =
      x.on fun s => (s.recordReadmitted c).readmitted c p := by
  have link := MachineryLink.restarted_rejected (l := x.st.link) (p := p) (clock := x.st.clock) rejected
  have writes := x.modContext_modContext c.address (f := fun d => { d with parameters := p }) (fun _ => rfl)
    (fun d => { d with state := .offline })
  rewrite [Txn.on, State.readmitted_plain _ (by simp [rejected]), (x.st.recordReadmitted_link c).1, (x.st.recordReadmitted_link c).2, link]
  rewrite [State.recordReadmitted, rejected]
  cases c.kind with
  | engine => exact congrArg (fun y : Txn => y.mirror .engine c.key .offline) writes
  | rudder => exact congrArg (fun y : Txn => y.mirror .rudder c.key .offline) writes
  | meter => exact writes
  | pump => exact writes
  | gauge =>
    dsimp only
    rewrite [update_id _ fun t => t.readmitted_other ContextState.noConfusion]
    exact writes

/-- R105, R109: a parameter field is given to the record behind a context. -/
theorem giveParameters_eq (once : (x.st.link.contexts.map (·.address)).Nodup)
    (found : x.st.context? c.address = some c)
    (calm : c.kind = .pump → ∀ y : Txn, y.st.transfers = x.st.transfers → y.pumpLost c.key = y) :
    x.giveParameters c.address p = x.on fun s => (s.recordReadmitted c).readmitted c p := by
  have given := Txn.given_found (p := p) found
  rewrite [Txn.giveParameters, found]
  dsimp only
  cases state : c.state with
  | exchange =>
    have leaves := Txn.enterContext_leaves (c := { c with parameters := p }) (new := .parameterize) given state
      ContextState.noConfusion
    exact (congrArg (fun y : Txn => y.restartRetry c.address) leaves).trans (Txn.left_readmitted state calm)
  | configure =>
    have enters := Txn.enterContext_mirrors (c := { c with parameters := p }) (new := .parameterize) given
      (by rewrite [state]; exact ContextState.noConfusion) (by rewrite [state]; exact ContextState.noConfusion)
    exact (congrArg (fun y : Txn => y.restartRetry c.address) enters).trans (Txn.configured_readmitted state)
  | parameterize =>
    refine (Txn.parameters_kept once found (.inl state)).trans ?_
    rw [Txn.on, Txn.on, State.recordReadmitted_kept _ (.inl state), State.readmitted_plain _ (by simp [state])]
  | offline =>
    refine (Txn.parameters_kept once found (.inr state)).trans ?_
    rw [Txn.on, Txn.on, State.recordReadmitted_kept _ (.inr state), State.readmitted_plain _ (by simp [state])]
  | rejected =>
    have enters := Txn.enterContext_mirrors (c := { c with parameters := p }) (new := .offline) given
      (by rewrite [state]; exact ContextState.noConfusion) (by rewrite [state]; exact ContextState.noConfusion)
    exact enters.trans (Txn.rejected_readmitted state)

end Txn

end

/-! RESTORE of a damaged record (R17, R51, R93, R140, R177). -/

/-! ## Requests (R17) -/

/-- R17: RESTORE of a record of a table. -/
def restoreTable (t : Tbl) (key : Nat) (is : List Item) (x : Txn) : Answer :=
  match t with
  | .barges => restoreBarge key is x
  | .couplings => restoreCoupling key is x
  | .engines => restoreEngine key is x
  | .rudders => restoreRudder key is x
  | .tanks => restoreTank key is x
  | .transfers => restoreTransfer key is x

namespace Request

/-- R17: a RESTORE that carries what its table asks for. -/
structure Restores (q : Request) (t : Tbl) (key : Nat) (is : List Item) : Prop where
  code : q.code = 0x06
  table : storeTable q.table.toNat = some t
  items : q.parse (fun t => (storeTable t).isSome) = some is
  key : (valueOf is 1).bind natOf = some key
  given : (restoreFields t).all (gives is) = true
  counted : (t == .transfers && valueOf is 7 == some 2 && !gives is 8) = false

theorem restores_of_carries {q : Request} {table : Byte} {t : Tbl} {key : Nat} {is : List Item}
    (hq : q.carries 0x06 table (⟨1, key⟩ :: is)) (ht : storeTable table.toNat = some t)
    (once : onceEach ((⟨1, key⟩ :: is : List Item).map (·.field)) = true)
    (given : (restoreFields t).all (gives (⟨1, key⟩ :: is)) = true)
    (counted : (t == .transfers && valueOf (⟨1, key⟩ :: is) 7 == some 2 && !gives (⟨1, key⟩ :: is) 8) = false) :
    q.Restores t key (⟨1, key⟩ :: is) :=
  ⟨hq.1, hq.2.1.symm ▸ ht, Request.parse_of_carries hq (by rewrite [ht]; rfl) once, by simp [valueOf, natOf], given, counted⟩

end Request

section
variable {s : State} {q : Request} {qs : List Request} {t : Tbl} {key : Nat} {is : List Item}

theorem Request.Restores.body (h : q.Restores t key is) (x : Txn) : requestRestore q x = restoreTable t key is x := by
  rewrite [requestRestore, h.items, h.table]
  dsimp only
  rewrite [h.given, h.counted, h.key]
  rfl

theorem exec_restore_refused {r : Result} (hs : s.serves q qs) (h : q.Restores t key is)
    (body : restoreTable t key is s.opened = refuse s.opened r) : exec .restore s = .next (s.answered q qs r [] s) :=
  exec_refused (c := .restore) rfl rfl hs h.code ((h.body _).trans body)

theorem exec_restored {after : State} (hs : s.serves q qs) (h : q.Restores t key is)
    (body : restoreTable t key is s.opened =
      (({ s.opened with st := { after with arbiter := s.arbiter.grant .console } } : Txn), .done, []))
    (barges : after.barges = s.barges) (policy : after.policy = s.policy) :
    exec .restore s = .next (s.answered q qs .done [] after) :=
  exec_quiet (c := .restore) rfl rfl hs h.code ((h.body _).trans body) barges policy

/-- A request that is taken where the record is damaged and refused otherwise. -/
theorem exec_restore_cases {h : Header} {x : State} (refused : h.damaged = false → exec .restore s = .next (s.answered q qs .wrongState [] s))
    (taken : h.damaged = true → exec .restore s = .next (s.answered q qs .done [] x)) : exec .restore s =
      .next (if h.damaged then s.answered q qs .done [] x else s.answered q qs .wrongState [] s) := by
  cases damaged : h.damaged with
  | false => exact refused damaged
  | true => exact taken damaged

theorem inRange_cast {f v lo hi : Nat} (low : lo ≤ v) (high : v ≤ hi) : inRange ⟨f, v⟩ lo hi = none :=
  inRange_eq_none.mpr ⟨Int.ofNat_le.mpr low, Int.ofNat_le.mpr high⟩

/-! ## Barges (R51) -/

/-- R51: a barge as RESTORE writes it. -/
def Barge.rewritten (b : Barge) (laden draft : Nat) (fitted : Bool) : Barge :=
  { b with laden := laden, draft := draft, bowFitted := fitted, header := { damaged := false, bad := [] } }

theorem exec_restore_barge {b : Barge} {laden draft : Nat} {fitted : Bool} (hs : s.serves q qs)
    (hq : q.carries 0x06 1 [⟨1, b.hull⟩, ⟨4, laden⟩, ⟨5, draft⟩, ⟨7, if fitted then 1 else 0⟩])
    (once : (s.barges.map (·.hull)).Nodup) (found : s.barge? b.hull = some b) (light : laden ≤ 4000) (shallow : draft ≤ 600) :
    exec .restore s = .next (if b.header.damaged then
        s.answered q qs .done [] { s with
          barges := update (·.hull == b.hull) (fun _ => b.rewritten laden draft fitted) s.barges }
      else s.answered q qs .wrongState [] s) := by
  have h := Request.restores_of_carries hq (t := .barges) rfl rfl rfl rfl
  have range : checkItems [⟨1, b.hull⟩, ⟨4, laden⟩, ⟨5, draft⟩, ⟨7, if fitted then 1 else 0⟩]
      (s.bargeRestoreItem b) = none := by
    refine checkItems_passes ?_
    simp only [List.forall_mem_cons]
    refine ⟨rfl, inRange_cast (Nat.zero_le _) light, inRange_cast (Nat.zero_le _) shallow, ?_, by simp⟩
    cases fitted <;> rfl
  have body : restoreTable .barges b.hull [⟨1, b.hull⟩, ⟨4, laden⟩, ⟨5, draft⟩, ⟨7, if fitted then 1 else 0⟩] s.opened =
      if !b.header.damaged then refuse s.opened .wrongState
      else (s.opened.on fun s => { s with
        barges := update (·.hull == b.hull) (fun _ => b.rewritten laden draft fitted) s.barges }, .done, []) := by
    have here : s.opened.st.barge? b.hull = some b := found
    have checked : checkItems [⟨1, b.hull⟩, ⟨4, laden⟩, ⟨5, draft⟩, ⟨7, if fitted then 1 else 0⟩]
      (s.opened.st.bargeRestoreItem b) = none := range
    have flag : ((if fitted = true then 1 else 0 : Int) == 1) = fitted := by cases fitted <;> rfl
    rewrite [restoreTable, restoreBarge, here]
    dsimp only
    rewrite [checked]
    simp [given, valueOf, Header.fresh, flag, Barge.rewritten]
  refine exec_restore_cases (fun undamaged => ?_) fun damaged => ?_
  · exact exec_restore_refused hs h (body.trans (if_pos (by simp [undamaged])))
  · have moved := (update_found once found (·.rewritten laden draft fitted)).symm
    have bound := bound_of_update (s := s) (t := { s with
        barges := update (·.hull == b.hull) (fun _ => b.rewritten laden draft fitted) s.barges })
      (f := (·.rewritten laden draft fitted)) (fun _ => rfl) (fun _ => rfl) moved rfl
    exact exec_bound (c := .restore) rfl rfl hs h.code ((h.body _).trans (body.trans (if_neg (by simp [damaged]))))
      fun n _ => (congrFun bound n.address).symm

/-! ## Rudder channels (R140) -/

namespace Rudder

/-- R140: a rudder channel as RESTORE writes it. -/
def rewritten (r : Rudder) (kind : RudderKind) (limit rate : Nat) (state : UnitState) : Rudder := { r with
  kind := kind, limit := limit, rate := rate, staged := 0, next := 0, live := 0, allowed := 0, sent := 0, feedback := none
  state := state, header := { damaged := false, bad := [] } }

theorem rewritten_readmitted (r : Rudder) (kind : RudderKind) (limit rate : Nat) (held : ContextState) :
    (r.rewritten kind limit rate held.mirrored).readmitted held = r.rewritten kind limit rate held.unitRestarted := by
  cases held <;> rfl

end Rudder

theorem exec_restore_rudder {r : Rudder} {c : Context} {limit rate : Nat} {flanking : Bool} (hs : s.serves q qs)
    (hq : q.carries 0x06 5 [⟨1, r.channel⟩, ⟨2, if flanking then 2 else 1⟩, ⟨5, limit⟩, ⟨6, rate⟩])
    (found : s.rudder? r.channel = some r) (station : r.station = c.address) (served : s.servedBy c .rudder r.channel)
    (limits : 100 ≤ limit ∧ limit ≤ 450) (rates : 10 ≤ rate ∧ rate ≤ 150) :
    exec .restore s = .next (if r.header.damaged then
        s.answered q qs .done [] { s with
          rudders := update (·.channel == r.channel) (fun _ => r.rewritten (if flanking then .flanking else .steering)
            limit rate c.state.unitRestarted) s.rudders
          link := s.link.restarted c (.rudder limit rate) s.clock }
      else s.answered q qs .wrongState [] s) := by
  have h := Request.restores_of_carries hq (t := .rudders) rfl rfl rfl rfl
  obtain ⟨alone, here, kind, serves⟩ := served
  have range : checkItems [⟨1, r.channel⟩, ⟨2, if flanking then 2 else 1⟩, ⟨5, limit⟩, ⟨6, rate⟩]
      (rudderRestoreItem r) = none := by
    refine checkItems_passes ?_
    simp only [List.forall_mem_cons]
    refine ⟨rfl, ?_, inRange_cast limits.1 limits.2, inRange_cast rates.1 rates.2, by simp⟩
    cases flanking <;> rfl
  let put (new : Rudder) : Txn := s.opened.on fun s => { s with
    rudders := update (·.channel == r.channel) (fun _ => new) s.rudders }
  let side : RudderKind := if flanking then .flanking else .steering
  have body : restoreTable .rudders r.channel [⟨1, r.channel⟩, ⟨2, if flanking then 2 else 1⟩, ⟨5, limit⟩, ⟨6, rate⟩]
      s.opened = if !r.header.damaged then refuse s.opened .wrongState
      else ((put (r.rewritten side limit rate c.state.mirrored)).giveParameters c.address (.rudder limit rate), .done, []) := by
    have row : s.opened.st.rudder? r.channel = some r := found
    have mirrored : s.opened.st.mirroredAt c.address = c.state.mirrored := by
      rw [State.mirroredAt, show s.opened.st.context? c.address = some c from here]
    have sided : rudderKindOf (if flanking = true then 2 else 1) = side := by cases flanking <;> rfl
    rewrite [restoreTable, restoreRudder, row]
    dsimp only
    rewrite [range, station, mirrored]
    simp [given, valueOf, Header.fresh, sided, put, Rudder.rewritten, station]
  refine exec_restore_cases (fun undamaged => ?_) fun damaged => ?_
  · exact exec_restore_refused hs h (body.trans (if_pos (by simp [undamaged])))
  · refine exec_restored hs h ((body.trans (if_neg (by simp [damaged]))).trans ?_) rfl rfl
    have rudders := update_put (key := Rudder.channel) (k := r.channel) (a := r.rewritten side limit rate c.state.mirrored)
      rfl (·.readmitted c.state) s.rudders
    rewrite [Txn.giveParameters_eq (x := put _) alone here (by rewrite [kind]; exact fun h => nomatch h), Txn.on,
      State.recordReadmitted, kind, State.readmitted_plain _ (by simp [kind]), serves]
    dsimp only [put, Txn.on]
    rewrite [show s.opened.st.rudders = s.rudders from rfl, rudders, Rudder.rewritten_readmitted]
    rfl

end

/-! RESTORE of a coupling, a transfer and an engine (R93, R132, R147, R177). -/

section
variable {s : State} {q : Request} {qs : List Request}

/-! ## Couplings (R93) -/

/-- R93: a coupling as RESTORE writes it in WHOLE. -/
def Coupling.rewritten (c : Coupling) (rated : Nat) : Coupling := { c with
  rated := rated, tendOrder := .none, declaredMade := false, state := .unlashed, tension := none, seated := none
  winchFault := false, crossing := false, header := { damaged := false, bad := [] }, debounce := none
  slackTimer := none, dropSeen := false }

theorem exec_restore_coupling {c : Coupling} {rated : Nat} (hs : s.serves q qs)
    (hq : q.carries 0x06 3 [⟨1, c.number⟩, ⟨8, rated⟩]) (found : s.coupling? c.number = some c) (low : 10 ≤ rated)
    (high : rated ≤ 2000) (whole : s.lockage.phase = .whole) :
    exec .restore s = .next (if c.header.damaged then s.answered q qs .done [] { s with
        couplings := update (·.number == c.number) (fun _ => c.rewritten rated) s.couplings }
      else s.answered q qs .wrongState [] s) := by
  have h := Request.restores_of_carries hq (t := .couplings) rfl rfl rfl rfl
  have body : restoreTable .couplings c.number [⟨1, c.number⟩, ⟨8, rated⟩] s.opened =
      if !c.header.damaged then refuse s.opened .wrongState
      else ((s.opened.on fun s => { s with
        couplings := update (·.number == c.number) (fun _ => c.rewritten rated) s.couplings }).touch, .done, []) := by
    have row : s.opened.st.coupling? c.number = some c := found
    have range : checkItems [⟨1, c.number⟩, ⟨8, rated⟩] (couplingRestoreItem c) = none := by
      refine checkItems_passes ?_
      simp only [List.forall_mem_cons]
      exact ⟨rfl, inRange_cast low high, by simp⟩
    have inWhole : (s.opened.st.lockage.phase != .whole) = false := by
      rewrite [show s.opened.st.lockage.phase = .whole from whole]
      rfl
    rewrite [restoreTable, restoreCoupling, row]
    dsimp only
    rewrite [range, inWhole]
    simp [given, valueOf, Header.fresh, Coupling.rewritten]
  refine exec_restore_cases (fun undamaged => ?_) fun damaged => ?_
  · exact exec_restore_refused hs h (body.trans (if_pos (by simp [undamaged])))
  · exact exec_whole (c := .restore) (touched := true) (cs := [])
      (after := { s with couplings := update (·.number == c.number) (fun _ => c.rewritten rated) s.couplings }) rfl rfl hs
      h.code ((h.body _).trans (body.trans (if_neg (by simp [damaged])))) whole rfl rfl

/-! ## Transfers (R177) -/

namespace State

theorem readmitted_arbiter (s : State) (b : Arbiter) (c : Context) (p : Parameters) :
    ({ s with arbiter := b } : State).readmitted c p = { s.readmitted c p with arbiter := b } := by
  unfold State.readmitted
  dsimp only
  split <;> rfl

theorem readmitted_roster (s : State) (c : Context) (p : Parameters) :
    (s.readmitted c p).barges = s.barges ∧ (s.readmitted c p).policy = s.policy := by
  unfold State.readmitted
  dsimp only
  split <;> exact ⟨rfl, rfl⟩

end State

/-- R177: a transfer as RESTORE writes it. -/
def Transfer.rewritten (t : Transfer) (factor volume interval batches : Nat) (mode : TransferMode) : Transfer := { t with
  factor := factor, batchVolume := volume, mode := mode
  batchCount := if mode = .counted then some batches else none, interval := interval, batchesDone := 0
  batchMoved := 0, totalMoved := 0, heldVolume := 0, state := .idle, gapRequest := false
  pendingAbort := false, mark := none, header := { damaged := false, bad := [] }, pumpRun := false, quiet := 0 }

theorem interval_item {interval : Nat} (fits : interval = 0 ∨ (100 ≤ interval ∧ interval ≤ 100000)) :
    (if (interval : Int) = 0 then none else inRange ⟨9, interval⟩ 100 100000) = none := by
  rcases fits with rfl | ⟨low, high⟩
  · rfl
  · rewrite [if_neg (by omega)]
    exact inRange_cast low high

/-- R177: the items of a RESTORE of a transfer behind its key. -/
def batchItems (factor volume interval batches : Nat) (mode : TransferMode) : List Item :=
  [⟨3, factor⟩, ⟨6, volume⟩, ⟨7, mode.code⟩, ⟨9, interval⟩] ++ if mode = .counted then [⟨8, batches⟩] else []

theorem exec_restore_transfer {tr : Transfer} {c : Context} {factor volume interval batches : Nat} {mode : TransferMode}
    (hs : s.serves q qs) (hq : q.carries 0x06 7 (⟨1, tr.number⟩ :: batchItems factor volume interval batches mode))
    (found : s.transfer? tr.number = some tr) (pump : tr.pump = c.address)
    (served : s.servedBy c .pump tr.number) (factors : 100 ≤ factor ∧ factor ≤ 100000) (volumes : 10 ≤ volume ∧ volume ≤ 20000)
    (intervals : interval = 0 ∨ (100 ≤ interval ∧ interval ≤ 100000)) (counts : 1 ≤ batches ∧ batches ≤ 1000) :
    exec .restore s = .next (if tr.header.damaged then s.answered q qs .done [] (State.readmitted { s with
        transfers := update (·.number == tr.number) (fun _ => tr.rewritten factor volume interval batches mode)
          s.transfers } c (.factor factor))
      else s.answered q qs .wrongState [] s) := by
  obtain ⟨alone, here, kind, serves⟩ := served
  have h := Request.restores_of_carries hq (t := .transfers) rfl (by cases mode <;> rfl) (by cases mode <;> rfl)
    (by cases mode <;> rfl)
  let put (new : Transfer) : Txn := s.opened.on fun s => { s with
    transfers := update (·.number == tr.number) (fun _ => new) s.transfers }
  have body : restoreTable .transfers tr.number (⟨1, tr.number⟩ :: batchItems factor volume interval batches mode)
      s.opened = if !tr.header.damaged then refuse s.opened .wrongState
      else ((put (tr.rewritten factor volume interval batches mode)).giveParameters c.address (.factor factor), .done, []) := by
    have row : s.opened.st.transfer? tr.number = some tr := found
    have range : checkItems (⟨1, tr.number⟩ :: batchItems factor volume interval batches mode) (transferRestoreItem tr
        ((valueOf (⟨1, tr.number⟩ :: batchItems factor volume interval batches mode) 7).getD 0)) = none := by
      refine checkItems_passes ?_
      have counted := inRange_cast (f := 8) counts.1 counts.2
      cases mode <;> simp only [batchItems, List.forall_mem_cons, List.cons_append, List.nil_append, reduceCtorEq, if_false,
        if_true] <;> refine ⟨rfl, inRange_cast factors.1 factors.2, inRange_cast volumes.1 volumes.2, rfl,
          interval_item intervals, ?_⟩
      · simp
      · exact ⟨counted, by simp⟩
      · simp
    rewrite [restoreTable, restoreTransfer, row]
    dsimp only
    rewrite [range]
    cases mode <;> simp [given, valueOf, Header.fresh, put, newTransfer, Transfer.rewritten, pump, batchItems,
      TransferMode.code, transferModeOf]
  refine exec_restore_cases (fun undamaged => ?_) fun damaged => ?_
  · exact exec_restore_refused hs h (body.trans (if_pos (by simp [undamaged])))
  · obtain ⟨barges, policy⟩ := State.readmitted_roster { s with
      transfers := update (·.number == tr.number) (fun _ => tr.rewritten factor volume interval batches mode) s.transfers }
      c (.factor factor)
    refine exec_restored hs h ((body.trans (if_neg (by simp [damaged]))).trans ?_) barges policy
    have calm (y : Txn) (same : y.st.transfers = (put (tr.rewritten factor volume interval batches mode)).st.transfers) :
        y.pumpLost tr.number = y := by
      have now : y.st.transfer? tr.number = some (tr.rewritten factor volume interval batches mode) := by
        rewrite [State.transfer?, same]
        exact find?_put (key := Transfer.number) found rfl
      exact Txn.pumpLost_calm now rfl rfl
    rewrite [Txn.giveParameters_eq (x := put _) alone here (by rewrite [serves]; exact fun _ => calm), Txn.on,
      State.recordReadmitted, kind]
    have moved := State.readmitted_arbiter { s with
      transfers := update (·.number == tr.number) (fun _ => tr.rewritten factor volume interval batches mode) s.transfers }
      (s.arbiter.grant .console) c (.factor factor)
    rewrite [← moved]
    rfl

end

/-! RESTORE of an engine with the admissions of its governor and of its meter (R132, R147). -/

/-! ## The other contexts -/

section
variable {s : State} {c d : Context} {p : Parameters}

theorem update_other {α : Type} {key : α → Nat} {a : Nat} {f : α → α} (stays : ∀ x, key (f x) = key x) {l : List α} {k : Nat}
    (other : k ≠ a) : (update (key · == a) f l).find? (key · == k) = l.find? (key · == k) := by
  rewrite [find?_update _ _ _ _ fun x => by rw [stays]]
  cases found : l.find? (key · == k) with
  | none => rfl
  | some x =>
    obtain ⟨rfl, -⟩ := find?_key (key := key) found
    rw [Option.map_some, if_neg (by simpa using other)]

theorem update_keeps_contexts {f : Context → Context} (a : Nat) (l : List Context) (stays : ∀ d, (f d).address = d.address) :
    (update (·.address == a) f l).map (·.address) = l.map (·.address) ∧ ∀ k, k ≠ a →
      (update (·.address == a) f l).find? (·.address == k) = l.find? (·.address == k) := by
  refine ⟨?_, fun k other => update_other (key := Context.address) stays other⟩
  rewrite [update, List.map_map]
  refine List.map_congr_left fun d _ => ?_
  dsimp only [Function.comp]
  split
  · exact stays d
  · rfl

/-- R105: an admission that restarts leaves the contexts at other addresses, and every address, alone. -/
theorem State.readmitted_contexts (s : State) (c : Context) (p : Parameters) :
    (s.readmitted c p).link.contexts.map (·.address) = s.link.contexts.map (·.address) ∧
      ∀ a, a ≠ c.address → (s.readmitted c p).context? a = s.context? a := by
  have restarted : (s.link.restarted c p s.clock).contexts.map (·.address) = s.link.contexts.map (·.address) ∧
      ∀ a, a ≠ c.address → (s.link.restarted c p s.clock).contexts.find? (·.address == a) =
        s.link.contexts.find? (·.address == a) := update_keeps_contexts _ _ (by exact fun _ => rfl)
  unfold State.readmitted
  dsimp only
  split
  · have again := update_keeps_contexts (f := fun d => { d with baseline := none, lastTemperature := none }) c.address
      (s.link.restarted c p s.clock).contexts (fun _ => rfl)
    exact ⟨again.1.trans restarted.1, fun a other => (again.2 a other).trans (restarted.2 a other)⟩
  · exact restarted

/-! ## Engines (R132, R147) -/

namespace Engine

/-- R132: an engine as RESTORE writes it. -/
def rewritten (e : Engine) (rated : Nat) (factor : Option Nat) (state : UnitState) : Engine := { e with
  rated := rated, meterFactor := factor, staged := 0, next := 0, live := 0, allowed := 0
  sent := 0, delivered := none, alarm := false, lastDirection := .none, zeroTime := 0, consumed := 0, undebited := 0
  state := state, header := { damaged := false, bad := [] } }

theorem rewritten_readmitted (e : Engine) (rated : Nat) (factor : Option Nat) (held : ContextState) :
    (e.rewritten rated factor held.mirrored).readmitted held = e.rewritten rated factor held.unitRestarted := by
  cases held <;> rfl

end Engine

/-- R132: the engine written, before its contexts are readmitted. -/
def State.withEngine (s : State) (e new : Engine) : State :=
  { s with engines := update (·.number == e.number) (fun _ => new) s.engines }

/-- R132: the state of an engine as its governor's context gives it. -/
def governedState (governor : Option Context) : UnitState :=
  match governor with
  | none => .offline
  | some c => c.state.unitRestarted

namespace State

/-- R132: the state after the governor's admission restarts. -/
def governed (s : State) (governor : Option Context) (rated : Nat) : State :=
  match governor with
  | none => s
  | some c => s.readmitted c (.engine rated)

/-- R132: the state after the meter's admission restarts. -/
def metered (s : State) (meter : Option Context) (factor : Nat) : State :=
  match meter with
  | none => s
  | some c => s.readmitted c (.factor factor)

end State

variable {x : Txn} {e : Engine} {governor meter : Option Context} {rated factor : Nat}

namespace Txn

/-- R132: the admission of the governor restarts, and the engine follows it. -/
theorem governed_eq (served : ∀ c, governor = some c → x.st.servedBy c .engine e.number)
    (held : Option Nat) : ((x.on fun s => s.withEngine e (e.rewritten rated held
        ((governor.map fun c => c.state.mirrored).getD .offline))).forKeys (governor.map (·.address)).toList
          fun a w => w.giveParameters a (.engine rated)) =
      x.on fun s => (s.withEngine e (e.rewritten rated held (governedState governor))).governed governor rated := by
  cases governor with
  | none => rfl
  | some c =>
    obtain ⟨alone, here, kind, serves⟩ := served c rfl
    have engines := update_put (key := Engine.number) (k := e.number) (a := e.rewritten rated held c.state.mirrored)
      rfl (·.readmitted c.state) x.st.engines
    refine (Txn.giveParameters_eq (x := x.on fun s => s.withEngine e (e.rewritten rated held c.state.mirrored)) (c := c)
      alone here (by rewrite [kind]; exact fun h => nomatch h)).trans ?_
    rewrite [Txn.on, State.recordReadmitted, kind, serves]
    dsimp only [Txn.on, State.withEngine]
    rewrite [engines, Engine.rewritten_readmitted]
    rfl

/-- R132: the admission of the meter restarts. -/
theorem metered_eq {key : Nat} (served : ∀ c, meter = some c → x.st.servedBy c .meter key) :
    (x.forKeys (meter.map (·.address)).toList fun a w => w.giveParameters a (.factor factor)) =
      x.on fun s => s.metered meter factor := by
  cases meter with
  | none => rfl
  | some c =>
    obtain ⟨alone, here, kind, -⟩ := served c rfl
    refine (Txn.giveParameters_eq (c := c) alone here (by rewrite [kind]; exact fun h => nomatch h)).trans ?_
    rewrite [Txn.on, State.recordReadmitted, kind]
    rfl

end Txn

namespace State

theorem governed_contexts (s : State) (governor : Option Context) (rated : Nat) :
    (s.governed governor rated).link.contexts.map (·.address) = s.link.contexts.map (·.address) ∧
      ∀ a, (∀ c, governor = some c → a ≠ c.address) → (s.governed governor rated).context? a = s.context? a := by
  cases governor with
  | none => exact ⟨rfl, fun _ _ => rfl⟩
  | some g =>
    obtain ⟨addresses, others⟩ := s.readmitted_contexts g (.engine rated)
    exact ⟨addresses, fun a other => others a (other g rfl)⟩

theorem governed_arbiter (s : State) (b : Arbiter) (governor : Option Context) (rated : Nat) :
    ({ s with arbiter := b } : State).governed governor rated = { s.governed governor rated with arbiter := b } := by
  cases governor with
  | none => rfl
  | some c => exact s.readmitted_arbiter b c _

theorem metered_arbiter (s : State) (b : Arbiter) (meter : Option Context) (factor : Nat) :
    ({ s with arbiter := b } : State).metered meter factor = { s.metered meter factor with arbiter := b } := by
  cases meter with
  | none => rfl
  | some c => exact s.readmitted_arbiter b c _

theorem restoredEngine_roster (s : State) (governor meter : Option Context) (rated factor : Nat) :
    ((s.governed governor rated).metered meter factor).barges = s.barges ∧
      ((s.governed governor rated).metered meter factor).policy = s.policy := by
  have governed : (s.governed governor rated).barges = s.barges ∧ (s.governed governor rated).policy = s.policy := by
    cases governor with
    | none => exact ⟨rfl, rfl⟩
    | some c => exact s.readmitted_roster c _
  cases meter with
  | none => exact governed
  | some c =>
    obtain ⟨barges, policy⟩ := (s.governed governor rated).readmitted_roster c (.factor factor)
    exact ⟨barges.trans governed.1, policy.trans governed.2⟩

end State

end

/-! RESTORE of an engine: the request (R132, R147). -/

section
variable {s : State} {q : Request} {qs : List Request} {e : Engine} {governor meter : Option Context} {rated factor : Nat}

/-- R132: the items of a RESTORE of an engine. -/
def ratingItems (number rated factor : Nat) (metered : Bool) : List Item :=
  ⟨1, number⟩ :: ⟨4, rated⟩ :: if metered then [⟨6, factor⟩] else []

theorem restoreEngine_eq (found : s.engine? e.number = some e) (rates : 50 ≤ rated ∧ rated ≤ 600)
    (factors : 100 ≤ factor ∧ factor ≤ 100000) (station : e.station = governor.map (·.address))
    (governs : ∀ c, governor = some c → s.context? c.address = some c) (metered : e.meter = meter.map (·.address)) :
    restoreTable .engines e.number (ratingItems e.number rated factor meter.isSome) s.opened =
      if !e.header.damaged then refuse s.opened .wrongState
      else (((s.opened.on fun s => s.withEngine e (e.rewritten rated (meter.map fun _ => factor)
        ((governor.map fun c => c.state.mirrored).getD .offline))).forKeys (governor.map (·.address)).toList
          fun a w => w.giveParameters a (.engine rated)).forKeys (meter.map (·.address)).toList
          fun a w => w.giveParameters a (.factor factor), .done, []) := by
  have row : s.opened.st.engine? e.number = some e := found
  have mirrored : (e.station.map s.opened.st.mirroredAt).getD .offline =
      (governor.map fun c => c.state.mirrored).getD .offline := by
    rewrite [station, Option.map_map]
    cases governor with
    | none => rfl
    | some c =>
      have here : s.opened.st.context? c.address = some c := governs c rfl
      rw [Option.map_some, Option.map_some, Function.comp, State.mirroredAt, here]
  have held : e.meter.isSome = meter.isSome := by rw [metered, Option.isSome_map]
  have range : checkItems (ratingItems e.number rated factor meter.isSome) (engineRestoreItem e) = none := by
    refine checkItems_passes ?_
    have six : meter.isSome = true → engineRestoreItem e ⟨6, factor⟩ = none := fun some => by
      rewrite [engineRestoreItem]
      dsimp only
      rewrite [held, if_pos some]
      exact inRange_cast factors.1 factors.2
    cases some : meter.isSome with
    | false =>
      simp only [ratingItems, List.forall_mem_cons, Bool.false_eq_true, if_false]
      exact ⟨rfl, inRange_cast rates.1 rates.2, by simp⟩
    | true =>
      simp only [ratingItems, List.forall_mem_cons, if_true]
      exact ⟨rfl, inRange_cast rates.1 rates.2, six some, by simp⟩
  have asked : (e.meter.isSome && !gives (ratingItems e.number rated factor meter.isSome) 6) = false := by
    rewrite [held]
    cases meter.isSome <;> rfl
  have four : given (ratingItems e.number rated factor meter.isSome) 4 0 = rated := by simp [given, valueOf, ratingItems]
  rewrite [restoreTable, restoreEngine, row]
  dsimp only
  rewrite [asked, range, mirrored, four, station, metered]
  dsimp only
  rewrite [if_neg Bool.false_ne_true]
  have six : meter = none ∨ given (ratingItems e.number rated factor meter.isSome) 6 0 = factor := by
    cases meter with
    | none => exact .inl rfl
    | some c => exact .inr (by simp [given, valueOf, ratingItems])
  rcases six with none | six
  · rewrite [none] at metered ⊢
    rewrite [← station, Engine.rewritten, show e.meter = .none from metered]
    rfl
  · rewrite [six, Option.map_map, ← station, ← metered]
    rfl

/-- R132, R147. -/
theorem exec_restore_engine (hs : s.serves q qs)
    (hq : q.carries 0x06 4 (ratingItems e.number rated factor meter.isSome)) (found : s.engine? e.number = some e)
    (rates : 50 ≤ rated ∧ rated ≤ 600) (factors : 100 ≤ factor ∧ factor ≤ 100000)
    (station : e.station = governor.map (·.address)) (governs : ∀ c, governor = some c → s.servedBy c .engine e.number)
    (metered : e.meter = meter.map (·.address)) (meters : ∀ c, meter = some c → s.servedBy c .meter e.number) :
    exec .restore s = .next (if e.header.damaged then
        s.answered q qs .done [] (((s.withEngine e (e.rewritten rated (meter.map fun _ => factor)
          (governedState governor))).governed governor rated).metered meter factor)
      else s.answered q qs .wrongState [] s) := by
  have h := Request.restores_of_carries (is := ⟨4, rated⟩ :: if meter.isSome then [⟨6, factor⟩] else []) hq (t := .engines)
    rfl (by cases meter.isSome <;> rfl) (by cases meter.isSome <;> rfl) (by cases meter.isSome <;> rfl)
  have body := restoreEngine_eq found rates factors station (fun c hc => (governs c hc).2.1) metered
  refine exec_restore_cases (fun undamaged => ?_) fun damaged => ?_
  · exact exec_restore_refused hs h (body.trans (if_pos (by simp [undamaged])))
  · obtain ⟨barges, policy⟩ := State.restoredEngine_roster (s.withEngine e (e.rewritten rated (meter.map fun _ => factor)
      (governedState governor))) governor meter rated factor
    refine exec_restored hs h ((body.trans (if_neg (by simp [damaged]))).trans ?_) barges policy
    rewrite [Txn.governed_eq (x := s.opened) governs, Txn.metered_eq (key := e.number) (meter := meter) fun c hc => ?_]
    · refine Prod.ext (congrArg (fun t => ({ s.opened with st := t } : Txn)) ?_) rfl
      rewrite [← State.metered_arbiter, ← State.governed_arbiter]
      rfl
    · obtain ⟨alone, here, kind, serves⟩ := meters c hc
      obtain ⟨addresses, others⟩ := (s.opened.st.withEngine e (e.rewritten rated (meter.map fun _ => factor)
        (governedState governor))).governed_contexts governor rated
      refine ⟨addresses.symm ▸ alone, (others _ fun g hg same => ?_).trans here, kind, serves⟩
      obtain ⟨-, there, kind', -⟩ := governs g hg
      rewrite [← same, here, Option.some.injEq] at there
      rewrite [there, kind'] at kind
      cases kind

end

/-! RESTORE of a tank: what is held for it is posted (R163, R176). -/

/-! ## Works in which one round does something -/

namespace Txn

theorem forKeys_none {α : Type} {key : α → Nat} {f : Nat → Txn → Txn} {x : Txn} : ∀ l : List α,
    (∀ a ∈ l, f (key a) x = x) → x.forKeys (l.map key) f = x
  | [], _ => rfl
  | a :: l, idle => by
    have rest := Txn.forKeys_none l fun b hb => idle b (by simp [hb])
    rewrite [Txn.forKeys, List.map_cons, List.foldl_cons, idle a (by simp)]
    exact rest

theorem forKeys_one {α : Type} {key : α → Nat} {p : α → Bool} {f : Nat → Txn → Txn} {x : Txn} {e : α} : ∀ l : List α,
    l.filter p = [e] → (∀ a ∈ l, p a = false → f (key a) x = x ∧ f (key a) (f (key e) x) = f (key e) x) →
    x.forKeys (l.map key) f = f (key e) x
  | [], one, _ => nomatch one
  | a :: l, one, idle => by
    rewrite [Txn.forKeys, List.map_cons, List.foldl_cons]
    cases picks : p a with
    | true =>
      rewrite [List.filter_cons_of_pos picks, List.cons.injEq] at one
      obtain ⟨rfl, none⟩ := one
      refine Txn.forKeys_none l fun b hb => (idle b (by simp [hb]) ?_).2
      simpa using List.filter_eq_nil_iff.mp none b hb
    | false =>
      rewrite [List.filter_cons_of_neg (by simp [picks])] at one
      rewrite [(idle a (by simp) picks).1]
      exact Txn.forKeys_one l one fun b hb => idle b (by simp [hb])

end Txn

/-! ## Undebited draws (R163) -/

section
variable {x : Txn}

namespace Txn

theorem debitHeld_idle (free : x.st.errorFree = true) {a : Engine} {k : Nat} (found : x.st.engine? a.number = some a)
    (idle : (!a.header.damaged && a.undebited != 0) = false) : x.debitHeld a.number k = x := by
  have sound : x.st.sound .engines a.number = !a.header.damaged := by simp [State.sound, State.header?, found]
  rewrite [Txn.debitHeld, Txn.read_errorFree x free, sound]
  cases damaged : a.header.damaged with
  | true => rfl
  | false =>
    have nothing : a.undebited = 0 := by simpa [damaged] using idle
    rewrite [show (!false) = true from rfl]
    dsimp only
    rewrite [found]
    exact if_pos nothing

theorem debitHeld_due (free : x.st.errorFree = true) {e : Engine} {t : Tank} (has : x.HasEngine e)
    (tank : x.HasTank t) (sound : e.header.damaged = false) (intact : t.header.damaged = false) (much : e.undebited ≠ 0) :
    x.debitHeld e.number t.number = ((x.putTank (t.afterDraw e.undebited)).on fun s => { s with
      notices := s.notices.afterDebit t (t.afterDraw e.undebited) e.undebited }).putEngine { e with undebited := 0 } := by
  have draws := tank.debit much true
  rewrite [Tank.debited_draw] at draws
  have still : ((x.putTank (t.afterDraw e.undebited)).on fun s => { s with
      notices := s.notices.afterDebit t (t.afterDraw e.undebited) e.undebited }).HasEngine e :=
    ⟨has.found, has.once, has.clean⟩
  rewrite [Txn.debitHeld, Txn.read_of_sound free (State.sound_of_engine? has.found sound)]
  dsimp only
  rewrite [has.found]
  dsimp only
  rewrite [if_neg much, Txn.read_of_sound free (by simp [State.sound, State.header?, tank.found, intact])]
  dsimp only
  rw [draws, still.modEngine (by rfl) (by rfl)]

/-! ## Held volumes (R176) -/

theorem postHeld_idle (free : x.st.errorFree = true) {a : Transfer} (found : x.st.transfer? a.number = some a)
    (idle : (!a.header.damaged && a.heldVolume != 0) = false) : x.postHeld a.number = x := by
  have sound : x.st.sound .transfers a.number = !a.header.damaged := by simp [State.sound, State.header?, found]
  rewrite [Txn.postHeld, Txn.read_errorFree x free, sound]
  cases damaged : a.header.damaged with
  | true => rfl
  | false =>
    have nothing : a.heldVolume = 0 := by simpa [damaged] using idle
    rewrite [show (!false) = true from rfl]
    dsimp only
    rewrite [found]
    exact if_pos nothing

theorem postHeld_due (free : x.st.errorFree = true) (once : (x.st.tanks.map (·.number)).Nodup) {tr : Transfer}
    {source destination : Tank} (has : x.HasTransfer tr) (sound : tr.header.damaged = false) (much : tr.heldVolume ≠ 0)
    (hs : x.st.tank? tr.source = some source) (hd : x.st.tank? tr.destination = some destination)
    (apart : tr.source ≠ tr.destination) : x.postHeld tr.number =
      if source.header.damaged = true ∨ destination.header.damaged = true then x
      else (x.on fun s => s.fuelMoved source destination tr.heldVolume true).putTransfer { tr with heldVolume := 0 } := by
  obtain ⟨sn, smem⟩ := find?_key (key := Tank.number) hs
  obtain ⟨dn, dmem⟩ := find?_key (key := Tank.number) hd
  obtain ⟨-, -, -, -, tanks, -⟩ := x.st.errorFree_iff.mp free
  have soundSource : x.st.sound .tanks tr.source = !source.header.damaged := by simp [State.sound, State.header?, hs]
  have soundDestination : x.st.sound .tanks tr.destination = !destination.header.damaged := by
    simp [State.sound, State.header?, hd]
  have soundTransfer : x.st.sound .transfers tr.number = true := by simp [State.sound, State.header?, has.found, sound]
  rewrite [Txn.postHeld, Txn.read_of_sound free soundTransfer]
  dsimp only
  rewrite [has.found]
  dsimp only
  rewrite [if_neg much, Txn.read_errorFree x free, soundSource]
  dsimp only
  rewrite [Txn.read_errorFree x free, soundDestination, State.tanksSound, soundSource, soundDestination, Bool.and_self]
  by_cases damaged : source.header.damaged = true ∨ destination.header.damaged = true
  · rw [if_neg (by rcases damaged with h | h <;> simp [h]), if_pos damaged]
  · push Not at damaged
    obtain ⟨us, ud⟩ := damaged
    have us := Bool.eq_false_iff.mpr us
    have ud := Bool.eq_false_iff.mpr ud
    rewrite [if_pos (by simp [us, ud]), if_neg (by simp [us, ud])]
    have apart' : source.number ≠ destination.number := by rewrite [sn, dn]; exact apart
    have hasSource : x.HasTank source := ⟨sn.symm ▸ hs, once, Header.bad_eq_nil (tanks source smem) us⟩
    have hasDestination : x.HasTank destination := ⟨dn.symm ▸ hd, once, Header.bad_eq_nil (tanks destination dmem) ud⟩
    have given := hasSource.debit much false
    rewrite [Tank.debited_out] at given
    have left : ((x.putTank (source.movedOut tr.heldVolume)).on fun s => { s with
        notices := s.notices.afterDebit source (source.movedOut tr.heldVolume) tr.heldVolume }).HasTank destination :=
      have put := hasDestination.put_other (u := source.movedOut tr.heldVolume) apart'
      ⟨put.found, put.once, put.clean⟩
    have taken := left.credit much
    have moved : (x.debit tr.source tr.heldVolume false).credit tr.destination tr.heldVolume =
        x.on fun s => s.fuelMoved source destination tr.heldVolume true := by
      rewrite [← sn, ← dn, given, taken, Txn.raiseIf_spec]
      rfl
    rewrite [moved]
    have still : (x.on fun s => s.fuelMoved source destination tr.heldVolume true).HasTransfer tr :=
      ⟨has.found, has.once, has.clean⟩
    exact still.modTransfer (f := fun t => { t with heldVolume := 0 }) rfl rfl [13]

end Txn

end

/-! RESTORE of a tank: the request (R163, R176). -/

/-! ## What is held for a tank -/

namespace State

/-- R163: the undebited draws that are posted to a tank. -/
def draws (s : State) (k : Nat) : List Engine :=
  s.engines.filter fun e => e.supply == some k && !e.header.damaged && e.undebited != 0

/-- R176: the held volumes that are posted to a tank. -/
def volumes (s : State) (k : Nat) : List Transfer :=
  s.transfers.filter fun tr => (tr.source == k || tr.destination == k) && !tr.header.damaged && tr.heldVolume != 0

end State

theorem filter_of_three {α : Type} (p q r : α → Bool) (l : List α) :
    (l.filter p).filter (fun a => q a && r a) = l.filter fun a => p a && q a && r a := by
  rewrite [List.filter_filter]
  refine congrArg (fun f => l.filter f) (funext fun a => ?_)
  rw [Bool.and_comm, Bool.and_assoc]

section
variable {z : Txn} {k : Nat}

theorem find_mem {α : Type} {key : α → Nat} {l : List α} (once : (l.map key).Nodup) {p : α → Bool} {a : α}
    (mem : a ∈ l.filter p) : l.find? (key · == key a) = some a :=
  find?_eq_some_of_nodup once (List.mem_of_mem_filter mem)

namespace Txn

theorem debits_none (free : z.st.errorFree = true) (once : (z.st.engines.map (·.number)).Nodup)
    (none : z.st.draws k = []) : z.forKeys (z.st.suppliedBy k) (fun e v => v.debitHeld e k) = z := by
  rewrite [State.draws, ← filter_of_three] at none
  refine Txn.forKeys_none (key := Engine.number) (f := fun e v => v.debitHeld e k) _ fun a mem => ?_
  exact Txn.debitHeld_idle free (find_mem (key := Engine.number) once mem)
    (by simpa using List.filter_eq_nil_iff.mp none a mem)

theorem volumes_none (free : z.st.errorFree = true) (once : (z.st.transfers.map (·.number)).Nodup)
    (none : z.st.volumes k = []) : z.forKeys (z.st.transfersNaming k) (fun k v => v.postHeld k) = z := by
  rewrite [State.volumes, ← filter_of_three] at none
  refine Txn.forKeys_none (key := Transfer.number) (f := fun k v => v.postHeld k) _ fun a mem => ?_
  exact Txn.postHeld_idle free (find_mem (key := Transfer.number) once mem)
    (by simpa using List.filter_eq_nil_iff.mp none a mem)

/-- R163: the transaction after one draw is posted. -/
def drawPosted (z : Txn) (e : Engine) (t : Tank) : Txn :=
  ((z.putTank (t.afterDraw e.undebited)).on fun s => { s with
    notices := s.notices.afterDebit t (t.afterDraw e.undebited) e.undebited }).putEngine { e with undebited := 0 }

theorem drawPosted_errorFree (free : z.st.errorFree = true) {e : Engine} {t : Tank} (has : z.HasEngine e)
    (tank : z.HasTank t) : (z.drawPosted e t).st.errorFree = true := by
  have tanks : (z.putTank (t.afterDraw e.undebited)).st.errorFree = true := Txn.putTank_errorFree free tank.clean
  exact Txn.putEngine_errorFree (x := (z.putTank (t.afterDraw e.undebited)).on fun s => { s with
    notices := s.notices.afterDebit t (t.afterDraw e.undebited) e.undebited }) (e := { e with undebited := 0 })
    tanks has.clean

theorem debits_one (free : z.st.errorFree = true) (once : (z.st.engines.map (·.number)).Nodup) {e : Engine} {t : Tank}
    (one : z.st.draws t.number = [e]) (tank : z.HasTank t) (intact : t.header.damaged = false) :
    z.HasEngine e ∧ z.forKeys (z.st.suppliedBy t.number) (fun e v => v.debitHeld e t.number) = z.drawPosted e t := by
  have due : e ∈ z.st.draws t.number := by rewrite [one]; exact List.mem_singleton_self e
  have found := find_mem (key := Engine.number) once due
  simp only [State.draws, List.mem_filter, Bool.and_eq_true, Bool.not_eq_true', bne_iff_ne] at due
  obtain ⟨mem, ⟨-, sound⟩, much⟩ := due
  obtain ⟨-, -, engines, -⟩ := z.st.errorFree_iff.mp free
  have has : z.HasEngine e := ⟨found, once, Header.bad_eq_nil (engines e mem) sound⟩
  have posted : z.debitHeld e.number t.number = z.drawPosted e t := Txn.debitHeld_due free has tank sound intact much
  refine ⟨has, ?_⟩
  rewrite [State.draws, ← filter_of_three] at one
  refine (Txn.forKeys_one (key := Engine.number) (f := fun e v => v.debitHeld e t.number) _ one fun a ha idle => ?_).trans
    posted
  have here := find_mem (key := Engine.number) once ha
  refine ⟨Txn.debitHeld_idle free here idle, ?_⟩
  have other : e.number ≠ a.number := fun same => by
    obtain rfl := eq_of_nodup_key once mem (List.mem_of_mem_filter ha) same
    simp [sound, much] at idle
  rewrite [posted]
  exact Txn.debitHeld_idle (Txn.drawPosted_errorFree free has tank)
    ((find?_update_of_ne (key := Engine.number) (a := { e with undebited := 0 }) rfl other z.st.engines).trans here) idle

/-- R176: the transaction after one held volume is posted. -/
def volumePosted (z : Txn) (tr : Transfer) (source destination : Tank) : Txn :=
  if source.header.damaged = true ∨ destination.header.damaged = true then z
  else (z.on fun s => s.fuelMoved source destination tr.heldVolume true).putTransfer { tr with heldVolume := 0 }

theorem volumes_one (free : z.st.errorFree = true) (once : (z.st.transfers.map (·.number)).Nodup)
    (tanks : (z.st.tanks.map (·.number)).Nodup) {tr : Transfer} {source destination : Tank}
    (one : z.st.volumes k = [tr]) (hs : z.st.tank? tr.source = some source)
    (hd : z.st.tank? tr.destination = some destination) (apart : tr.source ≠ tr.destination) :
    z.HasTransfer tr ∧
      z.forKeys (z.st.transfersNaming k) (fun k v => v.postHeld k) = z.volumePosted tr source destination := by
  have due : tr ∈ z.st.volumes k := by rewrite [one]; exact List.mem_singleton_self tr
  have found := find_mem (key := Transfer.number) once due
  simp only [State.volumes, List.mem_filter, Bool.and_eq_true, Bool.not_eq_true', bne_iff_ne] at due
  obtain ⟨mem, ⟨-, sound⟩, much⟩ := due
  obtain ⟨-, -, -, -, -, transfers⟩ := z.st.errorFree_iff.mp free
  have has : z.HasTransfer tr := ⟨found, once, Header.bad_eq_nil (transfers tr mem) sound⟩
  have posted : z.postHeld tr.number = z.volumePosted tr source destination :=
    Txn.postHeld_due free tanks has sound much hs hd apart
  refine ⟨has, ?_⟩
  rewrite [State.volumes, ← filter_of_three] at one
  refine (Txn.forKeys_one (key := Transfer.number) (f := fun k v => v.postHeld k) _ one fun a ha idle => ?_).trans posted
  have here := find_mem (key := Transfer.number) once ha
  refine ⟨Txn.postHeld_idle free here idle, ?_⟩
  have other : tr.number ≠ a.number := fun same => by
    obtain rfl := eq_of_nodup_key once mem (List.mem_of_mem_filter ha) same
    simp [sound, much] at idle
  rewrite [posted, Txn.volumePosted]
  split
  · exact Txn.postHeld_idle free here idle
  · obtain ⟨sn, -⟩ := find?_key (key := Tank.number) hs
    obtain ⟨dn, -⟩ := find?_key (key := Tank.number) hd
    have moved : (z.st.fuelMoved source destination tr.heldVolume true).errorFree = true :=
      State.fuelMoved_errorFree (sn.symm ▸ hs) (dn.symm ▸ hd) _ _ free
    exact Txn.postHeld_idle (Txn.putTransfer_errorFree (x := z.on fun s => s.fuelMoved source destination tr.heldVolume true)
      (t := { tr with heldVolume := 0 }) moved has.clean)
      ((find?_update_of_ne (key := Transfer.number) (a := { tr with heldVolume := 0 }) rfl other z.st.transfers).trans here)
      idle

end Txn

end

/-! RESTORE of a tank and the settling of the obligation (R163, R176). -/

/-- R163: a tank as RESTORE writes it. -/
def Tank.rewritten (t : Tank) (capacity lowMark opening : Nat) : Tank := { t with
  capacity := capacity, lowMark := lowMark, content := opening, opening := opening, received := 0
  transferredIn := 0, transferredOut := 0, drawn := 0, adjustments := 0, shortfall := 0
  low := decide (opening < lowMark * 1000)
  gauged := none, header := { damaged := false, bad := [] } }

namespace State

/-- R163: a tank written over the one of its number. -/
def withTank (s : State) (new : Tank) : State :=
  { s with tanks := update (·.number == new.number) (fun _ => new) s.tanks }

/-- R163: the state after the gauge's admission restarts. -/
def gaugeRestarted (s : State) (gauge : Option Context) (capacity : Nat) : State :=
  match gauge with
  | none => s
  | some c => s.readmitted c (.gauge capacity)

end State

section
variable {s : State} {q : Request} {qs : List Request} {t : Tank} {gauge : Option Context} {capacity lowMark opening : Nat}

namespace State

theorem gaugeRestarted_eq (s : State) (gauge : Option Context) (capacity : Nat) :
    ∃ l r, s.gaugeRestarted gauge capacity = { s with link := l, readings := r } := by
  cases gauge with
  | none => exact ⟨_, _, rfl⟩
  | some c =>
    unfold State.gaugeRestarted State.readmitted
    dsimp only
    split
    · exact ⟨_, _, rfl⟩
    · exact ⟨_, _, rfl⟩

theorem readmitted_withTank (s : State) (new : Tank) (c : Context) (p : Parameters) :
    (s.withTank new).readmitted c p = (s.readmitted c p).withTank new := by
  unfold State.readmitted
  dsimp only
  split <;> rfl

/-- R163: the tank written and its gauge's admission restarted, in the request's transaction. -/
def tankRestarted (s : State) (new : Tank) (gauge : Option Context) (capacity : Nat) : Txn :=
  { s.opened with st := { (s.gaugeRestarted gauge capacity).withTank new with arbiter := s.arbiter.grant .console } }

end State

namespace Txn

theorem gauged_eq {new : Tank} (fresh : ∀ held, new.readmitted held = new)
    (served : ∀ c, gauge = some c → s.servedBy c .gauge new.number) :
    ((s.opened.on fun s => s.withTank new).forKeys (gauge.map (·.address)).toList
      fun a w => w.giveParameters a (.gauge capacity)) = s.tankRestarted new gauge capacity := by
  cases gauge with
  | none => rfl
  | some c =>
    obtain ⟨alone, here, kind, serves⟩ := served c rfl
    have written := update_put (key := Tank.number) (k := new.number) (a := new) rfl (·.readmitted c.state) s.tanks
    rewrite [fresh] at written
    have base : (s.opened.st.withTank new).recordReadmitted c = s.opened.st.withTank new := by
      rewrite [State.recordReadmitted, kind, serves]
      exact congrArg (fun l => { s.opened.st with tanks := l }) written
    refine (Txn.giveParameters_eq (x := s.opened.on fun s => s.withTank new) (c := c) alone here
      (by rewrite [kind]; exact fun h => nomatch h)).trans ?_
    refine congrArg (fun t => ({ s.opened with st := t } : Txn)) ?_
    refine (congrArg (fun t => State.readmitted t c (.gauge capacity)) base).trans ?_
    rewrite [State.readmitted_withTank]
    exact congrArg (fun t => State.withTank t new) (s.readmitted_arbiter (s.arbiter.grant .console) c (.gauge capacity))

/-- R163, R176: what is held for a tank is posted: the draws and then the volumes. -/
def postDue (z : Txn) (k : Nat) : Txn :=
  let w := z.forKeys (z.st.suppliedBy k) fun e v => v.debitHeld e k
  w.forKeys (w.st.transfersNaming k) fun k v => v.postHeld k

end Txn

/-- R163: the items of a RESTORE of a tank. -/
def accountItems (number capacity lowMark opening : Nat) : List Item :=
  [⟨1, number⟩, ⟨3, capacity⟩, ⟨4, lowMark⟩, ⟨7, opening⟩]

theorem restoreTank_eq (found : s.tank? t.number = some t) (capacities : 100 ≤ capacity ∧ capacity ≤ 400000)
    (low : lowMark < capacity) (opens : opening ≤ capacity * 1000) (gauges : t.gauge = gauge.map (·.address))
    (served : ∀ c, gauge = some c → s.servedBy c .gauge t.number) :
    restoreTable .tanks t.number (accountItems t.number capacity lowMark opening) s.opened =
      if !t.header.damaged then refuse s.opened .wrongState
      else ((s.tankRestarted (t.rewritten capacity lowMark opening) gauge capacity).postDue t.number, .done, []) := by
  have row : s.opened.st.tank? t.number = some t := found
  have range : checkItems (accountItems t.number capacity lowMark opening) (tankRestoreItem t capacity) = none := by
    refine checkItems_passes ?_
    simp only [accountItems, List.forall_mem_cons]
    refine ⟨rfl, inRange_cast capacities.1 capacities.2, inRange_eq_none.mpr ⟨?_, ?_⟩, inRange_eq_none.mpr ⟨?_, ?_⟩,
      by simp⟩
    all_goals dsimp only
    all_goals omega
  have three : (valueOf (accountItems t.number capacity lowMark opening) 3).getD 0 = capacity := rfl
  have restarted := Txn.gauged_eq (s := s) (gauge := gauge) (capacity := capacity)
    (new := t.rewritten capacity lowMark opening) (fun held => by cases held <;> rfl) served
  rewrite [restoreTable, restoreTank, row]
  dsimp only
  rewrite [three, range]
  dsimp only
  rewrite [Txn.postDue, ← restarted, ← gauges]
  rfl

/-- R163: a damaged tank is rewritten, and what is held for it is posted. -/
theorem exec_restore_tank (hs : s.serves q qs) (hq : q.carries 0x06 6 (accountItems t.number capacity lowMark opening))
    (found : s.tank? t.number = some t) (capacities : 100 ≤ capacity ∧ capacity ≤ 400000)
    (low : lowMark < capacity) (opens : opening ≤ capacity * 1000) (gauges : t.gauge = gauge.map (·.address))
    (served : ∀ c, gauge = some c → s.servedBy c .gauge t.number) :
    (t.header.damaged = false → exec .restore s = .next (s.answered q qs .wrongState [] s)) ∧
    (t.header.damaged = true → ∀ after : State, after.barges = s.barges → after.policy = s.policy →
      (s.tankRestarted (t.rewritten capacity lowMark opening) gauge capacity).postDue t.number =
        { s.opened with st := { after with arbiter := s.arbiter.grant .console } } →
      exec .restore s = .next (s.answered q qs .done [] after)) := by
  have h := Request.restores_of_carries hq (t := .tanks) rfl rfl rfl rfl
  have body := restoreTank_eq found capacities low opens gauges served
  refine ⟨fun undamaged => exec_restore_refused hs h (body.trans (if_pos (by simp [undamaged]))),
    fun damaged after barges policy posted => exec_restored hs h ?_ barges policy⟩
  refine (body.trans (if_neg (by simp [damaged]))).trans ?_
  rw [posted]

end

/-! ## What is posted -/

section
variable {s : State} {t : Tank} {gauge : Option Context} {capacity lowMark opening : Nat}

/-- R163: the state right after a tank is rewritten. -/
structure Txn.Rewrites (z : Txn) (s : State) (new : Tank) : Prop where
  free : z.st.errorFree = true
  engines : z.st.engines = s.engines
  transfers : z.st.transfers = s.transfers
  notices : z.st.notices = s.notices
  tank : z.HasTank new
  alone : (s.engines.map (·.number)).Nodup ∧ (s.transfers.map (·.number)).Nodup

theorem State.tankRestarted_rewrites (free : s.errorFree = true) (law : s.recordLaw = true)
    (found : s.tank? t.number = some t) : (s.tankRestarted (t.rewritten capacity lowMark opening) gauge capacity).Rewrites s
      (t.rewritten capacity lowMark opening) := by
  obtain ⟨-, -, engines, -, tanks, transfers, -⟩ := s.recordLaw_iff.mp law
  obtain ⟨l, r, same⟩ := s.gaugeRestarted_eq gauge capacity
  have written : (s.opened.putTank (t.rewritten capacity lowMark opening)).st.errorFree = true :=
    Txn.putTank_errorFree (x := s.opened) free rfl
  unfold State.tankRestarted
  rewrite [same]
  refine ⟨(State.errorFree_congr rfl rfl rfl rfl rfl rfl).trans written, rfl, rfl, rfl, ⟨?_, ?_, rfl⟩, engines, transfers⟩
  · exact find?_put (key := Tank.number) found rfl
  · exact (map_update_key (key := Tank.number) (new := t.rewritten capacity lowMark opening) (k := t.number) s.tanks rfl).symm ▸
      tanks

variable {z : Txn} {new : Tank}

namespace Txn.Rewrites

theorem nothing (h : z.Rewrites s new) (draws : s.draws new.number = [])
    (volumes : s.volumes new.number = []) : z.postDue new.number = z := by
  have d : z.st.draws new.number = [] := by rewrite [State.draws, h.engines]; exact draws
  have v : z.st.volumes new.number = [] := by rewrite [State.volumes, h.transfers]; exact volumes
  rewrite [Txn.postDue, Txn.debits_none h.free (by rewrite [h.engines]; exact h.alone.1) d]
  exact Txn.volumes_none h.free (by rewrite [h.transfers]; exact h.alone.2) v

theorem draw (h : z.Rewrites s new) {e : Engine} (intact : new.header.damaged = false)
    (draws : s.draws new.number = [e]) (volumes : s.volumes new.number = []) :
    z.postDue new.number = z.drawPosted e new := by
  have d : z.st.draws new.number = [e] := by rewrite [State.draws, h.engines]; exact draws
  have v : z.st.volumes new.number = [] := by rewrite [State.volumes, h.transfers]; exact volumes
  obtain ⟨has, posted⟩ := Txn.debits_one h.free (by rewrite [h.engines]; exact h.alone.1) d h.tank intact
  rewrite [Txn.postDue, posted]
  exact Txn.volumes_none (Txn.drawPosted_errorFree h.free has h.tank) (h.transfers.symm ▸ h.alone.2) v

theorem volume (h : z.Rewrites s new) {tr : Transfer} {source destination : Tank}
    (draws : s.draws new.number = []) (volumes : s.volumes new.number = [tr]) (hs : z.st.tank? tr.source = some source)
    (hd : z.st.tank? tr.destination = some destination) (apart : tr.source ≠ tr.destination) :
    z.postDue new.number = z.volumePosted tr source destination := by
  have d : z.st.draws new.number = [] := by rewrite [State.draws, h.engines]; exact draws
  have v : z.st.volumes new.number = [tr] := by rewrite [State.volumes, h.transfers]; exact volumes
  rewrite [Txn.postDue, Txn.debits_none h.free (by rewrite [h.engines]; exact h.alone.1) d]
  exact (Txn.volumes_one h.free (by rewrite [h.transfers]; exact h.alone.2) h.tank.once v hs hd apart).2

end Txn.Rewrites

end

/-! RESTORE: the settling of the obligation (R17, R51, R93, R132, R140, R147, R163, R176, R177). -/

section
variable {s : State} {t : Tank} {gauge : Option Context} {capacity lowMark opening : Nat}

namespace State

/-- R163: the state after a tank is rewritten and its gauge's admission restarted. -/
def tankRewritten (s : State) (new : Tank) (gauge : Option Context) (capacity : Nat) : State :=
  (s.gaugeRestarted gauge capacity).withTank new

theorem tankRewritten_eq (s : State) (new : Tank) (gauge : Option Context) (capacity : Nat) :
    ∃ l r, s.tankRewritten new gauge capacity = { s with
      tanks := update (·.number == new.number) (fun _ => new) s.tanks, link := l, readings := r } := by
  obtain ⟨l, r, same⟩ := s.gaugeRestarted_eq gauge capacity
  exact ⟨l, r, congrArg (fun u => State.withTank u new) same⟩

theorem tankRewritten_roster (s : State) (new : Tank) (gauge : Option Context) (capacity : Nat) :
    (s.tankRewritten new gauge capacity).barges = s.barges ∧ (s.tankRewritten new gauge capacity).policy = s.policy := by
  obtain ⟨l, r, same⟩ := s.tankRewritten_eq new gauge capacity
  rewrite [same]
  exact ⟨rfl, rfl⟩

theorem tankRestarted_eq (s : State) (new : Tank) (gauge : Option Context) (capacity : Nat) :
    s.tankRestarted new gauge capacity =
      { s.opened with st := { s.tankRewritten new gauge capacity with arbiter := s.arbiter.grant .console } } := rfl

/-- R163: the state after an undebited draw is posted to a tank. -/
def drawnFrom (u s : State) (new : Tank) (e : Engine) : State :=
  { u.withTank (new.afterDraw e.undebited) with
    engines := update (·.number == e.number) (fun e => { e with undebited := 0 }) s.engines
    notices := s.notices.afterDebit new (new.afterDraw e.undebited) e.undebited }

end State

theorem drawPosted_state {new : Tank} {e : Engine} (once : (s.engines.map (·.number)).Nodup)
    (found : s.engine? e.number = some e) : (s.tankRestarted new gauge capacity).drawPosted e new = { s.opened with
      st := { (s.tankRewritten new gauge capacity).drawnFrom s new e with arbiter := s.arbiter.grant .console } } := by
  obtain ⟨l, r, same⟩ := s.tankRewritten_eq new gauge capacity
  have cleared := update_found once found fun e => { e with undebited := 0 }
  rewrite [State.tankRestarted_eq, same, State.drawnFrom, cleared]
  rfl

/-- R176: the state after a held volume is posted. -/
def State.volumeMoved (u s : State) (source destination : Tank) (tr : Transfer) : State :=
  let gives : Tank := source.movedOut tr.heldVolume
  let takes : Tank := destination.movedIn tr.heldVolume
  let first := s.notices.afterDebit source gives tr.heldVolume
  { (u.withTank gives).withTank takes with
    transfers := update (·.number == tr.number) (fun tr => { tr with heldVolume := 0 }) s.transfers
    notices := if takes.low && !destination.low then first.raise .fuel else first }

theorem volumePosted_state {new source destination : Tank} {tr : Transfer} (once : (s.transfers.map (·.number)).Nodup)
    (found : s.transfer? tr.number = some tr) :
    (s.tankRestarted new gauge capacity).volumePosted tr source destination = { s.opened with
      st := { (if source.header.damaged = true ∨ destination.header.damaged = true then s.tankRewritten new gauge capacity
        else (s.tankRewritten new gauge capacity).volumeMoved s source destination tr) with
          arbiter := s.arbiter.grant .console } } := by
  obtain ⟨l, r, same⟩ := s.tankRewritten_eq new gauge capacity
  have cleared := update_found once found fun tr => { tr with heldVolume := 0 }
  rewrite [Txn.volumePosted]
  split
  · rfl
  · rewrite [State.tankRestarted_eq, same, State.volumeMoved, cleared]
    rfl

end

/-- Settles O18, table by table; of a tank, by what is held for it. -/
theorem restoreRewritesABarge : Obligations.RestoreRewritesABarge := by
  refine ⟨fun s q qs b laden draft fitted hs hq law found light shallow => ?_,
    fun s q qs r c limit rate flanking hs hq _ found station served l1 l2 r1 r2 =>
      exec_restore_rudder hs hq found station served ⟨l1, l2⟩ ⟨r1, r2⟩,
    fun s q qs c rated hs hq found low high whole => exec_restore_coupling hs hq found low high whole,
    fun s q qs e governor meter rated factor hs hq _ found r1 r2 f1 f2 station governs metered meters => ?_,
    fun s q qs t gauge capacity lowMark opening hs hq free law found c1 c2 low opens gauges served => ?_,
    fun s q qs tr c factor volume interval batches mode hs hq _ _ found pump served f1 f2 v1 v2 fits b1 b2 =>
      exec_restore_transfer hs hq found pump served ⟨f1, f2⟩ ⟨v1, v2⟩ fits ⟨b1, b2⟩⟩
  · exact exec_restore_barge hs hq ((s.recordLaw_iff).mp law).1 found light shallow
  · exact exec_restore_engine hs hq found ⟨r1, r2⟩ ⟨f1, f2⟩ station governs metered meters
  · obtain ⟨refused, taken⟩ := exec_restore_tank hs hq found ⟨c1, c2⟩ low opens gauges served
    have rewrites := State.tankRestarted_rewrites (gauge := gauge) (capacity := capacity) (lowMark := lowMark)
      (opening := opening) free law found
    obtain ⟨engines, transfers⟩ := rewrites.alone
    have roster := s.tankRewritten_roster (t.rewritten capacity lowMark opening) gauge capacity
    refine ⟨refused, fun damaged draws volumes => ?_, fun e damaged draws volumes => ?_,
      fun tr source destination damaged draws volumes apart hs hd => ?_⟩
    · exact taken damaged (s.tankRewritten _ gauge capacity) roster.1 roster.2 (rewrites.nothing draws volumes)
    · have due : e ∈ s.draws t.number := by rewrite [State.draws, draws]; exact List.mem_singleton_self e
      exact taken damaged ((s.tankRewritten _ gauge capacity).drawnFrom s _ e) roster.1 roster.2
        ((rewrites.draw rfl draws volumes).trans (drawPosted_state engines (find_mem (key := Engine.number) engines due)))
    · have due : tr ∈ s.volumes t.number := by rewrite [State.volumes, volumes]; exact List.mem_singleton_self tr
      refine taken damaged (if source.header.damaged = true ∨ destination.header.damaged = true
        then s.tankRewritten _ gauge capacity else (s.tankRewritten _ gauge capacity).volumeMoved s source destination tr)
        ?_ ?_ ((rewrites.volume draws volumes hs hd apart).trans
          (volumePosted_state transfers (find_mem (key := Transfer.number) transfers due)))
      · split <;> exact roster.1
      · split <;> exact roster.2

/-! ENROL of a rudder channel, an engine, a tank and a transfer (R113, R135, R142, R149, R166). -/

/-! ## Requests (R30) -/

/-- R30: ENROL in a table. -/
def enrolTable (t : Tbl) (is : List Item) (x : Txn) : Answer :=
  match t with
  | .barges => enrolBarge is x
  | .couplings => enrolCoupling is x
  | .engines => enrolEngine is x
  | .rudders => enrolRudder is x
  | .tanks => enrolTank is x
  | .transfers => enrolTransfer is x

section
variable {s : State} {q : Request} {qs : List Request} {table : Byte} {t : Tbl} {is : List Item} {r : Result}

theorem requestEnrol_carries (hq : q.carries 0x03 table is) (ht : storeTable table.toNat = some t)
    (once : onceEach (is.map (·.field)) = true) (x : Txn) : requestEnrol q x = enrolTable t is x := by
  have table' : storeTable q.table.toNat = some t := hq.2.1.symm ▸ ht
  rewrite [requestEnrol, Request.parse_of_carries hq (by rewrite [ht]; rfl) once, table']
  cases t <;> rfl

theorem exec_enrol_refused (hs : s.serves q qs) (hq : q.carries 0x03 table is) (ht : storeTable table.toNat = some t)
    (once : onceEach (is.map (·.field)) = true) (body : enrolTable t is s.opened = refuse s.opened r) :
    exec .enrol s = .next (s.answered q qs r [] s) :=
  exec_refused (c := .enrol) rfl rfl hs hq.1 ((requestEnrol_carries hq ht once _).trans body)

theorem exec_enrolled {after : State} (hs : s.serves q qs) (hq : q.carries 0x03 table is)
    (ht : storeTable table.toNat = some t) (once : onceEach (is.map (·.field)) = true)
    (body : enrolTable t is s.opened =
      (({ s.opened with st := { after with arbiter := s.arbiter.grant .console } } : Txn), r, []))
    (barges : after.barges = s.barges) (policy : after.policy = s.policy) :
    exec .enrol s = .next (s.answered q qs r [] after) :=
  exec_quiet (c := .enrol) rfl rfl hs hq.1 ((requestEnrol_carries hq ht once _).trans body) barges policy

/-- R26: stage 5 of an ENROL that names a key and machinery addresses. -/
def references (duplicate taken : Bool) : Option Result :=
  if duplicate then some .duplicate else if taken then some .addressInUse else none

/-- R26: a record that stage 5 refuses, or that is entered. -/
def answered (x : Txn) (verdict : Option Result) (done : Answer) : Answer :=
  match verdict with
  | some r => refuse x r
  | none => done

theorem answered_congr {x : Txn} {duplicate taken : Bool} {done done' : Answer} (same : duplicate = false → done = done') :
    answered x (references duplicate taken) done = answered x (references duplicate taken) done' := by
  cases duplicate with
  | true => rfl
  | false => rw [same rfl]

/-- R98, R113, R135, R149, R166: an ENROL that is refused for its key, then for an address, and is taken otherwise. -/
theorem exec_enrol_cases {after : State} {duplicate taken : Bool} {known named : Prop} (hs : s.serves q qs)
    (hq : q.carries 0x03 table is) (ht : storeTable table.toNat = some t) (once : onceEach (is.map (·.field)) = true)
    (body : enrolTable t is s.opened = answered s.opened (references duplicate taken)
      (({ s.opened with st := { after with arbiter := s.arbiter.grant .console } } : Txn), r, []))
    (barges : after.barges = s.barges) (policy : after.policy = s.policy) (knows : duplicate = true ↔ known)
    (names : taken = true ↔ named) :
    (known → exec .enrol s = .next (s.answered q qs .duplicate [] s)) ∧
    (¬known → named → exec .enrol s = .next (s.answered q qs .addressInUse [] s)) ∧
    (¬known → ¬named → exec .enrol s = .next (s.answered q qs r [] after)) := by
  rewrite [← knows, ← names]
  refine ⟨fun dup => exec_enrol_refused hs hq ht once ?_, fun fresh dup => exec_enrol_refused hs hq ht once ?_,
    fun fresh free => exec_enrolled hs hq ht once ?_ barges policy⟩
  · rw [body, references, if_pos dup, answered]
  · rw [body, references, if_neg fresh, if_pos dup, answered]
  · rw [body, references, if_neg fresh, if_neg free, answered]

theorem checkItems_passed {check : Item → Option Result} {i : Item} (passes : check i = none) (is : List Item) :
    checkItems (i :: is) check = checkItems is check := by
  simp only [checkItems, List.map_cons, passes, firstFailure]

theorem checkItems_refused {check : Item → Option Result} {i : Item} {b : Bool} (checks : check i = refuseIf b r)
    (is : List Item) : checkItems (i :: is) check = if b then some r else checkItems is check := by
  cases b <;> simp [checkItems, checks, refuseIf, firstFailure]

theorem isSome_find?_key {α : Type} (key : α → Nat) (k : Nat) (l : List α) :
    (l.find? (key · == k)).isSome = true ↔ k ∈ l.map key := by
  simp [List.find?_isSome]

/-- R96: an address that an enrolled record names, whichever it is. -/
theorem State.addressTaken_iff (s : State) (a : Nat) :
    s.addressTaken none a = true ↔ a ∈ s.namedAddresses.map (·.address) := by
  simp [State.addressTaken]

/-- R109: the record just entered is OFFLINE as its context is. -/
theorem update_inserted {α : Type} {key : α → Nat} {a : α} {l : List α} {f : α → α} (absent : key a ∉ l.map key)
    (same : f a = a) : update (key · == key a) f (insertByKey key a l) = insertByKey key a l := by
  refine (List.map_congr_left fun b mem => ?_).trans (List.map_id _)
  rcases (mem_insertByKey key a b l).mp mem with rfl | old
  · simp [same]
  · exact if_neg fun here => absent (List.mem_map.mpr ⟨b, old, by simpa using here⟩)

end

/-! ## Rudder channels (R135) -/

/-- R135: a rudder channel as ENROL enters it without a staged angle. -/
def Rudder.entered (k shaft a limit rate : Nat) (flanking : Bool) : Rudder :=
  { channel := k, kind := if flanking then .flanking else .steering, shaft := shaft, station := a,
    limit := limit, rate := rate, staged := 0, next := 0, live := 0, allowed := 0, sent := 0,
    feedback := none, state := .offline, header := { damaged := false, bad := [] } }

theorem enrolTable_rudder {s : State} {k shaft a limit rate : Nat} {flanking : Bool}
    (keys : 1 ≤ k ∧ k ≤ 8) (shafts : 1 ≤ shaft ∧ shaft ≤ 4) (addresses : 1 ≤ a ∧ a ≤ 31)
    (limits : 100 ≤ limit ∧ limit ≤ 450) (rates : 10 ≤ rate ∧ rate ≤ 150) :
    enrolTable .rudders [⟨1, k⟩, ⟨2, if flanking then 2 else 1⟩, ⟨3, shaft⟩, ⟨4, a⟩, ⟨5, limit⟩, ⟨6, rate⟩] s.opened =
      answered s.opened (references (s.rudder? k).isSome (s.addressTaken none a))
        ((s.opened.on fun s => { s with
          rudders := insertByKey (·.channel) (Rudder.entered k shaft a limit rate flanking) s.rudders }).createContext a
            .rudder k (.rudder limit rate), .done, []) := by
  let is : List Item :=
    [⟨1, k⟩, ⟨2, if flanking then 2 else 1⟩, ⟨3, shaft⟩, ⟨4, a⟩, ⟨5, limit⟩, ⟨6, rate⟩]
  have range : checkItems is rudderRange = none := checkItems_passes (by
    simp only [is, List.forall_mem_cons]
    exact ⟨inRange_cast keys.1 keys.2, by cases flanking <;> rfl, inRange_cast shafts.1 shafts.2,
      inRange_cast addresses.1 addresses.2, inRange_cast limits.1 limits.2, inRange_cast rates.1 rates.2, nofun⟩)
  have verdict : checkItems is (fun i => match i.field with
      | 1 => refuseIf (s.rudder? k).isSome .duplicate
      | 4 => s.addressRefused none i none
      | _ => none) = references (s.rudder? k).isSome (s.addressTaken none a) := by
    rewrite [checkItems_refused (b := (s.rudder? k).isSome) (r := .duplicate) rfl, checkItems_passed rfl, checkItems_passed rfl,
      checkItems_refused (b := s.addressTaken none a || false) (r := .addressInUse) rfl, Bool.or_false]
    rfl
  have middle : clampAngle limit 0 = 0 := by simp [clampAngle, clamp]
  have kind : rudderKindOf (if flanking then 2 else 1) = if flanking then .flanking else .steering := by cases flanking <;> rfl
  rewrite [enrolTable, enrolRudder, if_neg (by exact Bool.false_ne_true), range]
  refine (congrArg (fun v => answered s.opened v _) verdict).trans (congrArg _ ?_)
  let put (r : Rudder) : Txn := s.opened.on fun s => { s with rudders := insertByKey (·.channel) r s.rudders }
  exact congrArg₂ (fun kd st => ((put { Rudder.entered k shaft a limit rate flanking with kind := kd, staged := st }).createContext
    a .rudder k (.rudder limit rate), doneOr (st != 0), [])) kind middle

/-- R135: ENROL of a rudder channel without a staged angle. -/
theorem exec_enrol_rudder {s : State} {q : Request} {qs : List Request} {k shaft a limit rate : Nat} {flanking : Bool}
    (hs : s.serves q qs)
    (hq : q.carries 0x03 5 [⟨1, k⟩, ⟨2, if flanking then 2 else 1⟩, ⟨3, shaft⟩, ⟨4, a⟩, ⟨5, limit⟩, ⟨6, rate⟩])
    (keys : 1 ≤ k ∧ k ≤ 8) (shafts : 1 ≤ shaft ∧ shaft ≤ 4) (addresses : 1 ≤ a ∧ a ≤ 31)
    (limits : 100 ≤ limit ∧ limit ≤ 450) (rates : 10 ≤ rate ∧ rate ≤ 150) :
    (k ∈ s.rudders.map (·.channel) → exec .enrol s = .next (s.answered q qs .duplicate [] s)) ∧
    (k ∉ s.rudders.map (·.channel) → a ∈ s.namedAddresses.map (·.address) →
      exec .enrol s = .next (s.answered q qs .addressInUse [] s)) ∧
    (k ∉ s.rudders.map (·.channel) → a ∉ s.namedAddresses.map (·.address) →
      exec .enrol s = .next (s.answered q qs .done [] { s with
        rudders := insertByKey (·.channel) (Rudder.entered k shaft a limit rate flanking) s.rudders
        link := { s.link with
          contexts := insertByKey (·.address) (Context.created a .rudder k (.rudder limit rate)) s.link.contexts } })) := by
  have knows := isSome_find?_key (·.channel) k s.rudders
  refine exec_enrol_cases (table := 5) (t := .rudders) hs hq rfl rfl
    ((enrolTable_rudder keys shafts addresses limits rates).trans (answered_congr fun fresh => ?_)) rfl rfl knows
    (s.addressTaken_iff a)
  have stands := update_inserted (key := Rudder.channel) (a := Rudder.entered k shaft a limit rate flanking)
    (f := fun r => Rudder.renew { r with state := .offline } [13])
    (fun mem => Bool.false_ne_true (fresh.symm.trans (knows.mpr mem))) rfl
  exact congrArg (fun rs => (({ s.opened with st := { s.take .console with
    rudders := rs
    link := { s.link with
      contexts := insertByKey (·.address) (Context.created a .rudder k (.rudder limit rate)) s.link.contexts } } } : Txn),
    Result.done, [])) stands

/-! ENROL of a tank and a transfer (R149, R166). -/

/-- R4, R189: the item of a field that a frame may leave out. -/
def optionItem (field : Nat) (o : Option Nat) : List Item :=
  match o with
  | none => []
  | some a => [⟨field, a⟩]

theorem forall_mem_optionItem {field : Nat} {o : Option Nat} {p : Item → Prop} (h : ∀ a, o = some a → p ⟨field, a⟩) :
    ∀ i ∈ optionItem field o, p i := by
  cases o with
  | none => exact nofun
  | some a => exact fun i mem => List.mem_singleton.mp mem ▸ h a rfl

section
variable {s : State} {q : Request} {qs : List Request}

/-! ## Tanks (R149) -/

/-- R149: the frame of a tank. -/
def tankFrame (k capacity lowMark opening : Nat) (gauge : Option Nat) (day : Bool) : List Item :=
  [⟨1, k⟩, ⟨2, if day then 2 else 1⟩, ⟨3, capacity⟩, ⟨4, lowMark⟩, ⟨7, opening⟩] ++ optionItem 5 gauge

/-- R149: a tank entered, with its gauge's context. -/
def State.tankEntered (s : State) (k capacity lowMark opening : Nat) (gauge : Option Nat) (day : Bool) : State := { s with
  tanks := insertByKey (·.number) (newTank k (if day then .day else .storage) gauge capacity lowMark opening) s.tanks
  link := { s.link with contexts := match gauge with
    | none => s.link.contexts
    | some a => insertByKey (·.address) (Context.created a .gauge k (.gauge capacity)) s.link.contexts } }

variable {k capacity lowMark opening : Nat} {gauge : Option Nat} {day : Bool}

theorem tankRange_frame (keys : 1 ≤ k ∧ k ≤ 12) (capacities : 100 ≤ capacity ∧ capacity ≤ 400000)
    (mark : lowMark < capacity) (fits : opening ≤ capacity * 1000) (addresses : ∀ a, gauge = some a → 1 ≤ a ∧ a ≤ 31) :
    checkItems (tankFrame k capacity lowMark opening gauge day) (tankRange capacity true) = none := checkItems_passes (by
  have below : inRange ⟨4, (lowMark : Int)⟩ 0 ((capacity : Int) - 1) = none :=
    inRange_eq_none.mpr ⟨Int.natCast_nonneg _, Int.le_sub_one_of_lt (Int.ofNat_lt.mpr mark)⟩
  have holds : inRange ⟨7, (opening : Int)⟩ 0 ((capacity : Int) * 1000) = none :=
    inRange_cast (hi := capacity * 1000) (Nat.zero_le _) fits
  simp only [tankFrame, List.forall_mem_append, List.forall_mem_cons]
  exact ⟨⟨inRange_cast keys.1 keys.2, by cases day <;> rfl, inRange_cast capacities.1 capacities.2, below, holds, nofun⟩,
    forall_mem_optionItem fun a here => inRange_cast (Nat.zero_le a) (addresses a here).2⟩)

theorem tankRange_mark (keys : 1 ≤ k ∧ k ≤ 12) (capacities : 100 ≤ capacity ∧ capacity ≤ 400000)
    (mark : capacity ≤ lowMark) :
    checkItems (tankFrame k capacity lowMark opening gauge day) (tankRange capacity true) = some (.badField 4) := by
  have above : inRange ⟨4, (lowMark : Int)⟩ 0 ((capacity : Int) - 1) = some (.badField 4) := by
    refine if_pos ?_
    have beyond : ¬(lowMark : Int) ≤ (capacity : Int) - 1 := Int.not_le.mpr (by omega)
    simp [within, beyond]
  refine (checkItems_passed (by exact inRange_cast keys.1 keys.2) _).trans
    ((checkItems_passed (by cases day <;> rfl) _).trans
      ((checkItems_passed (by exact inRange_cast capacities.1 capacities.2) _).trans ?_))
  exact (checkItems_refused (b := true) (by exact above) _).trans rfl

theorem enrolTable_tank (keys : 1 ≤ k ∧ k ≤ 12) (capacities : 100 ≤ capacity ∧ capacity ≤ 400000)
    (mark : lowMark < capacity) (fits : opening ≤ capacity * 1000) (addresses : ∀ a, gauge = some a → 1 ≤ a ∧ a ≤ 31) :
    enrolTable .tanks (tankFrame k capacity lowMark opening gauge day) s.opened =
      answered s.opened (references (s.tank? k).isSome (gauge.any (s.addressTaken none)))
        (({ s.opened with st := { s.tankEntered k capacity lowMark opening gauge day with
          arbiter := s.arbiter.grant .console } } : Txn), .done, []) := by
  have verdict : checkItems (tankFrame k capacity lowMark opening gauge day) (fun i => match i.field with
      | 1 => refuseIf (s.tank? k).isSome .duplicate
      | 5 => if i.value = 0 then none else s.addressRefused none i none
      | _ => none) = references (s.tank? k).isSome (gauge.any (s.addressTaken none)) := by
    rewrite [tankFrame, List.cons_append, checkItems_refused (b := (s.tank? k).isSome) (r := .duplicate) rfl, List.cons_append,
      List.cons_append, List.cons_append, List.cons_append, List.nil_append, checkItems_passed rfl, checkItems_passed rfl,
      checkItems_passed rfl, checkItems_passed rfl]
    cases gauge with
    | none => rfl
    | some a =>
      have some' : ¬(a : Int) = 0 := Int.natCast_ne_zero.mpr (Nat.one_le_iff_ne_zero.mp (addresses a rfl).1)
      rewrite [optionItem, checkItems_refused (b := s.addressTaken none a || false) (r := .addressInUse)
        ((if_neg some').trans rfl), Bool.or_false]
      rfl
  have kind : tankKindOf (if day then 2 else 1) = if day then .day else .storage := by cases day <;> rfl
  have address : givenAddress (tankFrame k capacity lowMark opening gauge day) 5 none = gauge := by
    cases gauge with
    | none => rfl
    | some a => exact if_neg (Int.natCast_ne_zero.mpr (Nat.one_le_iff_ne_zero.mp (addresses a rfl).1))
  have range := tankRange_frame (day := day) keys capacities mark fits addresses
  rewrite [enrolTable, enrolTank, if_neg (by exact Bool.false_ne_true)]
  refine (congrArg (fun v => answered s.opened v _) range).trans
    ((congrArg (fun v => answered s.opened v _) verdict).trans (congrArg _ ?_))
  dsimp only
  rewrite [address]
  let put (kd : TankKind) : Txn := s.opened.on fun s => { s with
    tanks := insertByKey (·.number) (newTank k kd gauge capacity lowMark opening) s.tanks }
  refine (congrArg (fun kd => ((put kd).moveContexts k
    [{ before := none, after := gauge, kind := .gauge, parameters := .gauge capacity }], Result.done, [])) kind).trans ?_
  cases gauge <;> rfl

/-- R149: ENROL of a tank. -/
theorem exec_enrol_tank (hs : s.serves q qs) (hq : q.carries 0x03 6 (tankFrame k capacity lowMark opening gauge day))
    (keys : 1 ≤ k ∧ k ≤ 12) (capacities : 100 ≤ capacity ∧ capacity ≤ 400000) (fits : opening ≤ capacity * 1000)
    (addresses : ∀ a, gauge = some a → 1 ≤ a ∧ a ≤ 31) :
    let taken : Prop := ∃ a, gauge = some a ∧ a ∈ s.namedAddresses.map (·.address)
    (capacity ≤ lowMark → exec .enrol s = .next (s.answered q qs (.badField 4) [] s)) ∧
    (lowMark < capacity → k ∈ s.tanks.map (·.number) → exec .enrol s = .next (s.answered q qs .duplicate [] s)) ∧
    (lowMark < capacity → k ∉ s.tanks.map (·.number) → taken →
      exec .enrol s = .next (s.answered q qs .addressInUse [] s)) ∧
    (lowMark < capacity → k ∉ s.tanks.map (·.number) → ¬taken →
      exec .enrol s = .next (s.answered q qs .done [] (s.tankEntered k capacity lowMark opening gauge day))) := by
  intro taken
  have once : onceEach ((tankFrame k capacity lowMark opening gauge day).map (·.field)) = true := by cases gauge <;> rfl
  have names : gauge.any (s.addressTaken none) = true ↔ taken := by
    simp only [Option.any_eq_true, s.addressTaken_iff, taken]
  have cases' (mark : lowMark < capacity) := exec_enrol_cases (table := 6) (t := .tanks) hs hq rfl once
    (enrolTable_tank keys capacities mark fits addresses) rfl rfl (isSome_find?_key Tank.number k s.tanks) names
  refine ⟨fun mark => exec_enrol_refused (table := 6) (t := .tanks) hs hq rfl once ?_, fun mark => (cases' mark).1,
    fun mark => (cases' mark).2.1, fun mark => (cases' mark).2.2⟩
  have range := tankRange_mark (opening := opening) (gauge := gauge) (day := day) keys capacities mark
  rewrite [enrolTable, enrolTank, if_neg (by exact Bool.false_ne_true)]
  exact congrArg (fun v => answered s.opened v _) range

/-! ## Transfers (R166) -/

/-- R166: the frame of a transfer. -/
def transferFrame (k a factor source destination volume interval batches : Nat) (mode : TransferMode) : List Item :=
  [⟨1, k⟩, ⟨2, a⟩, ⟨3, factor⟩, ⟨4, source⟩, ⟨5, destination⟩, ⟨6, volume⟩, ⟨7, mode.code⟩, ⟨9, interval⟩] ++
    (if mode = .counted then [⟨8, batches⟩] else [])

/-- R166: a transfer entered, with its pump's context. -/
def State.transferEntered (s : State) (k a factor source destination volume interval batches : Nat)
    (mode : TransferMode) : State := { s with
  transfers := insertByKey (·.number) (newTransfer k a source destination factor volume mode
    (if mode = .counted then some batches else none) interval) s.transfers
  link := { s.link with
    contexts := insertByKey (·.address) (Context.created a .pump k (.factor factor)) s.link.contexts } }

variable {a factor source destination volume interval batches : Nat} {mode : TransferMode}

theorem State.tankEnrolled_cast (s : State) (v : Nat) :
    s.tankEnrolled (v : Int) = true ↔ v ∈ s.tanks.map (·.number) := by
  simp [State.tankEnrolled]

/-- R165, R166: stage 4 finds nothing but a destination that is the source. -/
theorem transferRange_frame (keys : 1 ≤ k ∧ k ≤ 2) (addresses : 1 ≤ a ∧ a ≤ 31) (factors : 100 ≤ factor ∧ factor ≤ 100000)
    (sources : source ∈ s.tanks.map (·.number)) (destinations : destination ∈ s.tanks.map (·.number))
    (volumes : 10 ≤ volume ∧ volume ≤ 20000) (intervals : interval = 0 ∨ (100 ≤ interval ∧ interval ≤ 100000))
    (counts : 1 ≤ batches ∧ batches ≤ 1000) :
    checkItems (transferFrame k a factor source destination volume interval batches mode)
      (s.transferRange source mode.code) = if source = destination then some (.badField 5) else none := by
  have first : refuseIf (!s.tankEnrolled (source : Int)) (.badField 4) = none := by
    rewrite [(s.tankEnrolled_cast source).mpr sources]
    rfl
  have second : s.transferRange source mode.code ⟨5, destination⟩ =
      refuseIf (destination == source) (.badField 5) := by
    refine congrArg (refuseIf · _) ?_
    rewrite [(s.tankEnrolled_cast destination).mpr destinations, Bool.not_true, Bool.false_or, Bool.eq_iff_iff]
    simp
  have rest : checkItems ([⟨6, volume⟩, ⟨7, mode.code⟩, ⟨9, interval⟩] ++ if mode = .counted then [⟨8, batches⟩] else [])
      (s.transferRange source mode.code) = none := checkItems_passes (by
    simp only [List.forall_mem_append, List.forall_mem_cons]
    refine ⟨⟨inRange_cast volumes.1 volumes.2, by cases mode <;> rfl, interval_item intervals, nofun⟩, ?_⟩
    split
    · next counted =>
      rewrite [counted]
      exact fun i mem => List.mem_singleton.mp mem ▸ inRange_cast counts.1 counts.2
    · exact nofun)
  refine (checkItems_passed (by exact inRange_cast keys.1 keys.2) _).trans
    ((checkItems_passed (by exact inRange_cast addresses.1 addresses.2) _).trans
      ((checkItems_passed (by exact inRange_cast factors.1 factors.2) _).trans
        ((checkItems_passed (by exact first) _).trans ((checkItems_refused second _).trans ?_))))
  refine (congrArg (fun v => if destination == source then _ else v) rest).trans ?_
  simp only [beq_iff_eq, eq_comm (a := destination)]

theorem enrolTable_transfer (apart : source ≠ destination) (keys : 1 ≤ k ∧ k ≤ 2) (addresses : 1 ≤ a ∧ a ≤ 31)
    (factors : 100 ≤ factor ∧ factor ≤ 100000)
    (sources : source ∈ s.tanks.map (·.number)) (destinations : destination ∈ s.tanks.map (·.number))
    (volumes : 10 ≤ volume ∧ volume ≤ 20000) (intervals : interval = 0 ∨ (100 ≤ interval ∧ interval ≤ 100000))
    (counts : 1 ≤ batches ∧ batches ≤ 1000) :
    enrolTable .transfers (transferFrame k a factor source destination volume interval batches mode) s.opened =
      answered s.opened (references (s.transfer? k).isSome (s.addressTaken none a))
        (({ s.opened with st := { s.transferEntered k a factor source destination volume interval batches mode with
          arbiter := s.arbiter.grant .console } } : Txn), .done, []) := by
  have range := (transferRange_frame (mode := mode) keys addresses factors sources destinations volumes intervals
    counts).trans (if_neg apart)
  have verdict : checkItems (transferFrame k a factor source destination volume interval batches mode) (fun i =>
      match i.field with
      | 1 => refuseIf (s.transfer? k).isSome .duplicate
      | 2 => s.addressRefused none i none
      | _ => none) = references (s.transfer? k).isSome (s.addressTaken none a) := by
    refine (checkItems_refused (b := (s.transfer? k).isSome) (r := .duplicate) rfl _).trans ?_
    refine congrArg (fun v => if (s.transfer? k).isSome then _ else v)
      ((checkItems_refused (b := s.addressTaken none a || false) (r := .addressInUse) rfl _).trans ?_)
    rewrite [Bool.or_false]
    refine congrArg (fun v => if s.addressTaken none a then _ else v) ?_
    cases mode <;> rfl
  have counted : ¬(valueOf (transferFrame k a factor source destination volume interval batches mode) 7 = some 2 ∧
      (!gives (transferFrame k a factor source destination volume interval batches mode) 8) = true) := by
    cases mode
    · exact fun h => nomatch h.1
    · exact fun h => nomatch h.2
    · exact fun h => nomatch h.1
  rewrite [enrolTable, enrolTransfer, if_neg (by exact Bool.false_ne_true)]
  refine (congrArg (fun v => answered s.opened v _) range).trans ?_
  refine (if_neg counted).trans ((congrArg (fun v => answered s.opened v _) verdict).trans (congrArg _ ?_))
  cases mode <;> rfl

/-- R166: ENROL of a transfer. -/
theorem exec_enrol_transfer (hs : s.serves q qs)
    (hq : q.carries 0x03 7 (transferFrame k a factor source destination volume interval batches mode))
    (keys : 1 ≤ k ∧ k ≤ 2) (addresses : 1 ≤ a ∧ a ≤ 31) (factors : 100 ≤ factor ∧ factor ≤ 100000)
    (sources : source ∈ s.tanks.map (·.number)) (destinations : destination ∈ s.tanks.map (·.number))
    (volumes : 10 ≤ volume ∧ volume ≤ 20000) (intervals : interval = 0 ∨ (100 ≤ interval ∧ interval ≤ 100000))
    (counts : 1 ≤ batches ∧ batches ≤ 1000) :
    (source = destination → exec .enrol s = .next (s.answered q qs (.badField 5) [] s)) ∧
    (source ≠ destination → k ∈ s.transfers.map (·.number) →
      exec .enrol s = .next (s.answered q qs .duplicate [] s)) ∧
    (source ≠ destination → k ∉ s.transfers.map (·.number) → a ∈ s.namedAddresses.map (·.address) →
      exec .enrol s = .next (s.answered q qs .addressInUse [] s)) ∧
    (source ≠ destination → k ∉ s.transfers.map (·.number) → a ∉ s.namedAddresses.map (·.address) →
      exec .enrol s = .next (s.answered q qs .done []
        (s.transferEntered k a factor source destination volume interval batches mode))) := by
  have once : onceEach ((transferFrame k a factor source destination volume interval batches mode).map (·.field)) = true := by
    cases mode <;> rfl
  have cases' (apart : source ≠ destination) := exec_enrol_cases (table := 7) (t := .transfers) hs hq rfl once
    (enrolTable_transfer apart keys addresses factors sources destinations volumes intervals counts) rfl rfl
    (isSome_find?_key Transfer.number k s.transfers) (s.addressTaken_iff a)
  refine ⟨fun same => exec_enrol_refused (table := 7) (t := .transfers) hs hq rfl once ?_, fun apart => (cases' apart).1,
    fun apart => (cases' apart).2.1, fun apart => (cases' apart).2.2⟩
  have range := (transferRange_frame (mode := mode) keys addresses factors sources destinations volumes intervals
    counts).trans (if_pos same)
  rewrite [enrolTable, enrolTransfer, if_neg (by exact Bool.false_ne_true)]
  exact congrArg (fun v => answered s.opened v _) range

end

/-! ENROL of an engine (R113, R142). -/

section
variable {s : State} {q : Request} {qs : List Request} {k a rated supply : Nat} {meter : Option (Nat × Nat)} {v : Int}

/-! ## Main engines (R113) -/

/-- R113: the items of a meter. -/
def meterItems (meter : Option (Nat × Nat)) : List Item :=
  match meter with
  | none => []
  | some m => [⟨5, m.1⟩, ⟨6, m.2⟩]

/-- R113: the frame of a main engine with a staged order. -/
def engineFrame (k a rated supply : Nat) (meter : Option (Nat × Nat)) (v : Int) : List Item :=
  [⟨1, k⟩, ⟨2, a⟩, ⟨4, rated⟩, ⟨7, supply⟩] ++ meterItems meter ++ [⟨8, v⟩]

/-- R113, R142: an engine as ENROL enters it. -/
def Engine.entered (k rated : Nat) (station bowBarge supply : Option Nat) (meter : Option (Nat × Nat)) (v : Int) : Engine :=
  { number := k, station := station, bowBarge := bowBarge, meter := meter.map (·.1), supply := supply, rated := rated,
    meterFactor := meter.map (·.2), staged := max (-1000) (min v 1000), next := 0, live := 0, allowed := 0, sent := 0,
    delivered := none, alarm := false, state := .offline, lastDirection := .none, zeroTime := 0, consumed := 0,
    undebited := 0, header := { damaged := false, bad := [] } }

namespace State

/-- R113: a main engine entered, with the contexts of its governor and its meter. -/
def engineEntered (s : State) (k a rated supply : Nat) (meter : Option (Nat × Nat)) (v : Int) : State := { s with
  engines := insertByKey (·.number) (Engine.entered k rated (some a) none (some supply) meter v) s.engines
  link := { s.link with contexts := match meter with
    | none => insertByKey (·.address) (Context.created a .engine k (.engine rated)) s.link.contexts
    | some m => insertByKey (·.address) (Context.created m.1 .meter k (.factor m.2))
        (insertByKey (·.address) (Context.created a .engine k (.engine rated)) s.link.contexts) } }

/-- R96: an address of an engine's frame is named already. -/
def engineTaken (s : State) (a : Nat) (meter : Option (Nat × Nat)) : Bool :=
  (s.addressTaken none a || meter.map (·.1) == some a) ||
    meter.any fun m => s.addressTaken none m.1 || some a == some m.1

theorem engineTaken_iff (s : State) (a : Nat) (meter : Option (Nat × Nat)) : s.engineTaken a meter = true ↔
    a ∈ s.namedAddresses.map (·.address) ∨
      ∃ m, meter = some m ∧ (m.1 ∈ s.namedAddresses.map (·.address) ∨ m.1 = a) := by
  rewrite [State.engineTaken, Bool.or_eq_true, Bool.or_eq_true, s.addressTaken_iff]
  cases meter with
  | none => simp
  | some m => simp only [Option.map_some, Option.any_some, s.addressTaken_iff, Bool.or_eq_true, beq_iff_eq, Option.some.injEq,
      exists_eq_left', eq_comm (a := a), or_assoc, or_comm (b := m.1 = a), or_left_comm (b := m.1 = a), or_self_left]

end State

theorem engineRange_frame (keys : 1 ≤ k ∧ k ≤ 4) (addresses : 1 ≤ a ∧ a ≤ 31) (rates : 50 ≤ rated ∧ rated ≤ 600)
    (day : ∃ t ∈ s.tanks, t.number = supply ∧ t.kind = .day)
    (meters : ∀ m, meter = some m → 1 ≤ m.1 ∧ m.1 ≤ 31 ∧ 100 ≤ m.2 ∧ m.2 ≤ 100000) :
    checkItems (engineFrame k a rated supply meter v) (s.engineRange false (meter.map (·.1)).isSome false) = none :=
  checkItems_passes (by
    have supplied : refuseIf (!s.dayTank (supply : Int)) (.badField 7) = none := by
      obtain ⟨t, mem, number, kind⟩ := day
      have : s.dayTank (supply : Int) = true := List.any_eq_true.mpr ⟨t, mem, by simp [number, kind]⟩
      rewrite [this]
      rfl
    simp only [engineFrame, List.forall_mem_append, List.forall_mem_cons]
    refine ⟨⟨⟨inRange_cast keys.1 (keys.2.trans (by decide)), inRange_cast addresses.1 addresses.2,
      inRange_cast rates.1 rates.2, supplied, nofun⟩, ?_⟩, rfl, nofun⟩
    cases meter with
    | none => exact nofun
    | some m =>
      obtain ⟨-, high, low, top⟩ := meters m rfl
      simp only [meterItems, List.forall_mem_cons]
      exact ⟨inRange_cast (Nat.zero_le _) high, inRange_cast low top, nofun⟩)

theorem enrolTable_engine (keys : 1 ≤ k ∧ k ≤ 4) (addresses : 1 ≤ a ∧ a ≤ 31) (rates : 50 ≤ rated ∧ rated ≤ 600)
    (day : ∃ t ∈ s.tanks, t.number = supply ∧ t.kind = .day)
    (meters : ∀ m, meter = some m → 1 ≤ m.1 ∧ m.1 ≤ 31 ∧ 100 ≤ m.2 ∧ m.2 ≤ 100000) :
    enrolTable .engines (engineFrame k a rated supply meter v) s.opened =
      answered s.opened (references (s.engine? k).isSome (s.engineTaken a meter))
        (({ s.opened with st := { s.engineEntered k a rated supply meter v with
          arbiter := s.arbiter.grant .console } } : Txn), doneOr (!within v (-1000) 1000), []) := by
  have main : (valueOf (engineFrame k a rated supply meter v) 1 == some 5) = false := by
    have : ¬(k : Int) = 5 := by omega
    simp [engineFrame, valueOf, this]
  have station : givenAddress (engineFrame k a rated supply meter v) 2 none = some a :=
    if_neg (Int.natCast_ne_zero.mpr (Nat.one_le_iff_ne_zero.mp addresses.1))
  have nonzero (m) (here : meter = some m) : ¬(m.1 : Int) = 0 :=
    Int.natCast_ne_zero.mpr (Nat.one_le_iff_ne_zero.mp (meters m here).1)
  have address : givenAddress (engineFrame k a rated supply meter v) 5 none = meter.map (·.1) := by
    cases meter with
    | none => rfl
    | some m => exact if_neg (nonzero m rfl)
  have factor : ((meter.map (·.1)).isSome && !gives (engineFrame k a rated supply meter v) 6) = false := by
    cases meter <;> rfl
  have range := engineRange_frame (v := v) keys addresses rates day meters
  have verdict : checkItems (engineFrame k a rated supply meter v) (fun i => match i.field with
      | 1 => refuseIf (s.engine? k).isSome .duplicate
      | 2 => s.addressRefused none i (meter.map (·.1))
      | 5 => if i.value = 0 then none else s.addressRefused none i (some a)
      | _ => none) = references (s.engine? k).isSome (s.engineTaken a meter) := by
    refine (checkItems_refused (b := (s.engine? k).isSome) (r := .duplicate) rfl _).trans ?_
    refine congrArg (fun v => if (s.engine? k).isSome then _ else v)
      ((checkItems_refused (b := s.addressTaken none a || meter.map (·.1) == some a) (r := .addressInUse) rfl _).trans ?_)
    rewrite [State.engineTaken]
    cases meter with
    | none => simp only [Option.any_none, Bool.or_false]; rfl
    | some m =>
      cases s.addressTaken none a || (some m).map (·.1) == some a with
      | true => rfl
      | false =>
        refine (checkItems_passed rfl _).trans ((checkItems_passed rfl _).trans ((checkItems_refused
          (b := s.addressTaken none m.1 || some a == some m.1) (r := .addressInUse) ((if_neg (nonzero m rfl)).trans rfl) _).trans ?_))
        rfl
  rewrite [enrolTable, enrolEngine, main, address, station]
  refine (congrArg (fun v => answered s.opened v _) range).trans ((if_neg (by rewrite [factor]; exact Bool.false_ne_true)).trans
    ((congrArg (fun v => answered s.opened v _) verdict).trans (answered_congr fun fresh => ?_)))
  have stands := update_inserted (key := Engine.number) (l := s.engines)
    (a := Engine.entered k rated (some a) none (some supply) meter v)
    (f := fun e => Engine.renew { e with state := .offline } [15])
    (fun mem => Bool.false_ne_true (fresh.symm.trans ((isSome_find?_key Engine.number k s.engines).mpr mem))) rfl
  let put (es : List Engine) : Answer := (({ s.opened with st := { s.take .console with
    engines := es, link := (s.engineEntered k a rated supply meter v).link } } : Txn), doneOr (!within v (-1000) 1000), [])
  refine Eq.trans ?_ (congrArg put stands)
  cases meter <;> rfl

/-- R113: ENROL of a main engine with a staged order. -/
theorem exec_enrol_engine (hs : s.serves q qs) (hq : q.carries 0x03 4 (engineFrame k a rated supply meter v))
    (keys : 1 ≤ k ∧ k ≤ 4) (addresses : 1 ≤ a ∧ a ≤ 31) (rates : 50 ≤ rated ∧ rated ≤ 600)
    (day : ∃ t ∈ s.tanks, t.number = supply ∧ t.kind = .day)
    (meters : ∀ m, meter = some m → 1 ≤ m.1 ∧ m.1 ≤ 31 ∧ 100 ≤ m.2 ∧ m.2 ≤ 100000) :
    let taken (address : Nat) : Prop := address ∈ s.namedAddresses.map (·.address)
    (k ∈ s.engines.map (·.number) → exec .enrol s = .next (s.answered q qs .duplicate [] s)) ∧
    (k ∉ s.engines.map (·.number) → (taken a ∨ ∃ m, meter = some m ∧ (taken m.1 ∨ m.1 = a)) →
      exec .enrol s = .next (s.answered q qs .addressInUse [] s)) ∧
    (k ∉ s.engines.map (·.number) → ¬taken a → (∀ m, meter = some m → ¬taken m.1 ∧ m.1 ≠ a) →
      exec .enrol s = .next (s.answered q qs (if -1000 ≤ v ∧ v ≤ 1000 then .done else .doneClamped) []
        (s.engineEntered k a rated supply meter v))) := by
  intro taken
  have once : onceEach ((engineFrame k a rated supply meter v).map (·.field)) = true := by cases meter <;> rfl
  have clamped : doneOr (!within v (-1000) 1000) = if -1000 ≤ v ∧ v ≤ 1000 then .done else .doneClamped := by
    by_cases inside : -1000 ≤ v ∧ v ≤ 1000
    · rewrite [if_pos inside, within, decide_eq_true inside.1, decide_eq_true inside.2]
      rfl
    · have : within v (-1000) 1000 = false := by rewrite [Bool.eq_false_iff]; simpa [within] using inside
      rewrite [if_neg inside, this]
      rfl
  obtain ⟨known, named, entered⟩ := exec_enrol_cases (table := 4) (t := .engines) hs hq rfl once
    (enrolTable_engine keys addresses rates day meters) rfl rfl (isSome_find?_key Engine.number k s.engines)
    (s.engineTaken_iff a meter)
  rewrite [clamped] at entered
  refine ⟨known, named, fun fresh free others => entered fresh ?_⟩
  rintro (here | ⟨m, some', there | same⟩)
  · exact free here
  · exact (others m some').1 there
  · exact (others m some').2 same

/-! ## Engine 5 (R142) -/

variable {hull : Nat}

/-- R142: the barge that may carry the bow unit. -/
def State.fits (s : State) (hull : Nat) : Prop :=
  ∃ b, s.barge? hull = some b ∧ b.header.damaged = false ∧ b.bowFitted = true

theorem Txn.bowFitted_free {x : Txn} (free : x.st.errorFree = true) (hull : Nat) : ∃ fits : Bool,
    x.bowFitted (hull : Int) = (x, fits) ∧ (fits = true ↔ x.st.fits hull) := by
  have number : natOf (hull : Int) = some hull := rfl
  rewrite [Txn.bowFitted, number]
  dsimp only
  rewrite [Txn.read_errorFree x free]
  cases found : x.st.barge? hull with
  | none =>
    refine ⟨false, ?_, ?_⟩
    · simp [State.sound, State.header?, found]
    · simp [State.fits, found]
  | some b =>
    cases damaged : b.header.damaged with
    | true =>
      refine ⟨false, ?_, ?_⟩
      · simp [State.sound, State.header?, found, damaged]
      · simp [State.fits, found, damaged]
    | false =>
      refine ⟨b.bowFitted, ?_, ?_⟩
      · simp [State.sound, State.header?, found, damaged]
      · simp [State.fits, found, damaged]

/-- R142: the frame of the bow unit. -/
def bowFrame (hull rated : Nat) : List Item := [⟨1, 5⟩, ⟨3, hull⟩, ⟨4, rated⟩]

/-- R142: engine 5 entered. -/
def State.bowEntered (s : State) (hull rated : Nat) : State := { s with
  engines := insertByKey (·.number) (Engine.entered 5 rated none (some hull) none none 0) s.engines }

theorem enrolTable_bow (free : s.errorFree = true) (rates : 50 ≤ rated ∧ rated ≤ 600) : ∃ fits : Bool,
    (fits = true ↔ s.fits hull) ∧ enrolTable .engines (bowFrame hull rated) s.opened =
      if fits then answered s.opened (references (s.engine? 5).isSome false)
        (({ s.opened with st := { s.bowEntered hull rated with arbiter := s.arbiter.grant .console } } : Txn), .done, [])
      else refuse s.opened (.badField 3) := by
  obtain ⟨fits, read, iff⟩ := Txn.bowFitted_free (x := s.opened) (by exact free) hull
  have verdict : checkItems (bowFrame hull rated) (fun i => match i.field with
      | 1 => refuseIf (s.engine? 5).isSome .duplicate
      | 2 => s.addressRefused none i none
      | 5 => if i.value = 0 then none else s.addressRefused none i none
      | _ => none) = references (s.engine? 5).isSome false :=
    (checkItems_refused (b := (s.engine? 5).isSome) (r := .duplicate) rfl _).trans rfl
  refine ⟨fits, iff, ?_⟩
  have bow : (if (valueOf (bowFrame hull rated) 1 == some 5) = true then
      s.opened.bowFitted ((valueOf (bowFrame hull rated) 3).getD 0) else (s.opened, false)) = (s.opened, fits) := read
  rewrite [enrolTable, enrolEngine]
  dsimp only
  rewrite [bow, if_neg (by exact Bool.false_ne_true)]
  cases fits with
  | false => rfl
  | true =>
    have range : checkItems (bowFrame hull rated) (s.engineRange true false true) = none := checkItems_passes (by
      simp only [bowFrame, List.forall_mem_cons]
      exact ⟨rfl, rfl, inRange_cast rates.1 rates.2, nofun⟩)
    exact (congrArg (fun v => answered s.opened v _) range).trans (congrArg (fun v => answered s.opened v _) verdict)

/-- R142: ENROL of engine 5. -/
theorem exec_enrol_bow (hs : s.serves q qs) (free : s.errorFree = true) (hq : q.carries 0x03 4 (bowFrame hull rated))
    (rates : 50 ≤ rated ∧ rated ≤ 600) :
    (¬s.fits hull → exec .enrol s = .next (s.answered q qs (.badField 3) [] s)) ∧
    (s.fits hull → 5 ∈ s.engines.map (·.number) → exec .enrol s = .next (s.answered q qs .duplicate [] s)) ∧
    (s.fits hull → 5 ∉ s.engines.map (·.number) → exec .enrol s = .next (s.answered q qs .done [] (s.bowEntered hull rated))) := by
  obtain ⟨fits, iff, body⟩ := enrolTable_bow (s := s) (hull := hull) (rated := rated) free rates
  rewrite [← iff]
  have cases' (fit : fits = true) := exec_enrol_cases (table := 4) (t := .engines) (taken := false) (named := False) hs hq rfl rfl
    (body.trans (if_pos fit)) rfl rfl (isSome_find?_key Engine.number 5 s.engines) (by simp)
  exact ⟨fun misfit => exec_enrol_refused (table := 4) (t := .engines) hs hq rfl rfl (body.trans (if_neg misfit)),
    fun fit => (cases' fit).1, fun fit fresh => (cases' fit).2.2 fresh not_false⟩

end

/-! ENROL of a barge (R42, R43, R47, R48). -/

section
variable {s : State} {b : Barge} {rank d : Nat}

/-! ## The strings and the bindings -/

namespace State

/-- R40, R41: the count of a string by the boundaries is that of the barges that name it. -/
theorem stringCount_eq (law : s.rosterLaw = true) {string : Nat} (low : 1 ≤ string) (high : string ≤ 6) :
    (s.barges.filter (·.string == string)).length = s.stringCount string := by
  obtain ⟨six, bounds, length, -, -, names⟩ := s.rosterLaw_iff_entry.mp law
  have held {j : Nat} {e : Barge} (here : s.barges[j]? = some e) : s.HoldsPlace e.string j :=
    names j e.string (by rw [List.getElem?_map, here, Option.map_some])
  have inside : s.entry string ≤ s.barges.length := (State.entry_mono bounds high le_rfl).trans length.le
  have before : ((s.barges.take (s.entry string)).filter (·.string == string)).length = s.stringCount string := by
    refine length_filter_take _ _ _ _ inside fun j hj e here => ?_
    rewrite [beq_iff_eq]
    refine ⟨fun same => ?_, fun from' => ?_⟩
    · obtain ⟨-, -, first, -⟩ := held here
      rwa [same] at first
    · have there : j < s.entry 6 := hj.trans_le (State.entry_mono bounds high le_rfl)
      exact ((State.eq_stringAt_iff six bounds there).mpr (held here)).trans
        ((State.eq_stringAt_iff six bounds there).mpr ⟨low, high, from', hj⟩).symm
  have after : (s.barges.drop (s.entry string)).filter (·.string == string) = [] := by
    refine List.filter_eq_nil_iff.mpr fun e mem same => ?_
    obtain ⟨j, here⟩ := List.mem_iff_getElem?.mp mem
    rewrite [List.getElem?_drop] at here
    obtain ⟨-, -, -, last⟩ := held here
    rewrite [beq_iff_eq.mp same] at last
    exact absurd (Nat.le_add_right _ _) last.not_ge
  rw [← List.take_append_drop (s.entry string) s.barges, List.filter_append, after, List.append_nil, before]

theorem bound_insertBarge (other : b.node ≠ some d) : (s.insertBarge b rank).bound d = s.bound d := by
  have place := List.take_append_drop (s.entry (b.string - 1) + rank - 1) s.barges
  have found : (s.insertBarge b rank).barges.find? (·.node == some d) = s.barges.find? (·.node == some d) := by
    conv_rhs => rw [← place]
    rw [State.insertBarge, List.find?_append, List.find?_append, List.find?_cons_of_neg (by simpa using other)]
  rewrite [State.bound, State.bound, found]
  rfl

/-- R47: a node address that is free. -/
def nodeFree (s : State) (a : Nat) : Prop := (∀ e ∈ s.barges, e.node ≠ some a) ∧ s.policy.boatNode ≠ a

theorem bound_moved {a : Nat} (free : s.nodeFree a) (own : b.node = some a) :
    s.bound a ≠ (s.insertBarge b rank).bound a := by
  obtain ⟨others, boat⟩ := free
  have apart : ¬(s.policy.boatNode ≠ 0 ∧ a = s.policy.boatNode) := fun h => boat h.2.symm
  have before : s.barges.find? (·.node == some a) = none :=
    List.find?_eq_none.mpr fun e mem same => others e mem (by simpa using same)
  have after : ((s.insertBarge b rank).barges.find? (·.node == some a)).isSome = true :=
    List.find?_isSome.mpr ⟨b, (s.insertBarge_perm b rank).mem_iff.mpr List.mem_cons_self, by simp [own]⟩
  have policy : (s.insertBarge b rank).policy = s.policy := rfl
  rewrite [State.bound, State.bound, policy, if_neg apart, if_neg apart, before]
  intro same
  rewrite [eq_comm, Option.map_none, Option.map_eq_none_iff] at same
  rewrite [same] at after
  exact Bool.false_ne_true after

theorem errorFree_insertBarge (free : s.errorFree = true) (clean : b.header.errorFree = true) :
    (s.insertBarge b rank).errorFree = true := by
  rewrite [State.errorFree_iff] at free ⊢
  obtain ⟨barges, others⟩ := free
  refine ⟨fun e mem => ?_, others⟩
  rcases List.mem_cons.mp ((s.insertBarge_perm b rank).mem_iff.mp mem) with rfl | old
  · exact clean
  · exact barges e old

end State

end

/-! ENROL of a barge: the request and its outcome (R42, R43, R47, R48). -/

section
variable {s : State} {q : Request} {qs : List Request} {hull string laden draft : Nat} {fitted : Bool}
  {rank node : Option Nat}

/-- R42: the frame of a barge. -/
def bargeFrame (hull string laden draft : Nat) (fitted : Bool) (rank node : Option Nat) : List Item :=
  [⟨1, hull⟩, ⟨2, string⟩, ⟨4, laden⟩, ⟨5, draft⟩, ⟨7, if fitted then 1 else 0⟩] ++ optionItem 3 rank ++ optionItem 6 node

namespace Barge

/-- R42: a barge as ENROL enters it. -/
def entered (hull string laden draft : Nat) (fitted : Bool) (node : Option Nat) : Barge :=
  { hull := hull, string := string, node := if node = some 0 then none else node, laden := laden, draft := draft,
    bowFitted := fitted, header := { damaged := false, bad := [] } }

theorem entered_node {a : Nat} (own : (Barge.entered hull string laden draft fitted node).node = some a) :
    node = some a ∧ a ≠ 0 := by
  have given : (if node = some 0 then none else node) = some a := own
  split at given
  · exact nomatch given
  · next other => exact ⟨given, fun zero => other (zero ▸ given)⟩

end Barge

namespace State

/-- R47: the node address given is another's. -/
def nodeTaken (s : State) (node : Option Nat) : Bool :=
  node.any fun a : Nat => (a : Int) != 0 && s.nodeAddressTaken none a

theorem nodeTaken_iff (s : State) (node : Option Nat) : s.nodeTaken node = true ↔
    ∃ a, node = some a ∧ a ≠ 0 ∧ ((∃ d ∈ s.barges, d.node = some a) ∨ s.policy.boatNode = a) := by
  have barge (d : Barge) (a : Nat) : ((d.node.map fun n => (n : Int)) == some (a : Int)) = (d.node == some a) := by
    cases d.node <;> simp
  have boat {a : Nat} (some' : a ≠ 0) : (s.policy.boatNode ≠ 0 ∧ a = s.policy.boatNode) ↔ s.policy.boatNode = a :=
    ⟨fun h => h.2.symm, fun h => ⟨h ▸ some', h.symm⟩⟩
  rewrite [State.nodeTaken, Option.any_eq_true]
  refine exists_congr fun a => and_congr_right fun _ => ?_
  rewrite [Bool.and_eq_true, bne_iff_ne, Ne, Int.natCast_eq_zero]
  refine and_congr_right fun some' => ?_
  rewrite [State.nodeAddressTaken, Bool.or_eq_true, List.any_eq_true]
  refine or_congr (exists_congr fun d => and_congr_right fun _ => ?_) ?_
  · rewrite [barge]
    simp
  · rewrite [← boat some']
    simp

/-- R42, R43, R47: what stage 5 finds of a barge. -/
def bargeVerdict (s : State) (hull string rank : Nat) (node : Option Nat) : Option Result :=
  if (s.barge? hull).isSome then some .duplicate
  else if 48 ≤ s.barges.length then some .full
  else if 8 ≤ s.stringCount string then some .full
  else if s.namedFrom string rank then some .inUse
  else if s.nodeTaken node then some .addressInUse else none

end State

theorem bargeRange_frame (hulls : 1 ≤ hull ∧ hull ≤ 65535) (strings : 1 ≤ string ∧ string ≤ 6) (ladens : laden ≤ 4000)
    (drafts : draft ≤ 600) (ranks : ∀ r, rank = some r → 1 ≤ r ∧ r ≤ 8) (nodes : ∀ a, node = some a → a ≤ 126) :
    checkItems (bargeFrame hull string laden draft fitted rank node) bargeRange = none := checkItems_passes (by
  simp only [bargeFrame, List.forall_mem_append, List.forall_mem_cons]
  exact ⟨⟨⟨inRange_cast hulls.1 hulls.2, inRange_cast strings.1 strings.2, inRange_cast (Nat.zero_le _) ladens,
    inRange_cast (Nat.zero_le _) drafts, by cases fitted <;> rfl, nofun⟩,
    forall_mem_optionItem fun r here => inRange_cast (ranks r here).1 (ranks r here).2⟩,
    forall_mem_optionItem fun a here => inRange_cast (Nat.zero_le _) (nodes a here)⟩)

theorem bargeReferences_frame (s : State) (place : Nat) :
    checkItems (bargeFrame hull string laden draft fitted rank node) (s.bargeReferences hull string place) =
      s.bargeVerdict hull string place node := by
  have name : s.bargeReferences hull string place ⟨1, hull⟩ =
      if (s.barge? hull).isSome then some .duplicate else refuseIf (decide (48 ≤ s.barges.length)) .full := rfl
  have place' : s.bargeReferences hull string place ⟨2, string⟩ =
      if 8 ≤ s.stringCount string then some .full else refuseIf (s.namedFrom string place) .inUse := rfl
  have ranked : ∀ i ∈ optionItem 3 rank, s.bargeReferences hull string place i = none :=
    forall_mem_optionItem fun _ _ => rfl
  have rest : checkItems (optionItem 3 rank ++ optionItem 6 node) (s.bargeReferences hull string place) =
      if s.nodeTaken node then some .addressInUse else none := by
    have last : checkItems (optionItem 6 node) (s.bargeReferences hull string place) =
        if s.nodeTaken node then some .addressInUse else none := by
      cases node with
      | none => rfl
      | some a => exact checkItems_refused (b := (a : Int) != 0 && s.nodeAddressTaken none a) rfl _
    cases rank with
    | none => exact last
    | some r => exact (checkItems_passed rfl _).trans last
  have tail := (checkItems_passed (check := s.bargeReferences hull string place) (i := ⟨4, laden⟩) rfl _).trans
    ((checkItems_passed (i := ⟨5, draft⟩) rfl _).trans
      ((checkItems_passed (i := ⟨7, if fitted then 1 else 0⟩) rfl _).trans rest))
  rewrite [bargeFrame, List.append_assoc, List.cons_append, List.cons_append, List.cons_append, List.cons_append,
    List.cons_append, List.nil_append, State.bargeVerdict]
  by_cases known : (s.barge? hull).isSome = true
  · rewrite [if_pos known] at name ⊢
    exact (checkItems_refused (b := true) name _).trans rfl
  · rewrite [if_neg known] at name ⊢
    refine (checkItems_refused name _).trans ?_
    simp only [decide_eq_true_eq]
    refine congrArg (fun v => if 48 ≤ s.barges.length then some Result.full else v) ?_
    by_cases full : 8 ≤ s.stringCount string
    · rewrite [if_pos full] at place' ⊢
      exact (checkItems_refused (b := true) place' _).trans rfl
    · rewrite [if_neg full] at place' ⊢
      exact (checkItems_refused place' _).trans (congrArg (fun v => if s.namedFrom string place then some Result.inUse else v) tail)

theorem enrolTable_barge (hulls : 1 ≤ hull ∧ hull ≤ 65535) (strings : 1 ≤ string ∧ string ≤ 6) (ladens : laden ≤ 4000)
    (drafts : draft ≤ 600) (ranks : ∀ r, rank = some r → 1 ≤ r ∧ r ≤ 8) (nodes : ∀ a, node = some a → a ≤ 126) :
    let tail := s.stringCount string + 1
    let stands := min (rank.getD tail) tail
    enrolTable .barges (bargeFrame hull string laden draft fitted rank node) s.opened =
      answered s.opened (s.bargeVerdict hull string stands node) (if s.lockage.phase ≠ .whole then refuse s.opened .wrongState
        else (s.opened.on fun s => s.insertBarge (Barge.entered hull string laden draft fitted node) stands,
          doneOr (decide (tail < rank.getD tail)), [])) := by
  intro tail stands
  have range := bargeRange_frame (fitted := fitted) hulls strings ladens drafts ranks nodes
  have wanted : given (bargeFrame hull string laden draft fitted rank node) 3 tail = rank.getD tail := by
    cases rank with
    | none => cases node <;> rfl
    | some r => rfl
  have address : givenAddress (bargeFrame hull string laden draft fitted rank node) 6 none =
      if node = some 0 then none else node := by
    cases node with
    | none => cases rank <;> rfl
    | some a => cases a <;> cases rank <;> rfl
  have bow : (valueOf (bargeFrame hull string laden draft fitted rank node) 7 == some 1) = fitted := by
    cases fitted <;> rfl
  rewrite [enrolTable, enrolBarge, if_neg (by exact Bool.false_ne_true)]
  refine (congrArg (fun v => answered s.opened v _) range).trans ?_
  have verdict := (congrArg (fun w => checkItems (bargeFrame hull string laden draft fitted rank node)
    (s.bargeReferences hull string (min w tail))) wanted).trans (bargeReferences_frame s stands)
  refine (congrArg (fun v => answered s.opened v _) verdict).trans ?_
  refine congrArg (answered s.opened _) (congrArg (fun v => if s.lockage.phase ≠ .whole then _ else v) ?_)
  dsimp only
  rewrite [address, bow]
  exact congrArg (fun w => (s.opened.on fun s => s.insertBarge (Barge.entered hull string laden draft fitted node)
    (min w tail), doneOr (decide (tail < w)), [])) wanted

/-- R43, R56: a barge entered, with the node listed at its address rebound. -/
theorem exec_enter_barge {new : Barge} {place : Nat} {r : Result} {is : List Item} (hs : s.serves q qs)
    (hq : q.carries 0x03 1 is) (once : onceEach (is.map (·.field)) = true)
    (body : enrolTable .barges is s.opened = (s.opened.on fun s => s.insertBarge new place, r, []))
    (clean : new.header.errorFree = true) (nodes : ∀ a, new.node = some a → s.nodeFree a)
    (free : s.errorFree = true ∨ ∀ n ∈ s.tow.nodes, new.node ≠ some n.address) :
    exec .enrol s = .next (s.answered q qs r [] (match new.node with
      | none => s.insertBarge new place
      | some a => (s.insertBarge new place).reboundAt a)) := by
  have answer := (requestEnrol_carries hq (t := .barges) rfl once s.opened).trans body
  cases own : new.node with
  | none =>
    exact exec_bound (c := .enrol) rfl rfl hs hq.1 (after := s.insertBarge new place) answer fun n _ =>
      (State.bound_insertBarge (by rewrite [own]; exact nofun)).symm
  | some a =>
    refine exec_rebound (c := .enrol) (after := s.insertBarge new place) rfl rfl hs hq.1 answer rfl
      (State.bound_moved (nodes a own) own) (fun d other => (State.bound_insertBarge ?_).symm)
      (free.imp (State.errorFree_insertBarge · clean) fun unlisted n hn here => unlisted n hn (own.trans (congrArg some here.symm)))
    rewrite [own]
    exact fun same => other (Option.some.inj same).symm

/-- R42, R43: ENROL of a barge. -/
theorem exec_enrol_barge (hs : s.serves q qs)
    (hq : q.carries 0x03 1 (bargeFrame hull string laden draft fitted rank node)) (hulls : 1 ≤ hull ∧ hull ≤ 65535)
    (strings : 1 ≤ string ∧ string ≤ 6) (ladens : laden ≤ 4000) (drafts : draft ≤ 600)
    (ranks : ∀ r, rank = some r → 1 ≤ r ∧ r ≤ 8) (nodes : ∀ a, node = some a → a ≤ 126)
    (free : s.errorFree = true ∨ ∀ n ∈ s.tow.nodes, node ≠ some n.address) :
    let tail := s.stringCount string + 1
    let stands := min (rank.getD tail) tail
    let new := Barge.entered hull string laden draft fitted node
    let refused (r : Result) : Prop := exec .enrol s = .next (s.answered q qs r [] s)
    let verdict := s.bargeVerdict hull string stands node
    (∀ r, verdict = some r → refused r) ∧ (verdict = none → s.lockage.phase ≠ .whole → refused .wrongState) ∧
      (verdict = none → s.nodeTaken node = false → s.lockage.phase = .whole → exec .enrol s = .next (s.answered q qs
        (if tail < rank.getD tail then .doneClamped else .done) [] (match new.node with
          | none => s.insertBarge new stands
          | some a => (s.insertBarge new stands).reboundAt a))) := by
  intro tail stands new refused verdict
  have once : onceEach ((bargeFrame hull string laden draft fitted rank node).map (·.field)) = true := by
    cases rank <;> cases node <;> rfl
  have body := enrolTable_barge (s := s) (fitted := fitted) hulls strings ladens drafts ranks nodes
  refine ⟨fun r fails => exec_enrol_refused (table := 1) (t := .barges) hs hq rfl once ?_,
    fun passes apart => exec_enrol_refused (table := 1) (t := .barges) hs hq rfl once ?_, fun passes taken whole => ?_⟩
  · exact body.trans (congrArg (fun v => answered s.opened v _) fails)
  · exact (body.trans (congrArg (fun v => answered s.opened v _) passes)).trans (if_pos apart)
  · have done : doneOr (decide (tail < rank.getD tail)) = if tail < rank.getD tail then .doneClamped else .done := by
      by_cases more : tail < rank.getD tail <;> simp [doneOr, more]
    rewrite [← done]
    refine exec_enter_barge hs hq once ((body.trans (congrArg (fun v => answered s.opened v _) passes)).trans
      (if_neg (not_not.mpr whole))) rfl (fun a own => ?_) (free.imp id fun unlisted n mem own => unlisted n mem ?_)
    · obtain ⟨given, some'⟩ := Barge.entered_node own
      have open' := fun h => Bool.false_ne_true (taken.symm.trans ((s.nodeTaken_iff node).mpr ⟨a, given, some', h⟩))
      exact ⟨fun e mem held => open' (.inl ⟨e, mem, held⟩), fun boat => open' (.inr boat)⟩
    · exact (Barge.entered_node own).1

end

section
variable {s : State} {q : Request} {qs : List Request}

theorem enrol_barge_frame {hull string laden draft : Nat} {fitted : Bool} {rank node : Option Nat} (hs : s.serves q qs)
    (hq : q.carries 0x03 1 (bargeFrame hull string laden draft fitted rank node)) (hulls : 1 ≤ hull ∧ hull ≤ 65535)
    (strings : 1 ≤ string ∧ string ≤ 6) (ladens : laden ≤ 4000) (drafts : draft ≤ 600)
    (ranks : ∀ r, rank = some r → 1 ≤ r ∧ r ≤ 8) (nodes : ∀ a, node = some a → a ≤ 126) (law : s.rosterLaw = true)
    (free : s.errorFree = true ∨ ∀ n ∈ s.tow.nodes, node ≠ some n.address) :
    let held : Nat := (s.barges.filter (·.string == string)).length
    let wanted : Nat := rank.getD (held + 1)
    let stands : Nat := min wanted (held + 1)
    let refused (r : Result) : Prop := exec .enrol s = .next (s.answered q qs r [] s)
    let named : Prop := ∃ d ∈ s.barges, d.string = string ∧ stands ≤ (s.rank? d.hull).getD 0 ∧
      ∃ c ∈ s.couplings, c.names d.hull = true
    let taken : Prop := ∃ a, node = some a ∧ a ≠ 0 ∧ ((∃ d ∈ s.barges, d.node = some a) ∨ s.policy.boatNode = a)
    let new := Barge.entered hull string laden draft fitted node
    (hull ∈ s.barges.map (·.hull) → refused .duplicate) ∧
    (hull ∉ s.barges.map (·.hull) →
      (48 ≤ s.barges.length → refused .full) ∧
      (s.barges.length < 48 → 8 ≤ held → refused .full) ∧
      (s.barges.length < 48 → held < 8 →
        (named → refused .inUse) ∧
        (¬named → taken → refused .addressInUse) ∧
        (¬named → ¬taken → s.lockage.phase ≠ .whole → refused .wrongState) ∧
        (¬named → ¬taken → s.lockage.phase = .whole →
          exec .enrol s = .next (s.answered q qs (if held + 1 < wanted then .doneClamped else .done) []
            (match new.node with
              | none => s.insertBarge new stands
              | some a => (s.insertBarge new stands).reboundAt a))))) := by
  intro held wanted stands refused named taken new
  have count : s.stringCount string = held := (State.stringCount_eq law strings.1 strings.2).symm
  obtain ⟨refuses, apart, enters⟩ := exec_enrol_barge hs hq hulls strings ladens drafts ranks nodes free
  rewrite [count] at refuses apart enters
  have one : 1 ≤ stands := by
    refine Nat.le_min.mpr ⟨?_, Nat.le_add_left _ _⟩
    cases rank with
    | none => exact Nat.le_add_left _ _
    | some r => exact (ranks r rfl).1
  have known : (s.barge? hull).isSome = true ↔ hull ∈ s.barges.map (·.hull) := isSome_find?_key Barge.hull hull s.barges
  have names : s.namedFrom string stands = true ↔ named := State.namedFrom_iff law one
  have takes := s.nodeTaken_iff node
  have verdict : s.bargeVerdict hull string stands node = if (s.barge? hull).isSome then some .duplicate
      else if 48 ≤ s.barges.length then some .full else if 8 ≤ held then some .full
      else if s.namedFrom string stands then some .inUse else if s.nodeTaken node then some .addressInUse else none := by
    rw [State.bargeVerdict, count]
  refine ⟨fun mem => refuses _ (verdict.trans (if_pos (known.mpr mem))), fun fresh => ?_⟩
  rewrite [if_neg (fun h => fresh (known.mp h))] at verdict
  refine ⟨fun full => refuses _ (verdict.trans (if_pos full)), fun space full => ?_, fun space room => ?_⟩
  · exact refuses _ (verdict.trans ((if_neg space.not_ge).trans (if_pos full)))
  · rewrite [if_neg space.not_ge, if_neg room.not_ge] at verdict
    refine ⟨fun named => refuses _ (verdict.trans (if_pos (names.mpr named))), fun unnamed taken => ?_,
      fun unnamed untaken => ?_, fun unnamed untaken => ?_⟩
    · exact refuses _ (verdict.trans ((if_neg fun h => unnamed (names.mp h)).trans (if_pos (takes.mpr taken))))
    · exact apart (verdict.trans ((if_neg fun h => unnamed (names.mp h)).trans (if_neg fun h => untaken (takes.mp h))))
    · exact enters (verdict.trans ((if_neg fun h => unnamed (names.mp h)).trans (if_neg fun h => untaken (takes.mp h))))
        (Bool.eq_false_iff.mpr fun h => untaken (takes.mp h))

end

/-- Settles O13, table by table. -/
theorem enrolInsertsABarge : Obligations.EnrolInsertsABarge := by
  refine ⟨fun s q qs hull string laden draft fitted rank node hs hq h1 h2 h3 h4 h5 h6 ranks nodes law free => ?_,
    fun s q qs k shaft a limit rate flanking hs hq h1 h2 h3 h4 h5 h6 h7 h8 h9 h10 => ?_,
    fun s q qs k a rated supply meter v hs hq h1 h2 h3 h4 h5 h6 day meters => ?_,
    fun s q qs hull rated hs free hq h1 h2 => exec_enrol_bow hs free hq ⟨h1, h2⟩,
    fun s q qs k capacity lowMark opening gauge day hs hq h1 h2 h3 h4 fits addresses => ?_,
    fun s q qs k a factor source destination volume interval batches mode hs hq h1 h2 h3 h4 h5 h6 sources destinations h7 h8
      intervals h9 h10 => ?_⟩
  · exact enrol_barge_frame hs hq ⟨h1, h2⟩ ⟨h3, h4⟩ h5 h6 ranks nodes law free
  · exact exec_enrol_rudder hs hq ⟨h1, h2⟩ ⟨h3, h4⟩ ⟨h5, h6⟩ ⟨h7, h8⟩ ⟨h9, h10⟩
  · exact exec_enrol_engine hs hq ⟨h1, h2⟩ ⟨h3, h4⟩ ⟨h5, h6⟩ day meters
  · exact exec_enrol_tank hs hq ⟨h1, h2⟩ ⟨h3, h4⟩ fits addresses
  · exact exec_enrol_transfer hs hq ⟨h1, h2⟩ ⟨h3, h4⟩ ⟨h5, h6⟩ sources destinations ⟨h7, h8⟩ intervals ⟨h9, h10⟩

/-! ENROL of a coupling: its number, its ends and its items (R5, R73, R74). -/

/-! ## The lowest free number (R5) -/

theorem lowestFree_eq {taken : List Nat} {n : Nat} (free : n ∉ taken) : ∀ fuel m : Nat, m ≤ n → n ≤ m + fuel →
    (∀ j, m ≤ j → j < n → j ∈ taken) → lowestFree taken fuel m = n
  | 0, _, low, high, _ => Nat.le_antisymm low high
  | fuel + 1, m, low, high, below => by
    rcases Nat.lt_or_eq_of_le low with less | rfl
    · refine (if_pos (List.contains_iff_mem.mpr (below m le_rfl less))).trans ?_
      exact lowestFree_eq free fuel (m + 1) less (by omega) fun j after => below j (Nat.le_of_succ_le after)
    · exact if_neg fun here => free (List.contains_iff_mem.mp here)

/-- R5: the record just entered is rewritten. -/
theorem update_entered {α : Type} {key : α → Nat} {a b : α} (same : key b = key a) :
    ∀ {l : List α}, key a ∉ l.map key → update (key · == key a) (fun _ => b) (insertByKey key a l) = insertByKey key b l
  | [], _ => by simp [insertByKey, update]
  | c :: l, absent => by
    obtain ⟨other, rest⟩ : key a ≠ key c ∧ key a ∉ l.map key := by simpa using absent
    have stands : update (key · == key a) (fun _ => b) l = l :=
      (List.map_congr_left fun d mem => if_neg fun here => rest (List.mem_map.mpr ⟨d, mem, by simpa using here⟩)).trans
        (List.map_id _)
    have apart : ¬(key c == key a) = true := by simpa using Ne.symm other
    rewrite [insertByKey, insertByKey, same]
    split
    · exact congrArg₂ List.cons (if_pos (beq_self_eq_true _)) (congrArg₂ List.cons (if_neg apart) stands)
    · exact congrArg₂ List.cons (if_neg apart) (update_entered same rest)

/-! ## Ends (R74) -/

theorem firstFailure_refuseIf (b : Bool) (r : Result) (l : List (Option Result)) :
    firstFailure (refuseIf b r :: l) = if b then some r else firstFailure l := by cases b <;> rfl

namespace State

/-- R40, R74: a barge stands in a string at a rank. -/
def standsAt (s : State) (h string rank : Nat) : Prop :=
  ∃ i b, s.barges[i]? = some b ∧ b.hull = h ∧ b.string = string ∧
    rank = ((s.barges.take (i + 1)).filter (·.string == string)).length

/-- R74: the adjacency of a kind. -/
def fitsKind (s : State) (kind : CouplingKind) (endA : Member) (endB : Nat) : Prop :=
  match kind with
  | .face => endA = .boat
  | .long => ∃ h g x y, endA = .barge h ∧ s.standsAt h g x ∧ s.standsAt endB g y ∧ (x = y + 1 ∨ y = x + 1)
  | .breast => ∃ h f g x, endA = .barge h ∧ s.standsAt h f x ∧ s.standsAt endB g x ∧ (f = g + 1 ∨ g = f + 1)

variable {s : State} {h endB : Nat} {endA : Member} {kind : CouplingKind}

theorem place_of_mem (law : s.rosterLaw = true) (mem : h ∈ s.barges.map (·.hull)) :
    ∃ g x, s.string? h = some g ∧ s.rank? h = some x ∧ ∀ f y, s.standsAt h f y ↔ f = g ∧ y = x := by
  obtain ⟨b, hb, rfl⟩ := List.mem_map.mp mem
  obtain ⟨i, here⟩ := List.mem_iff_getElem?.mp hb
  have string := s.string?_eq law here
  have rank := (s.rank?_eq law here).1
  refine ⟨_, _, string, rank, fun f y => ⟨?_, ?_⟩⟩
  · rintro ⟨j, d, there, hull, rfl, rfl⟩
    exact ⟨Option.some.inj ((s.string?_eq law there).symm.trans (hull ▸ string)),
      Option.some.inj ((s.rank?_eq law there).1.symm.trans (hull ▸ rank))⟩
  · rintro ⟨rfl, rfl⟩
    exact ⟨i, b, here, rfl, rfl, rfl⟩

theorem adjacent_iff (law : kind = .face ∨ s.rosterLaw = true) (first : ∀ h, endA = .barge h → h ∈ s.barges.map (·.hull))
    (second : endB ∈ s.barges.map (·.hull)) : s.adjacent kind endA endB = true ↔ s.fitsKind kind endA endB := by
  cases endA with
  | boat => cases kind <;> simp [State.adjacent, State.fitsKind]
  | barge h =>
    cases kind with
    | face => simp [State.adjacent, State.fitsKind]
    | long | breast =>
      have law := law.resolve_left nofun
      obtain ⟨g, x, string, rank, stands⟩ := State.place_of_mem law (first h rfl)
      obtain ⟨g', x', string', rank', stands'⟩ := State.place_of_mem law second
      simp only [State.adjacent, State.fitsKind, string, rank, string', rank', differByOne, Member.barge.injEq,
        Bool.and_eq_true, Bool.or_eq_true, beq_iff_eq, Option.some.injEq, stands']
      refine ⟨fun ⟨same, apart⟩ => ?_, ?_⟩
      · subst same
        exact ⟨h, _, _, _, rfl, (stands _ _).mpr ⟨rfl, rfl⟩, ⟨rfl, rfl⟩, apart⟩
      · rintro ⟨_, _, _, _, rfl, own, ⟨rfl, rfl⟩, apart⟩
        obtain ⟨rfl, rfl⟩ := (stands _ _).mp own
        exact ⟨rfl, apart⟩

/-- R74: the four tests of the ends, in the order of their fields. -/
theorem endsRefused_spec (law : kind = .face ∨ s.rosterLaw = true) (t : Tending) :
    let fitA : Prop := ∀ h, endA = .barge h → h ∈ s.barges.map (·.hull)
    let fitB : Prop := endB ∈ s.barges.map (·.hull) ∧ endA ≠ .barge endB
    let tended : Prop := ∀ m k, t = .winch m k → m = endA ∨ m = .barge endB
    (¬fitA → s.endsRefused kind endA endB t = some (.badField 3)) ∧
    (fitA → ¬fitB → s.endsRefused kind endA endB t = some (.badField 4)) ∧
    (fitA → fitB → ¬s.fitsKind kind endA endB → s.endsRefused kind endA endB t = some (.badField 2)) ∧
    (fitA → fitB → s.fitsKind kind endA endB → ¬tended → s.endsRefused kind endA endB t = some (.badField 6)) ∧
    (fitA → fitB → s.fitsKind kind endA endB → tended → s.endsRefused kind endA endB t = none) := by
  intro fitA fitB tended
  have enrolled (h : Nat) : (s.barge? h).isSome = true ↔ h ∈ s.barges.map (·.hull) := isSome_find?_key Barge.hull h s.barges
  have third : (!s.enrolledMember endA) = true ↔ ¬fitA := by
    cases endA with
    | boat => simp [State.enrolledMember, fitA]
    | barge h =>
      rewrite [State.enrolledMember, Bool.not_eq_true', ← Bool.not_eq_true, enrolled]
      simp [fitA]
  have fourth : (!(s.barge? endB).isSome || endA == .barge endB) = true ↔ ¬fitB := by
    rewrite [Bool.or_eq_true, Bool.not_eq_true', ← Bool.not_eq_true, enrolled, beq_iff_eq]
    simp only [fitB]
    tauto
  let sixth : Option Result := firstFailure [match t with
    | .hand => none
    | .winch m _ => refuseIf (!(m == endA || m == .barge endB)) (.badField 6)]
  have own : tended → sixth = none := fun own => by
    cases t with
    | hand => rfl
    | winch m k =>
      have passes : (m == endA || m == .barge endB) = true := by simpa using own m k rfl
      simp only [sixth, passes]
      rfl
  have stray : ¬tended → sixth = some (.badField 6) := fun stray => by
    cases t with
    | hand => exact absurd nofun stray
    | winch m k =>
      have fails : (m == endA || m == .barge endB) = false := by
        rewrite [← Bool.not_eq_true]
        exact fun passes => stray (by rintro _ _ ⟨⟩; simpa using passes)
      simp only [sixth, fails]
      rfl
  have checks : s.endsRefused kind endA endB t = if !s.enrolledMember endA then some (.badField 3)
      else if !(s.barge? endB).isSome || endA == .barge endB then some (.badField 4)
      else if !s.adjacent kind endA endB then some (.badField 2) else sixth := by
    unfold State.endsRefused
    rewrite [firstFailure_refuseIf, firstFailure_refuseIf, firstFailure_refuseIf]
    rfl
  rewrite [checks]
  refine ⟨fun no => if_pos (third.mpr no), fun a no => ?_, fun a b no => ?_, fun a b c d => ?_, fun a b c d => ?_⟩
  all_goals rewrite [if_neg fun h => third.mp h a]
  · exact if_pos (fourth.mpr no)
  all_goals rewrite [if_neg fun h => fourth.mp h b]
  · exact if_pos (by rewrite [Bool.not_eq_true', ← Bool.not_eq_true, State.adjacent_iff law a b.1]; exact no)
  all_goals rewrite [(State.adjacent_iff law a b.1).mpr c]
  · exact stray d
  · exact own d

end State

/-! ENROL of a coupling (R5, R73, R74, R84, R86 to R88, R183, R186, R187). -/

/-! ## The frame (R73) -/

/-- R73: the item of a coupling's kind. -/
def kindCode (kind : CouplingKind) : Int :=
  match kind with
  | .face => 1
  | .long => 2
  | .breast => 3

namespace Tending

/-- R73: the items of a tending. -/
def items (t : Tending) : List Item :=
  match t with
  | .hand => [⟨5, 0⟩]
  | .winch m k => [⟨5, 1⟩, ⟨6, Sys2Proof.Machine.memberCode m⟩, ⟨7, k⟩]

/-- R84, R87, R88: the orders that a frame may give: none, a tend order of a winch, or a declare. -/
def admits (t : Tending) (orders : List Item) : Prop :=
  match t with
  | .hand => orders ∈ ([[], [⟨10, 0⟩], [⟨10, 1⟩]] : List (List Item))
  | .winch _ _ => orders ∈ ([[], [⟨9, 0⟩], [⟨9, 1⟩], [⟨9, 2⟩], [⟨10, 0⟩]] : List (List Item))

variable {t : Tending} {orders : List Item}

theorem admits_range (h : t.admits orders) : ∀ i ∈ orders, couplingRange (t.code == 1) i = none := by
  cases t with
  | hand =>
    exact (by decide : ∀ os ∈ ([[], [⟨10, 0⟩], [⟨10, 1⟩]] : List (List Item)), ∀ i ∈ os, couplingRange false i = none)
      orders h
  | winch m k =>
    exact (by decide : ∀ os ∈ ([[], [⟨9, 0⟩], [⟨9, 1⟩], [⟨9, 2⟩], [⟨10, 0⟩]] : List (List Item)),
      ∀ i ∈ os, couplingRange true i = none) orders h

end Tending

/-- R73: the frame of a coupling. -/
def couplingFrame (kind : CouplingKind) (endA : Member) (endB : Nat) (t : Tending) (rated : Nat) (orders : List Item) :
    List Item :=
  [⟨2, kindCode kind⟩, ⟨3, memberCode endA⟩, ⟨4, endB⟩, ⟨8, rated⟩] ++ t.items ++ orders

/-- R73: a member that a frame can name. -/
def Member.inRange (m : Member) : Prop := ∀ h, m = .barge h → 1 ≤ h ∧ h ≤ 65535

/-- R73: what stage 4 asks of the frame's figures. -/
structure FrameFits (endA : Member) (endB : Nat) (t : Tending) (rated : Nat) (orders : List Item) : Prop where
  endA : endA.inRange
  endB : 1 ≤ endB ∧ endB ≤ 65535
  rated : 10 ≤ rated ∧ rated ≤ 2000
  winch : ∀ m k, t = .winch m k → m.inRange ∧ 1 ≤ k ∧ k ≤ 4
  orders : t.admits orders

theorem memberOf_memberCode {m : Member} (h : m.inRange) : memberOf (memberCode m) = m := by
  cases m with
  | boat => rfl
  | barge b => exact if_neg (Int.natCast_ne_zero.mpr (Nat.one_le_iff_ne_zero.mp (h b rfl).1))

theorem memberCode_inRange {m : Member} (h : m.inRange) (f : Nat) :
    Sys2Proof.Machine.inRange ⟨f, memberCode m⟩ 0 65535 = none := by
  cases m with
  | boat => rfl
  | barge b => exact inRange_cast (Nat.zero_le b) (h b rfl).2

/-- R74: a coupling as ENROL enters it without an order. -/
def Coupling.entered (n : Nat) (kind : CouplingKind) (endA : Member) (endB : Nat) (t : Tending) (rated : Nat)
    (crossing : Bool) : Coupling :=
  { number := n, kind := kind, endA := endA, endB := endB, tending := t, rated := rated, tendOrder := .none,
    declaredMade := false, state := .unlashed, tension := none, seated := none, winchFault := false,
    crossing := crossing, header := { damaged := false, bad := [] }, debounce := none, slackTimer := none, dropSeen := false }

/-- R74: a coupling in the table. -/
def State.lashed (s : State) (c : Coupling) : State := { s with couplings := insertByKey (·.number) c s.couplings }

section
variable {s : State} {q : Request} {qs : List Request} {kind : CouplingKind} {endA : Member} {endB rated : Nat}
  {t : Tending} {orders : List Item}

/-- R187: the crossing flag of a new coupling. -/
def State.newCrossing (s : State) (endA : Member) (endB : Nat) : Bool := s.lockage.phase != .whole && s.endsCross endA endB

/-- R86 to R88, R187: an order that no new coupling can take. -/
def State.ordersBarred (s : State) (endA : Member) (endB : Nat) (t : Tending) (orders : List Item) : Bool :=
  s.makeRefused orders (s.newCrossing endA endB) || (t.code == 1 && gives orders 10)

section
variable (fits : FrameFits endA endB t rated orders)
include fits

theorem couplingRange_frame : checkItems (couplingFrame kind endA endB t rated orders) (couplingRange (t.code == 1)) = none := by
  refine checkItems_passes ?_
  simp only [couplingFrame, List.forall_mem_append, List.forall_mem_cons]
  refine ⟨⟨⟨by cases kind <;> rfl, memberCode_inRange fits.endA 3, inRange_cast fits.endB.1 fits.endB.2,
    inRange_cast fits.rated.1 fits.rated.2, nofun⟩, ?_⟩, Tending.admits_range fits.orders⟩
  cases t with
  | hand => exact fun i mem => List.mem_singleton.mp mem ▸ rfl
  | winch m k =>
    obtain ⟨member, index⟩ := fits.winch m k rfl
    simp only [Tending.items, List.forall_mem_cons]
    exact ⟨rfl, memberCode_inRange member 6, inRange_cast index.1 index.2, nofun⟩

theorem givenTending_frame : givenTending (couplingFrame kind endA endB t rated orders) .hand = t := by
  cases t with
  | hand => rfl
  | winch m k => exact congrArg (Tending.winch · k) ((rfl : _ = memberOf (memberCode m)).trans (memberOf_memberCode (fits.winch m k rfl).1))

theorem enrolTable_coupling (n : Nat) (number : lowestFree (s.couplings.map (·.number)) 128 1 = n) :
    enrolTable .couplings (couplingFrame kind endA endB t rated orders) s.opened =
      answered s.opened (s.endsRefused kind endA endB t)
        (if 128 ≤ s.couplings.length then refuse s.opened .full
          else if s.ordersBarred endA endB t orders then refuse s.opened .wrongState
          else ((((s.opened.on fun s => s.lashed (.entered n kind endA endB t rated (s.newCrossing endA endB))).giveOrders n
            orders).touch, .done, [item 1 n]) : Answer)) := by
  subst number
  have tending := givenTending_frame (kind := kind) fits
  have full : (!([2, 3, 4, 5, 8].all (gives (couplingFrame kind endA endB t rated orders))) || ((t.code == 1) &&
      !([6, 7].all (gives (couplingFrame kind endA endB t rated orders))))) = false := by cases t <;> rfl
  have kinds : ((valueOf (couplingFrame kind endA endB t rated orders) 2).bind couplingKindOf).getD .face = kind := by
    cases kind <;> rfl
  have ends : memberOf ((valueOf (couplingFrame kind endA endB t rated orders) 3).getD 0) = endA := memberOf_memberCode fits.endA
  have nine : valueOf (couplingFrame kind endA endB t rated orders) 9 = valueOf orders 9 := by cases t <;> rfl
  have ten : valueOf (couplingFrame kind endA endB t rated orders) 10 = valueOf orders 10 := by cases t <;> rfl
  have declared : gives (couplingFrame kind endA endB t rated orders) 10 = gives orders 10 := by cases t <;> rfl
  have given (x : Txn) (n : Nat) : x.giveOrders n (couplingFrame kind endA endB t rated orders) = x.giveOrders n orders := by
    rw [Txn.giveOrders, Txn.giveOrders, nine, ten]
  have barred (b : Bool) : s.opened.st.makeRefused (couplingFrame kind endA endB t rated orders) b = s.makeRefused orders b := by
    rewrite [State.makeRefused, nine, ten]
    rfl
  rewrite [enrolTable, enrolCoupling]
  simp only [tending, full, Bool.false_eq_true, if_false, kinds, ends, given, barred, declared]
  refine (congrArg (fun v => answered s.opened v _) (couplingRange_frame fits)).trans ?_
  rfl

end

/-! ## Refusals (R74, R86 to R88, R187) -/

/-- R73, R74: an ENROL of a coupling whose items pass their ranges. -/
structure State.Lashes (s : State) (q : Request) (qs : List Request) (kind : CouplingKind) (endA : Member) (endB : Nat)
    (t : Tending) (rated : Nat) (orders : List Item) : Prop where
  serves : s.serves q qs
  carries : q.carries 0x03 3 (couplingFrame kind endA endB t rated orders)
  fits : FrameFits endA endB t rated orders

variable (h : s.Lashes q qs kind endA endB t rated orders)
include h

namespace State.Lashes

theorem once : onceEach ((couplingFrame kind endA endB t rated orders).map (·.field)) = true := by
  have admitted := h.fits.orders
  cases t with
  | hand =>
    exact (by decide : ∀ os ∈ ([[], [⟨10, 0⟩], [⟨10, 1⟩]] : List (List Item)),
      onceEach ([2, 3, 4, 8, 5] ++ os.map (·.field)) = true) orders admitted
  | winch m k =>
    exact (by decide : ∀ os ∈ ([[], [⟨9, 0⟩], [⟨9, 1⟩], [⟨9, 2⟩], [⟨10, 0⟩]] : List (List Item)),
      onceEach ([2, 3, 4, 8, 5, 6, 7] ++ os.map (·.field)) = true) orders admitted

theorem refused {r : Result} (ends : s.endsRefused kind endA endB t = some r) :
    exec .enrol s = .next (s.answered q qs r [] s) :=
  exec_enrol_refused (table := 3) (t := .couplings) h.serves h.carries rfl h.once
    ((enrolTable_coupling h.fits _ rfl).trans (congrArg (fun v => Sys2Proof.Machine.answered s.opened v _) ends))

variable (ends : s.endsRefused kind endA endB t = none)
include ends

theorem full (many : 128 ≤ s.couplings.length) : exec .enrol s = .next (s.answered q qs .full [] s) :=
  exec_enrol_refused (table := 3) (t := .couplings) h.serves h.carries rfl h.once
    ((enrolTable_coupling h.fits _ rfl).trans ((congrArg (fun v => Sys2Proof.Machine.answered s.opened v _) ends).trans (if_pos many)))

theorem wrongState (room : s.couplings.length < 128) (barred : s.ordersBarred endA endB t orders = true) :
    exec .enrol s = .next (s.answered q qs .wrongState [] s) :=
  exec_enrol_refused (table := 3) (t := .couplings) h.serves h.carries rfl h.once
    ((enrolTable_coupling h.fits _ rfl).trans ((congrArg (fun v => Sys2Proof.Machine.answered s.opened v _) ends).trans
      ((if_neg (Nat.not_le_of_lt room)).trans (if_pos barred))))

end State.Lashes

end

/-! ENROL of a coupling: what a request that is taken leaves (R5, R74, R84, R87, R183, R186). -/

section
variable {s : State} {q : Request} {qs : List Request} {kind : CouplingKind} {endA : Member} {endB rated n : Nat}
  {t : Tending} {orders : List Item}

/-- R5, R74: the transaction that has entered a coupling. -/
def State.entering (s : State) (c : Coupling) : Txn := s.opened.on (·.lashed c)

/-- R5, R74: an ENROL of a coupling that is taken, with its number. -/
structure State.Enters (s : State) (q : Request) (qs : List Request) (kind : CouplingKind) (endA : Member) (endB : Nat)
    (t : Tending) (rated : Nat) (orders : List Item) (n : Nat) : Prop where
  lashes : s.Lashes q qs kind endA endB t rated orders
  ends : s.endsRefused kind endA endB t = none
  room : s.couplings.length < 128
  allowed : s.ordersBarred endA endB t orders = false
  number : lowestFree (s.couplings.map (·.number)) 128 1 = n
  fresh : n ∉ s.couplings.map (·.number)
  free : s.errorFree = true
  law : s.recordLaw = true

variable (h : s.Enters q qs kind endA endB t rated orders n)
include h

namespace State.Enters

theorem body : requestEnrol q s.opened =
    ((((s.entering (.entered n kind endA endB t rated (s.newCrossing endA endB))).giveOrders n orders).touch, .done,
      [item 1 n]) : Answer) :=
  (requestEnrol_carries (t := .couplings) h.lashes.carries rfl h.lashes.once _).trans
    ((enrolTable_coupling h.lashes.fits n h.number).trans
      ((congrArg (fun v => Sys2Proof.Machine.answered s.opened v _) h.ends).trans
        ((if_neg (Nat.not_le_of_lt h.room)).trans (if_neg (ne_true_of_eq_false h.allowed)))))

theorem numbers (c : Coupling) (same : c.number = n) : ((s.lashed c).couplings.map (·.number)).Nodup :=
  nodup_insertByKey (key := Coupling.number) (same ▸ h.fresh) (s.recordLaw_iff.mp h.law).2.1

theorem has (b : Bool) : (s.entering (.entered n kind endA endB t rated b)).HasCoupling
    (.entered n kind endA endB t rated b) where
  found := find?_eq_some_of_nodup (key := Coupling.number) (h.numbers _ rfl) ((mem_insertByKey _ _ _ _).mpr (.inl rfl))
  once := h.numbers _ rfl
  clean := rfl

/-- R84 to R88: an ENROL in WHOLE, with the orders that it gives. -/
theorem done_whole {c : Coupling} {cs : List (Member × Nat × WinchCommand)} (whole : s.lockage.phase = .whole)
    (same : c.number = n) (given : ∃ b, (s.entering (.entered n kind endA endB t rated false)).giveOrders n orders =
      { (s.entering (.entered n kind endA endB t rated false)).putCoupling c with commands := cs, touched := b }) :
    exec .enrol s = .next (s.answered q qs .done [item 1 n] ((s.lashed c).placeCommands cs)) := by
  obtain ⟨b, given⟩ := given
  have flag : s.newCrossing endA endB = false := by rewrite [State.newCrossing, whole]; rfl
  have table : update (·.number == n) (fun _ => c)
      (insertByKey (·.number) (.entered n kind endA endB t rated false) s.couplings) =
      insertByKey (·.number) c s.couplings :=
    update_entered (key := Coupling.number) (a := .entered n kind endA endB t rated false) same h.fresh
  let ended (l : List Coupling) : Txn :=
    { st := { s with couplings := l, arbiter := s.arbiter.grant .console }, commands := cs, touched := true }
  have body : requestEnrol q s.opened = (ended (s.lashed c).couplings, .done, [item 1 n]) := by
    rewrite [h.body, flag, given, Txn.putCoupling, same]
    exact congrArg (fun l => (ended l, Result.done, [item 1 n])) table
  exact exec_whole (c := .enrol) (after := s.lashed c) rfl rfl h.lashes.serves h.lashes.carries.1 body whole rfl rfl

/-- R83, R85: no order, NONE and RELEASE leave a new coupling as it is. -/
theorem done_idle (whole : s.lockage.phase = .whole) (idle : orders = [] ∨ orders = [⟨9, 0⟩] ∨ orders = [⟨9, 2⟩]) :
    exec .enrol s = .next (s.answered q qs .done [item 1 n] (s.lashed (.entered n kind endA endB t rated false))) := by
  refine h.done_whole (c := .entered n kind endA endB t rated false) (cs := []) whole rfl ⟨false, ?_⟩
  rewrite [(h.has false).putCoupling_self]
  have found : (s.entering (.entered n kind endA endB t rated false)).st.coupling? n = some _ := (h.has false).found
  rcases idle with rfl | rfl | rfl
  · rfl
  · refine (?_ : Txn.giveNone _ n = _)
    rewrite [Txn.giveNone, found]
    rfl
  · refine (?_ : Txn.giveRelease _ n = _)
    rewrite [Txn.giveRelease, found]
    rfl

/-- R87: a declare is the state of a HAND coupling. -/
theorem done_declared (whole : s.lockage.phase = .whole) (hand : t = .hand) (m : Bool)
    (declares : orders = [⟨10, if m then 1 else 0⟩]) : exec .enrol s = .next (s.answered q qs .done [item 1 n]
      (s.lashed { Coupling.entered n kind endA endB t rated false with
        declaredMade := m, state := if m then .made else .unlashed })) := by
  subst hand declares
  have code : ((if m then 1 else 0 : Int) == 1) = m := by cases m <;> rfl
  refine h.done_whole (cs := []) whole rfl ⟨true, ?_⟩
  refine (?_ : Txn.giveDeclare _ n _ = _)
  rewrite [code]
  exact (h.has false).giveDeclare m

/-- R84: MAKE stands in a new coupling, with HEAVE for its winch. -/
theorem done_make (whole : s.lockage.phase = .whole) {m : Member} {k : Nat} (winch : t = .winch m k)
    (make : orders = [⟨9, 1⟩]) : exec .enrol s = .next (s.answered q qs .done [item 1 n]
      ((s.lashed { Coupling.entered n kind endA endB t rated false with tendOrder := .make }).placeCommands
        [(m, k, .heave (rated * s.policy.makeUpTension / 1000))])) := by
  subst winch make
  obtain ⟨b, made⟩ := (h.has false).giveMake
  exact h.done_whole whole rfl ⟨b, made⟩

theorem free_lashed (b : Bool) :
    (s.entering (.entered n kind endA endB t rated b)).touch.st.errorFree = true := by
  obtain ⟨barges, couplings, rest⟩ := s.errorFree_iff.mp h.free
  exact (State.errorFree_iff _).mpr ⟨barges,
    forall_mem_insertByKey (p := fun c : Coupling => c.header.errorFree = true) rfl couplings, rest⟩

variable (none : orders = [])
include none

/-- R183: an ENROL that is taken, with the completion test known. -/
theorem done_tested {f : State → State}
    (test : (s.entering (.entered n kind endA endB t rated (s.newCrossing endA endB))).touch.lockageTest true =
      (s.entering (.entered n kind endA endB t rated (s.newCrossing endA endB))).touch.on f)
    (keeps : ∀ u, (f u).barges = u.barges ∧ (f u).policy = u.policy)
    (grants : ∀ u, f { u with arbiter := s.arbiter.grant .console } = { f u with arbiter := s.arbiter.grant .console }) :
    exec .enrol s = .next (s.answered q qs .done [item 1 n]
      (f (s.lashed (.entered n kind endA endB t rated (s.newCrossing endA endB))))) := by
  subst none
  let t' := s.lashed (.entered n kind endA endB t rated (s.newCrossing endA endB))
  obtain ⟨barges, policy⟩ := keeps { t' with arbiter := s.arbiter.grant .console }
  have bound : (s.take .console).bound = (f { t' with arbiter := s.arbiter.grant .console }).bound :=
    State.bound_congr _ _ barges.symm policy.symm
  have ends := exec_answer (c := .enrol) rfl rfl h.lashes.serves h.lashes.carries.1 h.body
  have work : (s.entering (.entered n kind endA endB t rated (s.newCrossing endA endB))).giveOrders n [] =
      s.entering (.entered n kind endA endB t rated (s.newCrossing endA endB)) := rfl
  rewrite [work, Txn.commit_tested rfl test fun m _ => congrFun bound _] at ends
  refine ends.trans ?_
  have after := grants t'
  refine (congrArg (fun u : State => Host.Outcome.next (settle { u with console := { u.console with
    requests := qs
    responses := u.console.responses ++ [{ tag := q.tag, code := q.code, result := .done, items := [item 1 n] }] } }))
    after).trans ?_
  rfl

/-- R183, R186: an ENROL outside WHOLE that ends outside it. -/
theorem done_taken {phase : Phase} {left times : Nat}
    (test : (s.entering (.entered n kind endA endB t rated (s.newCrossing endA endB))).touch.lockageTest true =
      (s.entering (.entered n kind endA endB t rated (s.newCrossing endA endB))).touch.on
        (·.lockageTaken phase left times)) :
    ∃ cut, let u : State := { s.lashed (.entered n kind endA endB t rated (s.newCrossing endA endB)) with
        lockage := { s.lockage with phase := phase, boatCut := cut, remaining := left } }
      u.boatCutDecided ∧
        exec .enrol s = .next (s.answered q qs .done [item 1 n] { u with notices := s.lockageNotices u times }) :=
  ⟨(s.lashed (.entered n kind endA endB t rated (s.newCrossing endA endB))).decideBoatCut,
    State.boatCutDecided_of (s := s.lashed (.entered n kind endA endB t rated (s.newCrossing endA endB))) rfl rfl rfl rfl rfl,
    h.done_tested none (f := (·.lockageTaken phase left times)) test (fun _ => ⟨rfl, rfl⟩) fun _ => rfl⟩

end State.Enters

end

/-! ENROL of a coupling (O14). -/

section
variable {s : State} {q : Request} {qs : List Request} {kind : CouplingKind} {endA : Member} {endB rated n : Nat}
  {t : Tending} {orders : List Item}

namespace State

/-- R86, R187: MAKE and declare MADE given to a coupling that would cross. -/
theorem ordersBarred_made (locked : s.lockage.phase = .breaking ∨ s.lockage.phase = .split)
    (crosses : s.endsCross endA endB = true) (made : orders = [⟨9, 1⟩] ∨ orders = [⟨10, 1⟩]) :
    s.ordersBarred endA endB t orders = true := by
  have flag : s.newCrossing endA endB = true := by
    rcases locked with phase | phase <;> rw [State.newCrossing, phase, crosses] <;> rfl
  have phase : (s.lockage.phase == .breaking || s.lockage.phase == .split) = true := by simpa using locked
  have given : (valueOf orders 9 == some 1 || valueOf orders 10 == some 1) = true := by rcases made with rfl | rfl <;> rfl
  rw [State.ordersBarred, State.makeRefused, flag, phase, given, Bool.and_true, Bool.and_true, Bool.true_or]

theorem ordersBarred_declare (winch : t ≠ .hand) : s.ordersBarred endA endB t [⟨10, 0⟩] = true := by
  cases t with
  | hand => exact absurd rfl winch
  | winch m k => exact Bool.or_true _

theorem ordersBarred_whole (whole : s.lockage.phase = .whole) :
    s.ordersBarred endA endB t orders = (t.code == 1 && gives orders 10) := by
  rewrite [State.ordersBarred, State.makeRefused, whole]
  exact Bool.false_or _

theorem newCrossing_outside (outside : s.lockage.phase ≠ .whole) : s.newCrossing endA endB = s.endsCross endA endB := by
  have away : (s.lockage.phase != .whole) = true := by simpa using outside
  rw [State.newCrossing, away, Bool.true_and]

theorem ordersBarred_nil : s.ordersBarred endA endB t [] = false := by
  simp [State.ordersBarred, State.makeRefused, valueOf, gives]

end State

namespace State.Enters

section
variable (h : s.Enters q qs kind endA endB t rated [] n) (outside : s.lockage.phase ≠ .whole)
include h outside

/-- R183, R186: an ENROL in BREAKING. -/
theorem done_breaking (breaking : s.lockage.phase = .breaking) :
    let t' := s.lashed (.entered n kind endA endB t rated (s.endsCross endA endB))
    ∃ cut, let u : State := { t' with lockage := { s.lockage with
        phase := if t'.leftToBreak = 0 then .split else .breaking, boatCut := cut, remaining := t'.leftToBreak } }
      u.boatCutDecided ∧ exec .enrol s = .next (s.answered q qs .done [item 1 n]
        { u with notices := s.lockageNotices u (if t'.leftToBreak = 0 then 1 else 0) }) := by
  intro t'
  have test := Txn.lockageTest_breaking (h.free_lashed (s.newCrossing endA endB)) breaking true
  simp only [and_true] at test
  have done := h.done_taken rfl (phase := if t'.leftToBreak = 0 then .split else .breaking) (left := t'.leftToBreak)
    (times := if t'.leftToBreak = 0 then 1 else 0) (test.trans (by rewrite [State.newCrossing_outside outside]; rfl))
  rewrite [State.newCrossing_outside outside] at done
  exact done

/-- R186: an ENROL in SPLIT. -/
theorem done_split (split : s.lockage.phase = .split) :
    let t' := s.lashed (.entered n kind endA endB t rated (s.endsCross endA endB))
    ∃ cut, let u : State := { t' with lockage := { s.lockage with phase := .split, boatCut := cut, remaining := 0 } }
      u.boatCutDecided ∧ exec .enrol s = .next (s.answered q qs .done [item 1 n]
        { u with notices := s.lockageNotices u 0 }) := by
  intro t'
  have done := h.done_taken rfl (Txn.lockageTest_split (h.free_lashed (s.newCrossing endA endB)) split true)
  rewrite [State.newCrossing_outside outside] at done
  exact done

/-- R183, R186: an ENROL in REMAKING with something left to make. -/
theorem done_remaking (remaking : s.lockage.phase = .remaking) :
    let t' := s.lashed (.entered n kind endA endB t rated (s.endsCross endA endB))
    if t'.leftToMake = 0 then exec .enrol s = .next (s.answered q qs .done [item 1 n]
      { t'.madeWhole with notices := s.notices.raise .lockage })
    else ∃ cut, let u : State := { t' with lockage := { s.lockage with boatCut := cut, remaining := t'.leftToMake } }
      u.boatCutDecided ∧ exec .enrol s = .next (s.answered q qs .done [item 1 n]
        { u with notices := s.lockageNotices u 0 }) := by
  intro t'
  have test := Txn.lockageTest_remaking (h.free_lashed (s.newCrossing endA endB)) (h.has _).once remaking true
  have left : (s.entering (.entered n kind endA endB t rated (s.newCrossing endA endB))).touch.st.leftToMake =
      t'.leftToMake := by
    rewrite [State.newCrossing_outside outside]
    rfl
  rewrite [left] at test
  split
  · next none =>
    have done := h.done_tested rfl (f := fun u => { u.madeWhole with notices := u.notices.raise .lockage })
      (test.trans (if_pos none)) (fun _ => ⟨rfl, rfl⟩) fun _ => rfl
    rewrite [State.newCrossing_outside outside] at done
    exact done
  · next some =>
    have done := h.done_taken rfl (phase := s.lockage.phase) (left := t'.leftToMake) (times := 0)
      (test.trans ((if_neg some).trans (by rewrite [remaking, State.newCrossing_outside outside]; rfl)))
    rewrite [State.newCrossing_outside outside] at done
    exact done

end

/-- R84: MAKE in a new coupling, with the slot of a listed winch. -/
theorem done_slot (h : s.Enters q qs kind endA endB t rated orders n) (whole : s.lockage.phase = .whole) {m : Member} {k : Nat}
    (winch : t = .winch m k) (make : orders = [⟨9, 1⟩]) :
    let t' := s.lashed { Coupling.entered n kind endA endB t rated false with tendOrder := .make }
    (s.nodeOf m = none → exec .enrol s = .next (s.answered q qs .done [item 1 n] t')) ∧
    ∀ d, s.nodeOf m = some d → k ≤ d.winches → exec .enrol s = .next (s.answered q qs .done [item 1 n]
      (t'.placed d k (.heave (rated * s.policy.makeUpTension / 1000)))) := by
  intro t'
  have done := h.done_make whole winch make
  refine ⟨fun unlisted => ?_, fun d listed inside => ?_⟩
  · have here : t'.nodeOf m = none := unlisted
    rewrite [State.placeCommands, List.foldl_cons, List.foldl_nil, State.placeCommand, here] at done
    exact done
  · rewrite [State.placeCommands_one (s := t') listed inside] at done
    exact done

end State.Enters

end

/-- Settles O14: the ends are checked in the order of their fields, and then an ENROL takes the lowest free number; the
completion test and the boat cut follow outside WHOLE. -/
theorem enrolTakesTheLowestCouplingNumber : Obligations.EnrolTakesTheLowestCouplingNumber := by
  intro s q qs kind endA endB t rated orders hs hq admits one top light heavy ends winches law free record refused stands
    apart adjacent fitA fitB tended locked made
  have lashes : s.Lashes q qs kind endA endB t rated orders := ⟨hs, hq, ends, ⟨one, top⟩, ⟨light, heavy⟩,
    fun m k tending => ⟨(winches m k tending).2.2, (winches m k tending).1, (winches m k tending).2.1⟩, admits⟩
  obtain ⟨third, fourth, second, sixth, passes⟩ := s.endsRefused_spec (endA := endA) (endB := endB) law t
  refine ⟨fun no => lashes.refused (third no), fun a no => lashes.refused (fourth a no),
    fun a b no => lashes.refused (second a b no), fun a b c no => lashes.refused (sixth a b c no), fun a b c d => ?_⟩
  have pass := passes a b c d
  refine ⟨lashes.full pass, fun room lock crosses make => lashes.wrongState pass room (s.ordersBarred_made lock crosses make),
    fun room winch declares => lashes.wrongState pass room (declares ▸ s.ordersBarred_declare winch),
    fun n room low high fresh below => ?_⟩
  intro new entered done
  have enters (allowed : s.ordersBarred endA endB t orders = false) : s.Enters q qs kind endA endB t rated orders n :=
    ⟨lashes, pass, room, allowed, lowestFree_eq fresh 128 1 low (by omega) below, fresh, free, record⟩
  refine ⟨fun whole => ?_, fun none => ?_⟩
  · have allow (h : (t.code == 1 && gives orders 10) = false) := enters ((s.ordersBarred_whole whole).trans h)
    refine ⟨fun idle => (allow ?_).done_idle whole idle, fun hand m declares => (allow ?_).done_declared whole hand m declares,
      fun m k winch make => (allow ?_).done_slot whole winch make⟩
    · rcases idle with rfl | rfl | rfl <;> exact Bool.and_false _
    · rewrite [hand]
      rfl
    · rewrite [make]
      exact Bool.and_false _
  · subst none
    have enters := enters s.ordersBarred_nil
    refine ⟨fun lock => ?_, fun remaking => enters.done_remaking (by rewrite [remaking]; decide) remaking⟩
    rcases lock with breaking | split
    · have taken := enters.done_breaking (by rewrite [breaking]; decide) breaking
      simp only [breaking, reduceCtorEq, if_false, beq_self_eq_true, Bool.true_and, beq_iff_eq]
      exact taken
    · have taken := enters.done_split (by rewrite [split]; decide) split
      simp only [split, if_true]
      exact taken

end Sys2Proof.Machine
